-- ==== Sys2Proof/Word.lean ====
section
/-! DEFINITION. The word types of the Glofar 3204: bytes, and I/Q pairs of exact integers. -/

namespace Sys2Proof

/-- One byte of a packet, of a block or of the store. -/
abbrev Byte := BitVec 8

/-- A 32-bit block or sequence number; every comparison of two is a signed difference (R62, R139). -/
abbrev BlockNo := BitVec 32

/-- A complex sample, as exact integers. Each component of a voice's output lies in -32768..32767 (00 section 5.3). -/
structure IQ where
  i : Int
  q : Int
deriving DecidableEq, Repr

/-- The pair (0, 0) of R23 and R93. -/
def IQ.zero : IQ := ⟨0, 0⟩

/-- The signed 32-bit difference a − b of two block numbers (R62, R139). -/
def BlockNo.diff (a b : BlockNo) : Int := (a - b).toInt

end Sys2Proof
end

