-- ==== Sys2Proof/Config.lean ====
section
/-! DEFINITION. The fixed figures of the part (00 section 2, R110, R173). The manual leaves no value of the part open to an
implementation, so there is no uninterpreted constant here. -/

namespace Sys2Proof.Config

/-- 00 section 2: cues per voice cue list. -/
def cuesPerVoice : Nat := 16
/-- 00 section 2: prefetch slots per voice. -/
def slotsPerVoice : Nat := 8
/-- 00 section 2: marker table entries. -/
def markerEntries : Nat := 16
/-- 00 section 2: capture list records. -/
def captureRecords : Nat := 32
/-- R110: blocks per segment. -/
def blocksPerSegment : Nat := 32768
/-- R110: bytes per segment. -/
def segmentBytes : Nat := 33554432
/-- R110: bytes per block, header and payload. -/
def blockBytes : Nat := 1024
/-- R111: bytes of a block's header. -/
def headerBytes : Nat := 16
/-- R111: bytes of a block's payload. -/
def payloadBytes : Nat := 1008
/-- R110: bytes of the attached stacked DRAM. -/
def storeBytes : Nat := 2147483648
/-- R155: 64-bit words per block. -/
def wordsPerBlock : Nat := 128
/-- R155: 64-bit words per segment. -/
def wordsPerSegment : Nat := 4194304
/-- R185: packets the sample queue holds. -/
def sampleQueueSize : Nat := 16
/-- R185: packets the control queue holds. -/
def controlQueueSize : Nat := 4
/-- R165: replies the reply queue holds. -/
def replyQueueSize : Nat := 4
/-- R2: the greatest value of bench time T. -/
def timeMax : Nat := 281474976710655
/-- The greatest value of a saturating 32-bit count (R50, R66, R89, R126, R132). -/
def max32 : Nat := 4294967295
/-- R61: the greatest value of a conceal counter. -/
def max16 : Nat := 65535
/-- R117: the greatest opening number. -/
def openingMax : Nat := 16777215
/-- R79, R91: the greatest attenuation code. -/
def attenMax : Nat := 1023
/-- R173: the part code. -/
def partCode : Nat := 0x3204
/-- R173: the revision of the part the manual describes. -/
def revision : Nat := 1
/-- R149: the greatest refresh debt. -/
def debtMax : Nat := 8

end Sys2Proof.Config
end

