-- ==== Sys2Proof/Syntax.lean ====
section
/-! DEFINITION. The commands of the part: one constructor per row of spec/opcode_table.json. Each of the forty controls is the
arrival of one CONTROL packet (assumption log 1); its operands are the packet's tag and its body's bytes. Where a row is one mode of a
control, the mode's tuple stands first in the body and the operand is the rest of the chain. -/

namespace Sys2Proof

/-- A command from outside the part or an event of the part (rows of opcode_table.json). -/
inductive Instr where
  /-- IDENT (R173). -/
  | ident (tag : BitVec 16) (body : List Byte)
  /-- QUERY with target SCENE (R18); the index of the TARGET tuple is not read. -/
  | queryScene (tag : BitVec 16) (index : Byte) (rest : List Byte)
  /-- QUERY with target VOICE (R48). -/
  | queryVoice (tag : BitVec 16) (index : Byte) (rest : List Byte)
  /-- QUERY with target PORT (R95). -/
  | queryPort (tag : BitVec 16) (index : Byte) (rest : List Byte)
  /-- QUERY with target LINES (R101). -/
  | queryLines (tag : BitVec 16) (index : Byte) (rest : List Byte)
  /-- QUERY with target TAKE (R130). -/
  | queryTake (tag : BitVec 16) (index : Byte) (rest : List Byte)
  /-- QUERY with target STREAMS (R146). -/
  | queryStreams (tag : BitVec 16) (index : Byte) (rest : List Byte)
  /-- QUERY with target SEGMENTS (R164). -/
  | querySegments (tag : BitVec 16) (index : Byte) (rest : List Byte)
  /-- A control of a code outside the table of 09 section 9.5 (R168). -/
  | unknownControl (tag : BitVec 16) (code : Byte) (body : List Byte)
  /-- CAPTURE_READ (R104). -/
  | captureRead (tag : BitVec 16) (body : List Byte)
  /-- TAKE_OPEN (R118, R119). -/
  | takeOpen (tag : BitVec 16) (body : List Byte)
  /-- TAKE_CLOSE (R121, R122). -/
  | takeClose (tag : BitVec 16) (body : List Byte)
  /-- TAKE_DROP (R123, R124). -/
  | takeDrop (tag : BitVec 16) (body : List Byte)
  /-- TAKE_VERIFY (R125). -/
  | takeVerify (tag : BitVec 16) (body : List Byte)
  /-- TAKE_PEEK (R128). -/
  | takePeek (tag : BitVec 16) (body : List Byte)
  /-- STREAM_BIND (R133). -/
  | streamBind (tag : BitVec 16) (body : List Byte)
  /-- STREAM_UNBIND (R134). -/
  | streamUnbind (tag : BitVec 16) (body : List Byte)
  /-- CUE_LOAD (R32). -/
  | cueLoad (tag : BitVec 16) (body : List Byte)
  /-- CUE_FLUSH with mode PENDING (R34). -/
  | cueFlushPending (tag : BitVec 16) (rest : List Byte)
  /-- CUE_FLUSH with mode ALL (R35). -/
  | cueFlushAll (tag : BitVec 16) (rest : List Byte)
  /-- VOICE_SET (R21). -/
  | voiceSet (tag : BitVec 16) (body : List Byte)
  /-- PORT_SET (R92). -/
  | portSet (tag : BitVec 16) (body : List Byte)
  /-- LINE_SET (R98). -/
  | lineSet (tag : BitVec 16) (body : List Byte)
  /-- MARK_LOAD (R105). -/
  | markLoad (tag : BitVec 16) (body : List Byte)
  /-- MARK_CLEAR (R108). -/
  | markClear (tag : BitVec 16) (body : List Byte)
  /-- SCENE_GO (R5). -/
  | sceneGo (tag : BitVec 16) (body : List Byte)
  /-- SCENE_PAUSE (R10). -/
  | scenePause (tag : BitVec 16) (body : List Byte)
  /-- SCENE_RESUME (R11). -/
  | sceneResume (tag : BitVec 16) (body : List Byte)
  /-- SCENE_STOP (R12). -/
  | sceneStop (tag : BitVec 16) (body : List Byte)
  /-- SCENE_FREEZE (R14). -/
  | sceneFreeze (tag : BitVec 16) (body : List Byte)
  /-- NOTICE_SET (R177). -/
  | noticeSet (tag : BitVec 16) (body : List Byte)
  /-- REPORT_SET (R181). -/
  | reportSet (tag : BitVec 16) (body : List Byte)
  /-- SELFTEST with action START (R153). -/
  | selftestStart (tag : BitVec 16) (mode pattern : Byte) (rest : List Byte)
  /-- SELFTEST with action CONTINUE (R157). -/
  | selftestContinue (tag : BitVec 16) (mode pattern : Byte) (rest : List Byte)
  /-- SELFTEST with action STOP (R158). -/
  | selftestStop (tag : BitVec 16) (mode pattern : Byte) (rest : List Byte)
  /-- MEM_SET (R162). -/
  | memSet (tag : BitVec 16) (body : List Byte)
  /-- POWER with action STANDBY (R188). -/
  | powerStandby (tag : BitVec 16) (quiet : BitVec 16) (rest : List Byte)
  /-- POWER with action SLEEP (R188). -/
  | powerSleep (tag : BitVec 16) (quiet : BitVec 16) (rest : List Byte)
  /-- POWER with action QUIET (R188), with the quiet time in milliseconds. -/
  | powerQuiet (tag : BitVec 16) (quiet : BitVec 16) (rest : List Byte)
  /-- RESET (R175). -/
  | reset (tag : BitVec 16) (body : List Byte)
  /-- A SAMPLE packet with a right CRC arrives: stream tag, flags, sequence number, sample count, sample bytes (R184, R185). -/
  | samplePacket (tag : BitVec 16) (flags : Byte) (seq : BitVec 32) (count : BitVec 16) (body : List Byte)
  /-- A CONTROL packet with a right CRC arrives: tag, word field, body (R184, R185). -/
  | controlPacket (tag : BitVec 16) (word : BitVec 32) (body : List Byte)
  /-- A WAKE packet with a right CRC and no body arrives (R190). -/
  | wakePacket
  /-- A packet arrives as raw bytes: the kind byte and all that follows it, the CRC included (R184, R185). -/
  | badPacket (kind : Byte) (rest : List Byte)
  /-- The transmitter sends the current flow symbol at a gap (R186). -/
  | flowSymbolSend
  /-- The transmitter chooses and sends the oldest REPLY (R179). -/
  | replySend
  /-- The transmitter chooses and sends a NOTICE (R179, R180). -/
  | noticeSend
  /-- The transmitter chooses and sends the pending REPORT (R179, R182). -/
  | reportSend
  /-- The reply of an accepted POWER SLEEP has been sent (R175). -/
  | sleepEntry
  /-- The reply of a RESET has been sent (R175). -/
  | resetReplySent
  /-- One period of SCLK (R3). -/
  | sceneTick
  /-- The tick at which line l's pulse counter counts down to 0 (R107). -/
  | pulseEnd (l : Fin 8)
  /-- The tick at which voice v's step counter reaches its ramp's interval (R83). -/
  | rampStep (v : Fin 32)
  /-- The tick at which a report falls due (R181). -/
  | reportDue
  /-- The bench drives `level` on line l from now on (R4, R97). -/
  | benchLineEdge (l : Fin 8) (level : Bool)
  /-- The voice block read in flight completes (R60). -/
  | fetchComplete
  /-- The free SIU judges the packet at the head of the sample queue (R135, R136). -/
  | intakeJudgement
  /-- The intake write in flight completes (R138, R141). -/
  | intakeWriteComplete
  /-- The verify read in flight completes (R126). -/
  | verifyReadComplete
  /-- The peek read in flight completes (R128). -/
  | peekReadComplete
  /-- A refresh interval elapses (R149). -/
  | refreshInterval
  /-- The refresh in flight completes (R149). -/
  | refreshComplete
  /-- The self-test step in flight completes (R154). `upsets` gives the words of the step that the DRAM misreads: the place of the
  word in the step's order, and the bits in which the observed word differs from the stored one (R156). -/
  | selftestStepComplete (upsets : List (Nat × BitVec 64))
  /-- The clearing write in flight completes (R158). -/
  | clearingWriteComplete
  /-- The self-refresh exit ends (R150, R190). -/
  | selfRefreshExitEnd
  /-- The quiet timer's remaining time reaches 0 (R189). -/
  | quietTimerExpiry
  /-- The DRAM's re-initialisation after a cold reset ends (R149, R159). -/
  | dramReinitEnd
  /-- Power-on (R191). -/
  | powerOn
  /-- RSTN is asserted (R191). -/
  | rstnAssert
  /-- RSTN is released with FULLN low (R191). -/
  | coldReset
  /-- RSTN is released with FULLN high (R191). -/
  | warmReset
  /-- A period of SCLK in which the STU takes no tick (R93). -/
  | sclkPeriodNoTick
deriving DecidableEq, Repr

end Sys2Proof
end

