-- ==== Sys2Proof/Machine/State.lean ====
section
/-! DEFINITION. The state of the part, block by block, as plain data, and the machine right after power-on. Each structure's
docstring names the rules of spec/ that give its fields; reset values that the spec does not give are named in the log. -/

namespace Sys2Proof.Machine

/-! ### Faults and refusals -/

/-- No command stops the part with a fault: errors are replies, counted drops, notices and block statuses (assumption log 3). -/
inductive Fault where
deriving DecidableEq, Repr

/-- Why a command has no outcome. -/
inductive Refusal where
  /-- Raised by an arm of `exec` for a row without a meaning; safe. No arm raises it: every row has its meaning. -/
  | notModelled (mnemonic : String)
deriving DecidableEq, Repr

/-! ### Scene Timing Unit -/

/-- R1: the four scene states. -/
inductive SceneState where
  | stopped | armed | running | paused
deriving DecidableEq, Repr

/-- R5: the start condition of a GO. -/
inductive StartCond where
  | immediate
  | line (l : Fin 8)
deriving DecidableEq, Repr

/-- R5, R7: the recorded GO conditions and the GO line latch. -/
structure GoConds where
  cond : StartCond
  primedWait : Bool
  latch : Bool
deriving DecidableEq, Repr

/-- R4: the direction of an edge. -/
inductive Edge where
  | rise | fall
deriving DecidableEq, Repr

/-- R102: a capture record. -/
structure Capture where
  line : Fin 8
  edge : Edge
  time : Nat
  scene : SceneState
deriving DecidableEq, Repr

/-- R105, R106: a marker's action, with the width of a PULSE. -/
inductive MarkAction where
  | set | clear | toggle
  | pulse (width : Nat)
deriving DecidableEq, Repr

/-- R105: a marker table entry. -/
structure Marker where
  time : Nat
  line : Fin 8
  action : MarkAction
deriving DecidableEq, Repr

/-- The STU's scene state, bench time, freeze flag, GO conditions, DRAINED record, capture list and marker table (R1, R2, R5, R7, R14,
R16, R102, R105). -/
structure Stu where
  scene : SceneState
  time : Nat
  frozen : Bool
  go : Option GoConds
  cueStarted : Bool
  drainedPosted : Bool
  captures : List Capture
  overrun : Bool
  markers : List Marker
deriving DecidableEq, Repr

/-- R96: a line's direction. -/
inductive Dir where
  | input | output
deriving DecidableEq, Repr

/-- R4, R96: a line's edge mode. -/
inductive EdgeMode where
  | none | rise | fall | both
deriving DecidableEq, Repr

/-- R99: a line's sleep mode. -/
inductive SleepMode where
  | hold | release
deriving DecidableEq, Repr

/-- A bench line (R96, R97, R107), with its pending edges (R4) and the level the bench drives on the wire. -/
structure Line where
  dir : Dir
  edgeMode : EdgeMode
  capture : Bool
  wake : Bool
  sleepMode : SleepMode
  latch : Bool
  pulse : Nat
  edges : List Edge
  bench : Bool
deriving DecidableEq, Repr

/-! ### Voice Engine -/

/-- R112: the sample formats. -/
inductive Format where
  | iq8 | iq12 | iq16
deriving DecidableEq, Repr

/-- R22: the five voice states. -/
inductive VoiceState where
  | idle | priming | waiting | playing | starved
deriving DecidableEq, Repr

/-- R20: the conceal setting. -/
inductive Conceal where
  | zero | hold
deriving DecidableEq, Repr

/-- R20: the time mode. -/
inductive TimeMode where
  | slip | keep
deriving DecidableEq, Repr

/-- R30: a cue's start mode, with its time or its line. -/
inductive StartMode where
  | follow
  | atTime (t : Nat)
  | onLine (l : Fin 8)
deriving DecidableEq, Repr

/-- R23, R30: a cue's end action, and the rest output selection it gives. -/
inductive Rest where
  | zero | held
deriving DecidableEq, Repr

/-- R44, R45: why a cue is skipped. -/
inductive SkipReason where
  | notReady | range
deriving DecidableEq, Repr

/-- What the arrival of the fetch cursor decided about a cue (R44, R45): nothing yet, skipped, a resident cue with its effective length
and clamped mark, a ring cue that waits for its first block, or a ring cue with its start block. -/
inductive Verdict where
  | undecided
  | skipped (reason : SkipReason)
  | resident (length : Nat) (clamped : Bool)
  | ringWaiting
  | ring (start : BlockNo)
deriving DecidableEq, Repr

/-- R30: a cue record. An absent SHIFT gives `freq` 0 and `phase` none (CONTINUE). -/
structure Cue where
  label : BitVec 16
  take : Fin 64
  start : BitVec 32
  length : Nat
  count : Nat
  mode : StartMode
  endAction : Rest
  entry : Option Nat
  ramp : Option (Nat × Nat)
  freq : BitVec 32
  phase : Option (BitVec 16)
  notifyStart : Bool
  notifyEnd : Bool
  verdict : Verdict
deriving DecidableEq, Repr

/-- R50, R59: the status of a filled slot, and R114's judgement of a block. -/
inductive BlockStatus where
  | valid | absent | corrupt
deriving DecidableEq, Repr

/-- R50: the record of a RESERVED (`status` none) or FILLED slot. -/
structure Slot where
  cue : Nat
  label : BitVec 16
  pass : Nat
  block : BlockNo
  first : Nat
  count : Nat
  status : Option BlockStatus
  samples : List IQ
  played : Nat
deriving DecidableEq, Repr

/-- R52: the fetch cursor. A target holds the cue's place in the list, the pass, the block and the least index within the block to plan
from (0 but after a skip, R69). A held ring target has no block while its start is not fixed. -/
inductive Cursor where
  | cleared
  | atTarget (cue pass : Nat) (block : BlockNo) (least : Nat)
  | held (cue pass : Nat) (block : Option BlockNo)
  | atEnd (cue : Nat)
deriving DecidableEq, Repr

/-- R57: what a fetch request names: the opening number, the block number, the block's store address, and the take's kind and format. -/
structure FetchReq where
  opening : Nat
  block : BlockNo
  addr : Nat
  ring : Bool
  format : Format
deriving DecidableEq, Repr

/-- R56, R58: a voice's outstanding request. -/
inductive FetchStage where
  | none
  | waiting (r : FetchReq)
  | granted (r : FetchReq)
deriving DecidableEq, Repr

/-- R82: a running ramp. -/
structure Ramp where
  target : Nat
  interval : Nat
  counter : Nat
deriving DecidableEq, Repr

/-- A voice (02 section 2.1, R20, R50, R52, R62, R66, R74, R75, R79, R82). `slots` lists the RESERVED and FILLED slots in fill order
(R51); the slots not listed are EMPTY. `started` says that the head cue has begun to play. -/
structure Voice where
  port : Fin 4
  conceal : Conceal
  timeMode : TimeMode
  primeDepth : Nat
  resumeDepth : Nat
  state : VoiceState
  cues : List Cue
  slots : List Slot
  cursor : Cursor
  req : FetchStage
  assigned : Nat
  started : Bool
  pass : Nat
  offset : Nat
  phase : BitVec 32
  freq : BitVec 32
  atten : Nat
  ramp : Option Ramp
  rest : Rest
  lastOut : IQ
  absentCount : Nat
  corruptCount : Nat
  concealReported : Bool
  starvedTicks : Nat
deriving DecidableEq, Repr

/-! ### Mixer and Output Ports -/

/-- R91: the DAC widths. -/
inductive Width where
  | w12 | w14 | w16
deriving DecidableEq, Repr

/-- R91: the pause output. -/
inductive PauseOut where
  | hold | zero
deriving DecidableEq, Repr

/-- An output port (R89, R91, R94). -/
structure Port where
  enable : Bool
  headroom : Nat
  atten : Nat
  width : Width
  pause : PauseOut
  clip : Nat
  last : IQ
deriving DecidableEq, Repr

/-! ### Take Store -/

/-- R116: the states of a directory entry. -/
inductive TakeState where
  | free | filling | ready | live | ended
deriving DecidableEq, Repr

/-- R115: the kinds of a take. -/
inductive TakeKind where
  | resident | ring
deriving DecidableEq, Repr

/-- R115: the states of a verify record. -/
inductive VerifyState where
  | none | running | done | aborted
deriving DecidableEq, Repr

/-- R125, R126: a take's verify record: its range is `size` blocks from `first`, and `next` is the next block to read. -/
structure Verify where
  state : VerifyState
  opening : Nat
  first : BlockNo
  size : Nat
  next : BlockNo
  checked : Nat
  absent : Nat
  corrupt : Nat
  firstBad : Option (BlockNo × BlockStatus)
deriving DecidableEq, Repr

/-- R139: the write state of a ring take that has been written: first block written and write position w. -/
structure RingState where
  first : BlockNo
  w : BlockNo
deriving DecidableEq, Repr

/-- R115: a take directory entry, with the SIU's ring write state (R139; none is "nothing written"). `written` lists the written block
numbers in rising order. A FREE entry's other fields but the verify record are absent and stand at their cleared values. -/
structure Take where
  state : TakeState
  kind : TakeKind
  format : Format
  segments : List (Fin 64)
  opening : Nat
  written : List Nat
  lastCount : Nat
  blockCount : Nat
  length : Nat
  holes : Nat
  tag : Option (BitVec 16)
  ring : Option RingState
  verify : Verify
deriving DecidableEq, Repr

/-- A single request of a block other than a voice: none outstanding, waiting at the arbiter, or granted (R147). -/
inductive Stage where
  | idle | waiting | granted
deriving DecidableEq, Repr

/-- The take directory, the opening counter (R117) and the verify's read with the take it reads (R126). -/
structure Tks where
  takes : Vector Take 64
  counter : Nat
  verifyTake : Fin 64
  verifyStage : Stage
deriving DecidableEq, Repr

/-! ### Stream Intake Unit -/

/-- R185: a SAMPLE packet that passed the checks of the link. -/
structure SamplePkt where
  tag : BitVec 16
  seq : BlockNo
  count : Nat
  format : Format
  last : Bool
  data : List Byte
deriving DecidableEq, Repr

/-- R132: a stream table entry. -/
structure StreamEntry where
  tag : BitVec 16
  take : Fin 64
  accepted : Nat
  dropped : Nat
deriving DecidableEq, Repr

/-- What a judgement found about the place of an accepted packet (R137, R140): a resident block, the first block of a ring, one in
order or ahead by d, or a late one within its lap. -/
inductive Placing where
  | resident
  | first
  | ahead (d : Nat)
  | late
deriving DecidableEq, Repr

/-- R135: a packet judged for writing, with the take as the judgement found it. `stands` says that the entry which judged it still
stands (R138). -/
structure Judged where
  packet : SamplePkt
  take : Fin 64
  opening : Nat
  addr : Nat
  placing : Placing
  stands : Bool
deriving DecidableEq, Repr

/-- R146: the intake stage. -/
inductive IntakeStage where
  | idle
  | judged (j : Judged)
  | writing (j : Judged)
deriving DecidableEq, Repr

/-- The stream table, in ascending tag order, the intake tally and the intake stage (R132, R146). -/
structure Siu where
  entries : List StreamEntry
  unrouted : Nat
  overrun : Nat
  stage : IntakeStage
deriving DecidableEq, Repr

/-! ### Store Memory Controller -/

/-- R111: a block as it is written by the intake. -/
structure BlockImage where
  number : BlockNo
  opening : Nat
  format : Format
  last : Bool
  count : Nat
  check : BitVec 16
  data : List Byte
deriving DecidableEq, Repr

/-- R153: the self-test patterns. -/
inductive Pattern where
  | pseudo | march
deriving DecidableEq, Repr

/-- R153: the self-test modes. -/
inductive TestMode where
  | normal | halt | loop
deriving DecidableEq, Repr

/-- R152: the self-test engine's states. -/
inductive EngineState where
  | idle | running | halted | stopping | clearing
deriving DecidableEq, Repr

/-- R158: how a run ended. -/
inductive EndCause where
  | complete | stopped | stoppedAfterPass
deriving DecidableEq, Repr

/-- R152, R154: where the work of a pass stands: the segment, the sweep (PSEUDO 0..1) or element (MARCH 0..11, round by round), how
many words of it are done in its order, and whether the word just before is still owed its write (R157). -/
structure TestPos where
  seg : Fin 64
  sweep : Nat
  word : Nat
  owed : Bool
deriving DecidableEq, Repr

/-- R152, R156: the failure record when it is filled and locked. -/
structure Failure where
  seg : Fin 64
  offset : Nat
  lanes : Nat
  expected : BitVec 64
  observed : BitVec 64
  pass : Nat
deriving DecidableEq, Repr

/-- R158: the end summary. -/
structure EndSummary where
  cause : EndCause
  mode : TestMode
  pattern : Pattern
  passes : Nat
  good : Nat
  failed : Nat
  untested : Nat
  locked : Bool
deriving DecidableEq, Repr

/-- R152: the self-test run record. An unlocked failure record is empty. `stage` is the step outstanding at the arbiter. While CLEARING,
`clearing` lists the segments still to clear and `clearBlock` is the next block of the first of them (R158). -/
structure Engine where
  state : EngineState
  mode : TestMode
  pattern : Pattern
  pass : Nat
  pos : TestPos
  mismatch : Bool
  passesDone : Nat
  written : List (Fin 64)
  failure : Option Failure
  summary : Option EndSummary
  stage : Stage
  endCause : EndCause
  clearing : List (Fin 64)
  clearBlock : Nat
deriving DecidableEq, Repr

/-- R151: a segment's test state. -/
inductive SegState where
  | good | failed | untested
deriving DecidableEq, Repr

/-- R161: the check-injection record when it is not NONE. -/
structure Injection where
  take : Fin 64
  block : BlockNo
  armed : Bool
deriving DecidableEq, Repr

/-- R147: the burst that occupies the store port, with all that its completion does in the store. -/
inductive Burst where
  | refresh
  | fetch (v : Fin 32) (r : FetchReq)
  | intake (addr : Nat) (image : BlockImage)
  | peek (addr : Nat)
  | verify (t : Fin 64) (addr : Nat)
  | selftest (pattern : Pattern) (pass : Nat) (pos : TestPos)
  | clearing (addr : Nat)
deriving DecidableEq, Repr

/-- The store port, the arbiter's last-voice record (R148), refresh (R149), the re-initialisation of a cold reset (R147), the segment
test states (R151), the self-test engine (R152) and the check-injection record (R161). -/
structure Smc where
  port : Option Burst
  lastVoice : Fin 32
  debt : Nat
  rate : Nat
  timerOn : Bool
  reinit : Bool
  segs : Vector SegState 64
  engine : Engine
  injection : Option Injection
deriving DecidableEq, Repr

/-! ### Bench Link Interface and Control Unit -/

/-- R185: a CONTROL packet that passed the checks of the link. -/
structure CtlPkt where
  tag : BitVec 16
  code : Byte
  body : List Byte
deriving DecidableEq, Repr

/-- R167: the status codes of a REPLY. -/
inductive Status where
  | ok | accepted | busy | inUse | noTake | noSpace | range | frozen | state | malformed | unknown | full
deriving DecidableEq, Repr

/-- R166: a REPLY in the reply queue. -/
structure Reply where
  tag : BitVec 16
  code : Byte
  status : Status
  body : List Byte
deriving DecidableEq, Repr

/-- R186: the flow state, and the flow symbols. -/
inductive Flow where
  | hold | release
deriving DecidableEq, Repr

/-- R184: a packet the part sends: a REPLY, a NOTICE of a source, or a REPORT. -/
inductive UpPacket where
  | reply (r : Reply)
  | notice (source : Fin 43) (body : List Byte)
  | report (body : List Byte)
deriving DecidableEq, Repr

/-- The link queues, oldest first, the flow state, the last flow symbol sent, and the last packet sent (R185, R186, R187). -/
structure Bli where
  sampleQ : List SamplePkt
  controlQ : List CtlPkt
  replyQ : List Reply
  flow : Flow
  lastSymbol : Option Flow
  sent : Option UpPacket
deriving DecidableEq, Repr

/-- R128: the peek a HOLDING Control Unit waits for. -/
structure PeekReq where
  tag : BitVec 16
  opening : Nat
  block : BlockNo
  addr : Nat
deriving DecidableEq, Repr

/-- R175: the controls that close the Control Unit. -/
inductive Closing where
  | sleep | reset
deriving DecidableEq, Repr

/-- R165: the conditions of the Control Unit. A CLOSED one knows whether its closing reply has been sent (R175). -/
inductive Ctu where
  | free
  | holding (p : PeekReq) (stage : Stage)
  | closed (why : Closing) (sent : Bool)
deriving DecidableEq, Repr

/-! ### Notice Unit -/

/-- R172: a result field is the list of its tuples' data: none when the field is absent, one for a plain field, one per item of a
list. -/
abbrev Field := List (List Byte)

/-- R176: a source's settings. -/
structure SourceSetting where
  kinds : BitVec 16
  level : Nat
deriving DecidableEq, Repr

/-- R178: a notice queue entry. -/
structure Entry where
  kinds : BitVec 16
  count : Nat
  level : Nat
  firstKind : Nat
  firstTime : Nat
  detail : List Field
deriving DecidableEq, Repr

/-- The notice sources' settings, the notice queue by source, the report interval and the pending report's body (R176, R178, R181). -/
structure Ntu where
  settings : Vector SourceSetting 43
  queue : Vector (Option Entry) 43
  interval : Nat
  report : Option (List Byte)
deriving DecidableEq, Repr

/-- An event a block posts (R178): source, kind number and detail. -/
structure Event where
  source : Fin 43
  kind : Nat
  detail : List Field
deriving DecidableEq, Repr

/-! ### Power Control -/

/-- 11 section 11.3: the power states. -/
inductive PowerState where
  | active | standby | waking | sleep
deriving DecidableEq, Repr

/-- R190: the wake causes. -/
inductive WakeCause where
  | link
  | line (l : Fin 8)
  | reset
deriving DecidableEq, Repr

/-- R173, R191: the reset causes. -/
inductive ResetCause where
  | powerOn | resetLineCold | resetLineWarm | resetControl
deriving DecidableEq, Repr

/-- The power state, the wake cause and the state left (R190), the quiet timer (R189), the last reset cause (R191) and the RSTN pin.
`quietLeft` is the value the timer was last loaded with: its countdown is real time (assumption log 6). `powerHeld` says that a power-on
waits in reset for the release of RSTN (R191). -/
structure Pwc where
  power : PowerState
  wakeCause : Option WakeCause
  left : Option PowerState
  quietTime : Nat
  quietLeft : Nat
  resetCause : ResetCause
  rstn : Bool
  powerHeld : Bool
deriving DecidableEq, Repr

/-! ### The whole part -/

/-- The ten blocks of the part (00 section 3): everything but the contents of the store. -/
structure Device where
  bli : Bli
  ctu : Ctu
  stu : Stu
  lines : Vector Line 8
  voices : Vector Voice 32
  ports : Vector Port 4
  tks : Tks
  siu : Siu
  smc : Smc
  ntu : Ntu
  pwc : Pwc
deriving DecidableEq, Repr

/-- The state: the blocks, the DRAM's contents (rising addresses, no zero byte listed) and the queue of waiting commands. -/
structure State where
  dev : Device
  mem : List Host.Cell
  pending : List Instr
deriving DecidableEq, Repr

/-! ### Named updates, one per block -/

/-- The device with another Bench Link Interface. -/
def Device.setBli (d : Device) (x : Bli) : Device := { d with bli := x }
/-- The device with another Control Unit condition. -/
def Device.setCtu (d : Device) (x : Ctu) : Device := { d with ctu := x }
/-- The device with another Scene Timing Unit record. -/
def Device.setStu (d : Device) (x : Stu) : Device := { d with stu := x }
/-- The device with other bench lines. -/
def Device.setLines (d : Device) (x : Vector Line 8) : Device := { d with lines := x }
/-- The device with other voices. -/
def Device.setVoices (d : Device) (x : Vector Voice 32) : Device := { d with voices := x }
/-- The device with other ports. -/
def Device.setPorts (d : Device) (x : Vector Port 4) : Device := { d with ports := x }
/-- The device with another Take Store. -/
def Device.setTks (d : Device) (x : Tks) : Device := { d with tks := x }
/-- The device with another Stream Intake Unit. -/
def Device.setSiu (d : Device) (x : Siu) : Device := { d with siu := x }
/-- The device with another Store Memory Controller. -/
def Device.setSmc (d : Device) (x : Smc) : Device := { d with smc := x }
/-- The device with another Notice Unit. -/
def Device.setNtu (d : Device) (x : Ntu) : Device := { d with ntu := x }
/-- The device with another Power Control. -/
def Device.setPwc (d : Device) (x : Pwc) : Device := { d with pwc := x }
/-- The state with another device. -/
def State.setDev (s : State) (x : Device) : State := { s with dev := x }
/-- The state with other store contents. -/
def State.setMem (s : State) (x : List Host.Cell) : State := { s with mem := x }
/-- The state with another queue of waiting commands. -/
def State.setPending (s : State) (x : List Instr) : State := { s with pending := x }

/-! ### Reset values -/

/-- R19: the scene after any reset. -/
def Stu.reset : Stu :=
  { scene := .stopped, time := 0, frozen := false, go := none, cueStarted := false, drainedPosted := false, captures := [],
    overrun := false, markers := [] }

/-- R96, R109: a line after any reset; the bench goes on driving its level. -/
def Line.reset (bench : Bool) : Line :=
  { dir := .input, edgeMode := .none, capture := false, wake := false, sleepMode := .release, latch := false, pulse := 0, edges := [],
    bench := bench }

/-- R20: a voice's default port. -/
def Voice.defaultPort (v : Fin 32) : Fin 4 := ⟨v.val % 4, Nat.mod_lt _ (by decide)⟩

/-- R20, R49: voice v after any reset. The play position stands at pass 1, offset 0 and the assigned count at 0 (assumption log 25). -/
def Voice.reset (v : Fin 32) : Voice :=
  { port := Voice.defaultPort v, conceal := .zero, timeMode := .slip, primeDepth := 4, resumeDepth := 2, state := .idle, cues := [],
    slots := [], cursor := .cleared, req := .none, assigned := 0, started := false, pass := 1, offset := 0, phase := 0, freq := 0,
    atten := 0, ramp := none, rest := .zero, lastOut := IQ.zero, absentCount := 0, corruptCount := 0, concealReported := false,
    starvedTicks := 0 }

/-- R91: a port after any reset. -/
def Port.reset : Port :=
  { enable := true, headroom := 2, atten := 0, width := .w16, pause := .hold, clip := 0, last := IQ.zero }

/-- R115: a verify record with state NONE and its counts cleared. Its range, opening and next block stand at 0 (assumption log 25). -/
def Verify.none : Verify :=
  { state := .none, opening := 0, first := 0, size := 0, next := 0, checked := 0, absent := 0, corrupt := 0, firstBad := Option.none }

/-- R131: a FREE directory entry with a given verify record. -/
def Take.free (r : Verify) : Take :=
  { state := .free, kind := .resident, format := .iq8, segments := [], opening := 0, written := [], lastCount := 0, blockCount := 0,
    length := 0, holes := 0, tag := Option.none, ring := Option.none, verify := r }

/-- R117, R131: the Take Store after a cold reset. With no verify RUNNING, the take the verify reads stands at 0 (assumption log 25). -/
def Tks.reset : Tks :=
  { takes := Vector.replicate 64 (Take.free Verify.none), counter := 1, verifyTake := 0, verifyStage := .idle }

/-- R132: the Stream Intake Unit after any reset. -/
def Siu.reset : Siu := { entries := [], unrouted := 0, overrun := 0, stage := .idle }

/-- R153, R159: the first word of segment 0's work. -/
def TestPos.start : TestPos := { seg := 0, sweep := 0, word := 0, owed := false }

/-- R159: the engine of a cold reset, running NORMAL PSEUDO with its first step waiting. The end cause and the clearing position stand at COMPLETE
and at nothing to clear until a run ends (assumption log 25). -/
def Engine.reset : Engine :=
  { state := .running, mode := .normal, pattern := .pseudo, pass := 1, pos := TestPos.start, mismatch := false, passesDone := 0,
    written := [], failure := none, summary := none, stage := .waiting, endCause := .complete, clearing := [], clearBlock := 0 }

/-- R148, R149, R159, R161: the Store Memory Controller after a cold reset. No burst is left at the port (assumption log 43). -/
def Smc.reset : Smc :=
  { port := none, lastVoice := 31, debt := 0, rate := 1, timerOn := false, reinit := true, segs := Vector.replicate 64 .untested,
    engine := Engine.reset, injection := none }

/-- R186: the Bench Link Interface after any reset. No packet stands as the last one sent (assumption log 25). -/
def Bli.reset : Bli :=
  { sampleQ := [], controlQ := [], replyQ := [], flow := .release, lastSymbol := none, sent := none }

/-- R176: how many kinds a source has. -/
def kindCount (s : Fin 43) : Nat :=
  match s.val with
  | 0 => 2 | 1 => 3 | 2 => 3 | 3 => 1 | 4 => 6 | 5 => 3 | 6 => 1
  | 7 => 1 | 8 => 1 | 9 => 1 | 10 => 1
  | _ => 8

/-- R176: a source's default settings: SCENE, MEMORY, LINK, POWER and TAKE have every kind at level 3, the others none at level 0. -/
def SourceSetting.reset (s : Fin 43) : SourceSetting :=
  if s.val < 4 ∨ s.val = 5 then { kinds := BitVec.ofNat 16 (2 ^ kindCount s - 1), level := 3 } else { kinds := 0, level := 0 }

/-- R183: the Notice Unit after any reset. -/
def Ntu.reset : Ntu :=
  { settings := Vector.ofFn SourceSetting.reset, queue := Vector.replicate 43 none, interval := 0, report := none }

/-- R189, R191: Power Control after a reset of the given cause that leaves the power state ACTIVE. No rule gives the wake cause, the state left
and the timer's remaining time after such a reset: that no cause and no state stand recorded, and that the time is 0, are the model's choice
(assumption log 25). -/
def Pwc.reset (cause : ResetCause) : Pwc :=
  { power := .active, wakeCause := none, left := none, quietTime := 0, quietLeft := 0, resetCause := cause, rstn := false,
    powerHeld := false }

/-- The device right after a cold reset of the given cause, with the levels the bench drives (R191 and the blocks' own rules). -/
def Device.cold (cause : ResetCause) (bench : Fin 8 → Bool) : Device :=
  { bli := Bli.reset, ctu := .free, stu := Stu.reset, lines := Vector.ofFn (fun l => Line.reset (bench l)),
    voices := Vector.ofFn Voice.reset, ports := Vector.replicate 4 Port.reset, tks := Tks.reset, siu := Siu.reset, smc := Smc.reset,
    ntu := Ntu.reset, pwc := Pwc.reset cause }

/-- The machine right after power-on (R191): the bench drives 0 on every line (assumption log 10), the store lists nothing (log 9) and no
command waits. -/
def State.reset : State :=
  { dev := Device.cold .powerOn (fun _ => false), mem := [], pending := [] }

end Sys2Proof.Machine
end

