-- ==== Sys2Proof/Machine/Ops.lean ====
section
/-! DEFINITION. The named operations over the store's bytes, the checks, counters, and the geometry and judgement of blocks (R110 to
R114, R184). -/

namespace Sys2Proof.Machine

/-! ### Numbers as bytes -/

/-- The low `n` bytes of a number, least significant first (00 section 5.2). -/
def leBytes : Nat → Nat → List Byte
  | 0, _ => []
  | n + 1, x => BitVec.ofNat 8 x :: leBytes n (x / 256)

/-- The number whose bytes, least significant first, are given. -/
def leNat : List Byte → Nat
  | [] => 0
  | b :: bs => b.toNat + 256 * leNat bs

/-- The `n` data bytes from index `i`, as a number; bytes past the end count as 0. -/
def field (d : List Byte) (i n : Nat) : Nat := leNat ((d.drop i).take n)

/-- A count that stays at `top` once it reaches it (00 section 5.3). -/
def satAdd (top n k : Nat) : Nat := min top (n + k)

/-- A value clamped to a range (00 section 5.3). -/
def clampNat (lo hi n : Nat) : Nat := max lo (min hi n)

/-! ### The store's bytes -/

/-- What a byte of the store reads: the listed value, or 0 where none is listed (assumption log 9). -/
def memRead (m : List Host.Cell) (a : Nat) : Byte := (m.lookup a).getD 0

/-- The listed cells of `bytes` laid down from address `a`: zero bytes are not listed. -/
def cellsOf : Nat → List Byte → List Host.Cell
  | _, [] => []
  | a, b :: bs => if b = 0 then cellsOf (a + 1) bs else (a, b) :: cellsOf (a + 1) bs

/-- The store after `bytes` are written from address `a` on. -/
def memStore (m : List Host.Cell) (a : Nat) (bytes : List Byte) : List Host.Cell :=
  m.filter (fun c => decide (c.1 < a)) ++ (cellsOf a bytes ++ m.filter (fun c => decide (a + bytes.length ≤ c.1)))

/-- The canonical form of the store: addresses strictly rising, no zero byte listed. -/
def memWf : List Host.Cell → Bool
  | [] => true
  | [c] => decide (c.2 ≠ 0)
  | c :: c' :: m => decide (c.2 ≠ 0) && decide (c.1 < c'.1) && memWf (c' :: m)

/-- The `n` bytes of the store from address `a` on. -/
def memBytes (m : List Host.Cell) : Nat → Nat → List Byte
  | _, 0 => []
  | a, n + 1 => memRead m a :: memBytes m (a + 1) n

/-- R155: the 64-bit word at byte address `a`; lane j is the byte at `a + j`. -/
def memWord (m : List Host.Cell) (a : Nat) : BitVec 64 := BitVec.ofNat 64 (leNat (memBytes m a 8))

/-- R155: the store after the 64-bit word at byte address `a` is written. -/
def memSetWord (m : List Host.Cell) (a : Nat) (x : BitVec 64) : List Host.Cell := memStore m a (leBytes 8 x.toNat)

/-! ### Checks -/

/-- R113: one input bit of the block check. -/
def crc16Bit (r : BitVec 16) (b : Bool) : BitVec 16 :=
  if r.msb = b then r <<< 1 else (r <<< 1) ^^^ 0x1021#16

/-- The bits of a byte, most significant first. -/
def msbFirst (b : Byte) : List Bool := [7, 6, 5, 4, 3, 2, 1, 0].map (fun i => b.getLsbD i)

/-- R113: the block check over a list of bytes. -/
def crc16 (bytes : List Byte) : BitVec 16 :=
  bytes.foldl (fun r b => (msbFirst b).foldl crc16Bit r) 0xFFFF#16

/-- R184: one step of the reflected packet CRC. -/
def crc32Bit (r : BitVec 32) : BitVec 32 :=
  if r.getLsbD 0 then (r >>> 1) ^^^ 0xEDB88320#32 else r >>> 1

/-- R184: one byte of the packet CRC. -/
def crc32Byte (r : BitVec 32) (b : Byte) : BitVec 32 :=
  [0, 1, 2, 3, 4, 5, 6, 7].foldl (fun r (_ : Nat) => crc32Bit r) (r ^^^ b.setWidth 32)

/-- R184: the packet CRC over header and body. -/
def crc32 (bytes : List Byte) : BitVec 32 := ~~~(bytes.foldl crc32Byte 0xFFFFFFFF#32)

/-! ### Formats and blocks -/

/-- R112: bytes per sample. -/
def Format.bps : Format → Nat
  | .iq8 => 2
  | .iq12 => 3
  | .iq16 => 4

/-- R112: samples per block. -/
def Format.spb : Format → Nat
  | .iq8 => 504
  | .iq12 => 336
  | .iq16 => 252

/-- R112: the format code. -/
def Format.code : Format → Nat
  | .iq8 => 1
  | .iq12 => 2
  | .iq16 => 3

/-- R112: the format a code names; codes 0 and 4 and above name none. -/
def formatOf : Nat → Option Format
  | 1 => some .iq8
  | 2 => some .iq12
  | 3 => some .iq16
  | _ => none

/-- R111: a block as it is stored: the header's fields and the payload. -/
structure Block where
  number : BlockNo
  opening : Nat
  format : Nat
  last : Bool
  count : Nat
  check : BitVec 16
  payload : List Byte
deriving DecidableEq, Repr

/-- R111: the block whose first byte is at address `a`; each header field is taken from its bytes, whatever they hold. -/
def readBlock (m : List Host.Cell) (a : Nat) : Block :=
  let flags := memRead m (a + 7)
  { number := BitVec.ofNat 32 (leNat (memBytes m a 4))
    opening := leNat (memBytes m (a + 4) 3)
    format := flags.toNat % 4
    last := flags.getLsbD 7
    count := leNat (memBytes m (a + 8) 2)
    check := BitVec.ofNat 16 (leNat (memBytes m (a + 10) 2))
    payload := memBytes m (a + Config.headerBytes) Config.payloadBytes }

/-- R111: the header of a written block. -/
def imageHeader (x : BlockImage) : List Byte :=
  leBytes 4 x.number.toNat ++ leBytes 3 x.opening ++ leBytes 1 (x.format.code + (if x.last then 128 else 0)) ++ leBytes 2 x.count ++
    leBytes 2 x.check.toNat ++ leBytes 4 0

/-- R111: the 1024 bytes of a written block: header, samples, and zero in the rest of the payload. -/
def imageBytes (x : BlockImage) : List Byte :=
  let data := x.data.take Config.payloadBytes
  imageHeader x ++ data ++ List.replicate (Config.payloadBytes - data.length) 0

/-- R113: whether a stored block's check is right; a header whose count or format does not allow the computation counts as wrong. -/
def Block.checkRight (b : Block) : Bool :=
  match formatOf b.format with
  | none => false
  | some f => decide (1 ≤ b.count) && decide (b.count ≤ f.spb) && decide (crc16 (b.payload.take (b.count * f.bps)) = b.check)

/-- R114: whether a stored block belongs to an opening and a block number. -/
def Block.fits (b : Block) (opening : Nat) (number : BlockNo) : Bool := decide (b.opening = opening) && decide (b.number = number)

/-- R114: how every reader judges a stored block. -/
def Block.judge (b : Block) (opening : Nat) (number : BlockNo) : BlockStatus :=
  if b.fits opening number then (if b.checkRight then .valid else .corrupt) else .absent

/-! ### Takes in the store -/

/-- R110: a take's capacity in blocks. -/
def Take.capacity (t : Take) : Nat := t.segments.length * Config.blocksPerSegment

/-- R110: the byte address of a take's store block index. -/
def Take.address (t : Take) (index : Nat) : Nat :=
  ((t.segments[index / Config.blocksPerSegment]?).getD 0).val * Config.segmentBytes +
    index % Config.blocksPerSegment * Config.blockBytes

/-- R57, R110: the store block index of a block number: the number itself, or its place in the ring. -/
def Take.storeIndex (t : Take) (b : BlockNo) : Nat :=
  match t.kind with
  | .resident => b.toNat
  | .ring => b.toNat % t.capacity

/-- R57, R110: the byte address of a block of a take. -/
def Take.blockAddress (t : Take) (b : BlockNo) : Nat := t.address (t.storeIndex b)

/-! ### Places in vectors -/

/-- The 32 voice numbers in rising order. -/
def allVoices : List (Fin 32) :=
  [0, 1, 2, 3, 4, 5, 6, 7, 8, 9, 10, 11, 12, 13, 14, 15, 16, 17, 18, 19, 20, 21, 22, 23, 24, 25, 26, 27, 28, 29, 30, 31]
/-- The eight line numbers in rising order. -/
def allLines : List (Fin 8) := [0, 1, 2, 3, 4, 5, 6, 7]
/-- The four port numbers in rising order. -/
def allPorts : List (Fin 4) := [0, 1, 2, 3]
/-- The 64 take ids, or segment numbers, in rising order. -/
def all64 : List (Fin 64) :=
  [0, 1, 2, 3, 4, 5, 6, 7, 8, 9, 10, 11, 12, 13, 14, 15, 16, 17, 18, 19, 20, 21, 22, 23, 24, 25, 26, 27, 28, 29, 30, 31, 32, 33, 34,
    35, 36, 37, 38, 39, 40, 41, 42, 43, 44, 45, 46, 47, 48, 49, 50, 51, 52, 53, 54, 55, 56, 57, 58, 59, 60, 61, 62, 63]

/-- Line l of the device. -/
def Device.line (d : Device) (l : Fin 8) : Line := d.lines[l]
/-- Voice v of the device. -/
def Device.voice (d : Device) (v : Fin 32) : Voice := d.voices[v]
/-- Port p of the device. -/
def Device.port (d : Device) (p : Fin 4) : Port := d.ports[p]
/-- Take t of the device. -/
def Device.take (d : Device) (t : Fin 64) : Take := d.tks.takes[t]

/-- The device with another line l. -/
def Device.setLine (d : Device) (l : Fin 8) (x : Line) : Device := d.setLines (d.lines.set l x)
/-- The device with another voice v. -/
def Device.setVoice (d : Device) (v : Fin 32) (x : Voice) : Device := d.setVoices (d.voices.set v x)
/-- The device with another port p. -/
def Device.setPort (d : Device) (p : Fin 4) (x : Port) : Device := d.setPorts (d.ports.set p x)
/-- The device with another take t. -/
def Device.setTake (d : Device) (t : Fin 64) (x : Take) : Device := d.setTks { d.tks with takes := d.tks.takes.set t x }

end Sys2Proof.Machine
end

