-- ==== Sys2Proof/Machine/Flags.lean ====
section
/-! DEFINITION. The Notice Unit's posting of events: the kind flags, counts and first details of the notice queue (R176, R178). -/

namespace Sys2Proof.Machine

/-- R176: the source SCENE. -/
def srcScene : Fin 43 := 0
/-- R176: the source MEMORY. -/
def srcMemory : Fin 43 := 1
/-- R176: the source LINK. -/
def srcLink : Fin 43 := 2
/-- R176: the source POWER. -/
def srcPower : Fin 43 := 3
/-- R176: the source INTAKE. -/
def srcIntake : Fin 43 := 4
/-- R176: the source TAKE. -/
def srcTake : Fin 43 := 5
/-- R176: the source CAPTURE. -/
def srcCapture : Fin 43 := 6
/-- R176: the source PORT p. -/
def srcPort (p : Fin 4) : Fin 43 := ⟨7 + p.val, by omega⟩
/-- R176: the source VOICE v. -/
def srcVoice (v : Fin 32) : Fin 43 := ⟨11 + v.val, by omega⟩

/-- R176: the bit that stands for a kind number. -/
def kindBit (k : Nat) : BitVec 16 := BitVec.ofNat 16 (2 ^ k)

/-- R178: whether a source has a kind enabled. -/
def Ntu.enabled (n : Ntu) (s : Fin 43) (k : Nat) : Bool := (n.settings[s]).kinds.getLsbD k

/-- R178: the entry of a source after an enabled event of it. -/
def Entry.posted (time : Nat) (level : Nat) (e : Event) : Option Entry → Entry
  | none => { kinds := kindBit e.kind, count := 1, level := level, firstKind := e.kind, firstTime := time, detail := e.detail }
  | some x => { x with kinds := x.kinds ||| kindBit e.kind, count := satAdd 255 x.count 1 }

/-- R178: an event is posted at bench time `time`. -/
def Ntu.post (n : Ntu) (time : Nat) (e : Event) : Ntu :=
  if n.enabled e.source e.kind then
    { n with queue := n.queue.set e.source (some (Entry.posted time (n.settings[e.source]).level e n.queue[e.source])) }
  else n

/-- R178: a block posts an event, with T as it stands. -/
def Device.post (d : Device) (e : Event) : Device := d.setNtu (d.ntu.post d.stu.time e)

/-- Events posted one after another. -/
def Device.postAll (d : Device) (es : List Event) : Device := es.foldl Device.post d

end Sys2Proof.Machine
end

