-- ==== Sys2Proof/Machine/Operands.lean ====
section
/-! DEFINITION. Operand forms: tuple chains of control bodies (R169, R170), packets (R184, R185), result chains (R172), and the numbers
that stand for enumerated values (09 section 9.6; assumption log 13). -/

namespace Sys2Proof.Machine

/-! ### Tuple chains -/

/-- R169: a tuple: its code and its data bytes. -/
structure Tuple where
  code : Nat
  data : List Byte
deriving DecidableEq, Repr

/-- 09 section 9.6: the data lengths the tuple table gives a code; none for a code outside the table. -/
def tupleLinks : Nat → Option (List Nat)
  | 0x01 => some [1] | 0x02 => some [1] | 0x03 => some [4] | 0x04 => some [2] | 0x05 => some [4] | 0x06 => some [1] | 0x07 => some [2]
  | 0x10 => some [14] | 0x11 => some [6] | 0x12 => some [1] | 0x13 => some [2] | 0x14 => some [4] | 0x15 => some [7] | 0x16 => some [1]
  | 0x20 => some [2] | 0x21 => some [2] | 0x22 => some [2] | 0x23 => some [2] | 0x24 => some [2]
  | 0x28 => some [2] | 0x29 => some [2] | 0x2A => some [3] | 0x2B => some [2] | 0x2C => some [2]
  | 0x30 => some [2] | 0x31 => some [2] | 0x32 => some [2] | 0x33 => some [2] | 0x34 => some [2] | 0x35 => some [2]
  | 0x38 => some [8, 10] | 0x40 => some [2] | 0x41 => some [0] | 0x48 => some [4] | 0x49 => some [4]
  | 0x50 => some [3] | 0x51 => some [1] | 0x52 => some [5] | 0x53 => some [0] | 0x58 => some [3]
  | _ => none

/-- R169: whether a link byte agrees with the tuple table; a code outside the table takes any link. -/
def linkFits (code link : Nat) : Bool :=
  match tupleLinks code with
  | none => true
  | some ls => ls.contains link

/-- R169: whether a tuple's data agree with the tuple table: with its link, and a MARK carries a width exactly when its action is PULSE
(09 section 9.6). -/
def tupleFits (code : Nat) (data : List Byte) : Bool :=
  linkFits code data.length &&
    (if code = 0x38 then decide (data.length = if field data 7 1 = 3 then 10 else 8) else true)

/-- R169: the items of a chain up to its END, at most `fuel` of them; none for a fault of form. -/
def readItems : Nat → List Byte → Option (List Tuple)
  | 0, _ => none
  | _ + 1, [] => none
  | fuel + 1, c :: rest =>
    if c = 0x00#8 then readItems fuel rest
    else if c = 0xFF#8 then some []
    else
      match rest with
      | [] => none
      | link :: more =>
        if link = 0xFF#8 ∨ more.length < link.toNat ∨ tupleFits c.toNat (more.take link.toNat) = false then none
        else (readItems fuel (more.drop link.toNat)).map (fun ts => ⟨c.toNat, more.take link.toNat⟩ :: ts)

/-- R169: a control body read as a tuple chain; an empty body is a chain holding only END. -/
def readChain (body : List Byte) : Option (List Tuple) :=
  match body with
  | [] => some []
  | _ :: _ => readItems (body.length + 1) body

/-- The tuples of a code, in chain order. -/
def tuplesOf (code : Nat) (ts : List Tuple) : List Tuple := ts.filter (fun t => decide (t.code = code))

/-- R170: the data of a required argument tuple; none when it is missing or given twice. -/
def argument (code : Nat) (ts : List Tuple) : Option (List Byte) :=
  match tuplesOf code ts with
  | [t] => some t.data
  | _ => none

/-- R170: whether a flag tuple is present. -/
def flagged (code : Nat) (ts : List Tuple) : Bool := ts.any (fun t => decide (t.code = code))

/-- R169: the bytes of one tuple. -/
def tupleBytes (code : Nat) (data : List Byte) : List Byte :=
  BitVec.ofNat 8 code :: BitVec.ofNat 8 data.length :: data

/-! ### Enumerated operands (09 section 9.6) -/

/-- A take kind's value. -/
def kindOf : Nat → Option TakeKind
  | 0 => some .resident
  | 1 => some .ring
  | _ => none
/-- A cue's start mode's value, with the time and line of its own tuples. -/
def startModeOf (t : Nat) (l : Fin 8) : Nat → Option StartMode
  | 0 => some .follow
  | 1 => some (.atTime t)
  | 2 => some (.onLine l)
  | _ => none
/-- An end action's value. -/
def restOf : Nat → Option Rest
  | 0 => some .zero
  | 1 => some .held
  | _ => none
/-- A conceal setting's value. -/
def concealOf : Nat → Option Conceal
  | 0 => some .zero
  | 1 => some .hold
  | _ => none
/-- A time mode's value. -/
def timeModeOf : Nat → Option TimeMode
  | 0 => some .slip
  | 1 => some .keep
  | _ => none
/-- An off and on value, or a 0 and 1 value. -/
def onOffOf : Nat → Option Bool
  | 0 => some false
  | 1 => some true
  | _ => none
/-- A DAC width's value. -/
def widthOf : Nat → Option Width
  | 12 => some .w12
  | 14 => some .w14
  | 16 => some .w16
  | _ => none
/-- A pause output's value. -/
def pauseOf : Nat → Option PauseOut
  | 0 => some .hold
  | 1 => some .zero
  | _ => none
/-- A line direction's value. -/
def dirOf : Nat → Option Dir
  | 0 => some .input
  | 1 => some .output
  | _ => none
/-- An edge mode's value. -/
def edgeModeOf : Nat → Option EdgeMode
  | 0 => some .none
  | 1 => some .rise
  | 2 => some .fall
  | 3 => some .both
  | _ => none
/-- A sleep mode's value. -/
def sleepModeOf : Nat → Option SleepMode
  | 0 => some .hold
  | 1 => some .release
  | _ => none
/-- A self-test mode's value. -/
def testModeOf : Nat → Option TestMode
  | 0 => some .normal
  | 1 => some .halt
  | 2 => some .loop
  | _ => none
/-- A self-test pattern's value. -/
def patternOf : Nat → Option Pattern
  | 0 => some .pseudo
  | 1 => some .march
  | _ => none
/-- R162: a refresh rate. -/
def rateOf : Nat → Option Nat
  | 1 => some 1
  | 2 => some 2
  | 4 => some 4
  | _ => none

/-- An object number with `n` objects; none for one above the range (R168). -/
def numberOf (n k : Nat) : Option (Fin n) := if h : k < n then some ⟨k, h⟩ else none

/-! ### Enumerated results (R172) -/

/-- A flag's value: 1 when it is set, true or right, and 0 when it is clear, false or wrong. R172 gives flags no numbers; these are the
model's own (assumption log 32). -/
def boolCode (b : Bool) : Nat := if b then 1 else 0
/-- R1: a scene state's value. -/
def SceneState.code : SceneState → Nat
  | .stopped => 0 | .armed => 1 | .running => 2 | .paused => 3
/-- R22: a voice state's value. -/
def VoiceState.code : VoiceState → Nat
  | .idle => 0 | .priming => 1 | .waiting => 2 | .playing => 3 | .starved => 4
/-- A conceal setting's value. -/
def Conceal.code : Conceal → Nat
  | .zero => 0 | .hold => 1
/-- A time mode's value. -/
def TimeMode.code : TimeMode → Nat
  | .slip => 0 | .keep => 1
/-- A start mode's value. -/
def StartMode.code : StartMode → Nat
  | .follow => 0 | .atTime _ => 1 | .onLine _ => 2
/-- A rest output selection's value. -/
def Rest.code : Rest → Nat
  | .zero => 0 | .held => 1
/-- R44: a skip reason's value. -/
def SkipReason.code : SkipReason → Nat
  | .notReady => 0 | .range => 1
/-- R50: a slot or block status's value. -/
def BlockStatus.code : BlockStatus → Nat
  | .valid => 0 | .absent => 1 | .corrupt => 2
/-- A DAC width as a number. -/
def Width.bits : Width → Nat
  | .w12 => 12 | .w14 => 14 | .w16 => 16
/-- A pause output's value. -/
def PauseOut.code : PauseOut → Nat
  | .hold => 0 | .zero => 1
/-- A line direction's value. -/
def Dir.code : Dir → Nat
  | .input => 0 | .output => 1
/-- An edge mode's value. -/
def EdgeMode.code : EdgeMode → Nat
  | .none => 0 | .rise => 1 | .fall => 2 | .both => 3
/-- R102: an edge's value in a capture record: RISE, FALL as R102 lists them, and not as L_EDGE numbers edge modes (assumption log 13). -/
def Edge.code : Edge → Nat
  | .rise => 0 | .fall => 1
/-- A sleep mode's value. -/
def SleepMode.code : SleepMode → Nat
  | .hold => 0 | .release => 1
/-- R116: a take state's value. -/
def TakeState.code : TakeState → Nat
  | .free => 0 | .filling => 1 | .ready => 2 | .live => 3 | .ended => 4
/-- A take kind's value. -/
def TakeKind.code : TakeKind → Nat
  | .resident => 0 | .ring => 1
/-- R115: a verify state's value. -/
def VerifyState.code : VerifyState → Nat
  | .none => 0 | .running => 1 | .done => 2 | .aborted => 3
/-- R151: a segment test state's value. -/
def SegState.code : SegState → Nat
  | .good => 0 | .failed => 1 | .untested => 2
/-- R152: an engine state's value. -/
def EngineState.code : EngineState → Nat
  | .idle => 0 | .running => 1 | .halted => 2 | .stopping => 3 | .clearing => 4
/-- A self-test mode's value. -/
def TestMode.code : TestMode → Nat
  | .normal => 0 | .halt => 1 | .loop => 2
/-- A self-test pattern's value. -/
def Pattern.code : Pattern → Nat
  | .pseudo => 0 | .march => 1
/-- R158: an end cause's value. -/
def EndCause.code : EndCause → Nat
  | .complete => 0 | .stopped => 1 | .stoppedAfterPass => 2
/-- A power state's value, in the order of the table of 11 section 11.3. -/
def PowerState.code : PowerState → Nat
  | .active => 0 | .standby => 1 | .waking => 2 | .sleep => 3
/-- R173: a reset cause's value. -/
def ResetCause.code : ResetCause → Nat
  | .powerOn => 0 | .resetLineCold => 1 | .resetLineWarm => 2 | .resetControl => 3
/-- R167: a status's code. -/
def Status.code : Status → Nat
  | .ok => 0 | .accepted => 1 | .busy => 2 | .inUse => 3 | .noTake => 4 | .noSpace => 5 | .range => 6 | .frozen => 7 | .state => 8
  | .malformed => 9 | .unknown => 10 | .full => 11
/-- A marker action's value. -/
def MarkAction.code : MarkAction → Nat
  | .set => 0 | .clear => 1 | .toggle => 2 | .pulse _ => 3

/-! ### Result chains -/

/-- A plain result field of `w` bytes. -/
def num (w n : Nat) : Field := [leBytes w n]

/-- A signed value in `w` bytes, two's complement. -/
def signedBytes (w : Nat) (x : Int) : List Byte := leBytes w (x % (2 ^ (8 * w) : Nat)).toNat

/-- A record field, or one item of a list: its values one after another. -/
def record (parts : List (List Byte)) : List Byte := parts.flatten

/-- A flag in one byte, with the model's own numbers (assumption log 32). -/
def flagByte (b : Bool) : List Byte := leBytes 1 (boolCode b)

/-- R172: a long datum split into pieces of 254 bytes, the last as long as is left. -/
def pieces : Nat → List Byte → List (List Byte)
  | 0, _ => []
  | fuel + 1, d => if d.length ≤ 254 then [d] else d.take 254 :: pieces fuel (d.drop 254)

/-- R172: the tuples of field number `n`, counted from 0. -/
def fieldBytes (n : Nat) (f : Field) : List Byte :=
  (f.flatMap (fun item => pieces (item.length + 1) item)).flatMap (tupleBytes (0x80 + n))

/-- R172: the tuples of the fields from number `n` on. -/
def fieldsBytes : Nat → List Field → List Byte
  | _, [] => []
  | n, f :: fs => fieldBytes n f ++ fieldsBytes (n + 1) fs

/-- R172: a result chain, ended by END. -/
def resultChain (fs : List Field) : List Byte := fieldsBytes 0 fs ++ [0xFF#8]

/-- R2: a bench time in 6 bytes. -/
def timeBytes (t : Nat) : List Byte := leBytes 6 t

/-- R102: a capture record as a result record. -/
def Capture.bytes (c : Capture) : List Byte :=
  record [leBytes 1 c.line.val, leBytes 1 c.edge.code, timeBytes c.time, leBytes 1 c.scene.code]

/-- R139, R172: "first and w" or "nothing written". -/
def ringBytes : Option RingState → List Byte
  | some r => record [leBytes 1 0, leBytes 4 r.first.toNat, leBytes 4 r.w.toNat]
  | none => leBytes 1 1

/-- R161, R172: NONE, or the check-injection record. -/
def injectionBytes : Option Injection → List Byte
  | none => leBytes 1 0
  | some x => record [leBytes 1 1, leBytes 1 x.take.val, leBytes 4 x.block.toNat, flagByte x.armed]

/-! ### Packets -/

/-- R184: a packet as it arrives, with whether its CRC-32 is right. -/
structure Packet where
  kind : Byte
  flags : Byte
  len : Nat
  route : BitVec 16
  word : BitVec 32
  body : List Byte
  count : Nat
  crcRight : Bool
deriving DecidableEq, Repr

/-- R185: why the link discards a packet, in the order of the checks. -/
inductive LinkFault where
  | crc | length | kind | sampleSize | size
deriving DecidableEq, Repr

/-- R184: the format code of a SAMPLE packet's flags. -/
def Packet.formatCode (p : Packet) : Nat := p.flags.toNat / 16 % 4

/-- R185: whether a SAMPLE packet's format code and body length agree with its count. -/
def Packet.sampleFits (p : Packet) : Bool :=
  match formatOf p.formatCode with
  | none => false
  | some f => decide (p.body.length = p.count * f.bps)

/-- R185: the largest body of a downstream kind. -/
def maxBody (kind : Byte) : Nat := if kind = 0x01#8 then 1008 else if kind = 0x03#8 then 0 else 1024

/-- R185: the first check of the link that a packet fails, if any. -/
def Packet.fault (p : Packet) : Option LinkFault :=
  if p.crcRight = false then some .crc
  else if p.len ≠ p.body.length then some .length
  else if p.kind ≠ 0x01#8 ∧ p.kind ≠ 0x02#8 ∧ p.kind ≠ 0x03#8 then some .kind
  else if p.kind = 0x01#8 ∧ p.sampleFits = false then some .sampleSize
  else if maxBody p.kind < p.body.length then some .size
  else none

/-- R184: a packet from its raw bytes: the kind byte and what follows it. Bytes too few for a header and a CRC give a packet whose CRC is
wrong (assumption log 23). -/
def packetOf (kind : Byte) (rest : List Byte) : Packet :=
  let body := (rest.drop 11).take (rest.length - 15)
  { kind := kind
    flags := BitVec.ofNat 8 (field rest 0 1)
    len := field rest 1 2
    route := BitVec.ofNat 16 (field rest 3 2)
    word := BitVec.ofNat 32 (field rest 5 4)
    count := field rest 9 2
    body := body
    crcRight := decide (15 ≤ rest.length) &&
      decide ((crc32 (kind :: rest.take (rest.length - 4))).toNat = field rest (rest.length - 4) 4) }

/-- R184: a CONTROL packet with a right CRC. -/
def controlPacketOf (tag : BitVec 16) (word : BitVec 32) (body : List Byte) : Packet :=
  { kind := 0x02#8, flags := 0, len := body.length, route := tag, word := word, count := 0, body := body, crcRight := true }

/-- R184: a SAMPLE packet with a right CRC. -/
def samplePacketOf (tag : BitVec 16) (flags : Byte) (seq : BitVec 32) (count : BitVec 16) (body : List Byte) : Packet :=
  { kind := 0x01#8, flags := flags, len := body.length, route := tag, word := seq, count := count.toNat, body := body, crcRight := true }

/-- R184: a WAKE packet with a right CRC. -/
def wakePacketOf : Packet :=
  { kind := 0x03#8, flags := 0, len := 0, route := 0, word := 0, count := 0, body := [], crcRight := true }

/-- R184: the SAMPLE packet the sample queue takes. -/
def Packet.sample (p : Packet) (f : Format) : SamplePkt :=
  { tag := p.route, seq := p.word, count := p.count, format := f, last := p.flags.getLsbD 0, data := p.body }

/-- R184: the CONTROL packet the control queue takes; its code is byte 0 of the word field. -/
def Packet.control (p : Packet) : CtlPkt := { tag := p.route, code := p.word.setWidth 8, body := p.body }

/-- R184: the header and body of an upstream packet. -/
def upFrame (kind route word : Nat) (body : List Byte) : List Byte :=
  leBytes 1 kind ++ leBytes 1 0 ++ leBytes 2 body.length ++ leBytes 2 route ++ leBytes 4 word ++ leBytes 2 0 ++ body

/-- R166, R180, R182, R184: an upstream packet's header and body. -/
def UpPacket.frame : UpPacket → List Byte
  | .reply r => upFrame 0x08 r.tag.toNat (r.code.toNat + 256 * r.status.code) r.body
  | .notice s body => upFrame 0x09 s.val 0 body
  | .report body => upFrame 0x0A 0 0 body

/-- R184: an upstream packet as it goes out, its CRC-32 least significant byte first. -/
def UpPacket.bytes (p : UpPacket) : List Byte := p.frame ++ leBytes 4 (crc32 p.frame).toNat

end Sys2Proof.Machine
end

