-- ==== Sys2Proof/Machine/Signal.lean ====
section
/-! DEFINITION. The signal path's arithmetic, from a stored sample to a delivered port sample (04, R72 to R90). Division is floor division
throughout: each divisor is a positive power of two. -/

namespace Sys2Proof.Machine

/-- 00 section 5.3: x clamped to the range of a two's complement value of `w` bits. -/
def satBits (w : Nat) (x : Int) : Int := max (-(2 ^ (w - 1) : Nat)) (min ((2 ^ (w - 1) : Nat) - 1) x)

/-- 00 section 5.3: sat16. -/
def sat16 (x : Int) : Int := satBits 16 x

/-! ### Expansion (R72, R112) -/

/-- The two's complement value of the low `w` bits of n. -/
def signedOf (w n : Nat) : Int := (BitVec.ofNat w n).toInt

/-- R72, R112: sample j of a payload, expanded to 16 bits. -/
def expandSample (f : Format) (payload : List Byte) (j : Nat) : IQ :=
  let d := payload.drop (j * f.bps)
  match f with
  | .iq8 => ⟨signedOf 8 (field d 0 1) * 256, signedOf 8 (field d 1 1) * 256⟩
  | .iq12 =>
    ⟨signedOf 12 (field d 0 1 * 16 + field d 1 1 / 16) * 16, signedOf 12 (field d 1 1 % 16 * 256 + field d 2 1) * 16⟩
  | .iq16 => ⟨signedOf 16 (field d 0 2), signedOf 16 (field d 2 2)⟩

/-- R72: the `count` samples of a payload from index `first` on, expanded. -/
def expandSamples (f : Format) (payload : List Byte) : Nat → Nat → List IQ
  | _, 0 => []
  | first, n + 1 => expandSample f payload first :: expandSamples f payload (first + 1) n

/-! ### The voice's stages (R74, R77, R81) -/

/-- R74: the table index of a phase. -/
def tableIndex (p : BitVec 32) : Nat := p.toNat / 1048576

/-- R77: one rotated component from its two products' sum. -/
def rotated (x : Int) : Int := sat16 ((x + 16384) / 32768)

/-- R77: a sample rotated by table index k. -/
def rotate (x : IQ) (k : Nat) : IQ :=
  ⟨rotated (x.i * cosine k - x.q * sine k), rotated (x.i * sine k + x.q * cosine k)⟩

/-- R81: a component scaled by an attenuation factor. -/
def attenuated (x l : Int) : Int := (x * l + 16384) / 32768

/-- R77, R81: the voice output for an expanded sample, at phase p and attenuation code a. -/
def voiceOutput (x : IQ) (p : BitVec 32) (a : Nat) : IQ :=
  let r := rotate x (tableIndex p)
  ⟨attenuated r.i (factor a), attenuated r.q (factor a)⟩

/-! ### The port's stages (R85, R86, R87) -/

/-- R86: a port's scaled component before saturation. -/
def portScaled (ap h : Nat) (acc : Int) : Int := (acc * factor ap + (2 ^ (14 + h) : Nat)) / (2 ^ (15 + h) : Nat)

/-- R87: a component at the DAC width before saturation. -/
def dacRounded (w : Width) (y : Int) : Int :=
  match w with
  | .w16 => y
  | .w14 => (y + 2) / 4
  | .w12 => (y + 8) / 16

/-- R90: the stage at which a component first saturated. -/
inductive ClipStage where
  | port | dac
deriving DecidableEq, Repr

/-- R86, R87, R89: one component of a port's mix, and the stage at which it first saturated. -/
def mixComponent (w : Width) (ap h : Nat) (acc : Int) : Int × Option ClipStage :=
  let raw := portScaled ap h acc
  let y := sat16 raw
  let out := dacRounded w y
  (satBits w.bits out, if y ≠ raw then some .port else if satBits w.bits out ≠ out then some .dac else none)

/-- R85: the sum of the pairs handed to port p: each handed pair comes with its voice's port. -/
def portSum (p : Fin 4) (handed : List (Fin 4 × IQ)) : IQ :=
  handed.foldl (fun acc x => if x.1 = p then ⟨acc.i + x.2.i, acc.q + x.2.q⟩ else acc) IQ.zero

end Sys2Proof.Machine
end

