-- ==== Sys2Proof/Machine/Fetch.lean ====
section
/-! DEFINITION. A voice's cue list, slots and fetch cursor (02, 03): skip and clamp decisions, the cursor's walk, fetch requests, the end
of a cue and the succession of heads, the skip rule, recovery, and block completions. Each operation acts on one voice and answers the
voice and the events it posts. -/

namespace Sys2Proof.Machine

/-- What a voice reads of other blocks: the take directory, bench time T, and its own notice source. -/
structure Ctx where
  takes : Vector Take 64
  time : Nat
  src : Fin 43

/-- The take a cue names. -/
def Ctx.take (x : Ctx) (c : Cue) : Take := x.takes[c.take]

/-! ### Events (R47, R71; kind numbers of R176) -/

/-- R47: CUE_START. -/
def evCueStart (x : Ctx) (c : Cue) (pass : Nat) (clamped late : Bool) : Event :=
  ⟨x.src, 0, [num 2 c.label.toNat, num 1 c.take.val, [timeBytes x.time], num 4 pass, [flagByte clamped], [flagByte late]]⟩

/-- R47: how a cue ended. -/
inductive EndHow where
  | complete | skippedToEnd
deriving DecidableEq, Repr

/-- R47: the number of a way to end. -/
def EndHow.code : EndHow → Nat
  | .complete => 0
  | .skippedToEnd => 1

/-- R47: CUE_END. -/
def evCueEnd (x : Ctx) (c : Cue) (passes : Nat) (how : EndHow) : Event :=
  ⟨x.src, 1, [num 2 c.label.toNat, num 1 c.take.val, [timeBytes x.time], num 4 passes, num 1 how.code]⟩

/-- R47: LATE_START. -/
def evLateStart (x : Ctx) (c : Cue) (t late : Nat) (m : TimeMode) : Event :=
  ⟨x.src, 2, [num 2 c.label.toNat, num 1 c.take.val, [timeBytes x.time], [timeBytes t], [timeBytes late], num 1 m.code]⟩

/-- R66, R71: STARVED, with the missing pass and offset and the filled slots. -/
def evStarved (x : Ctx) (c : Cue) (pass offset filled : Nat) : Event :=
  ⟨x.src, 3, [num 2 c.label.toNat, num 1 c.take.val, [timeBytes x.time], [record [leBytes 4 pass, leBytes 4 offset]], num 1 filled]⟩

/-- R67, R71: RESUMED, with the starved-tick count, the mode and the skip made. -/
def evResumed (x : Ctx) (c : Cue) (ticks : Nat) (m : TimeMode) (made : Nat) : Event :=
  ⟨x.src, 4, [num 2 c.label.toNat, num 4 ticks, num 1 m.code, num 4 made]⟩

/-- R61, R71: CONCEAL. -/
def evConceal (x : Ctx) (label : BitVec 16) (take : Nat) (block : BlockNo) (st : BlockStatus) (absent corrupt : Nat) : Event :=
  ⟨x.src, 5, [num 2 label.toNat, num 1 take, num 4 block.toNat, num 1 st.code, [record [leBytes 2 absent, leBytes 2 corrupt]]]⟩

/-- R46, R47: CUE_SKIPPED. -/
def evCueSkipped (x : Ctx) (c : Cue) (r : SkipReason) : Event :=
  ⟨x.src, 6, [num 2 c.label.toNat, num 1 c.take.val, num 1 r.code, [timeBytes x.time]]⟩

/-- R64, R71: RING_LAPPED. -/
def evLapped (x : Ctx) (c : Cue) (old new : BlockNo) : Event :=
  ⟨x.src, 7, [num 2 c.label.toNat, num 1 c.take.val, num 4 old.toNat, num 4 new.toNat, num 4 (new - old).toNat]⟩

/-! ### Slots (R50, R51) -/

/-- R50: whether a slot is FILLED. -/
def Slot.filled (s : Slot) : Bool := s.status.isSome

/-- The used samples of a slot not yet played or skipped through. -/
def Slot.left (s : Slot) : Nat := s.count - s.played

/-- R50: the number of FILLED slots. -/
def Voice.filledCount (v : Voice) : Nat := (v.slots.filter Slot.filled).length

/-- The slots of the head cue. -/
def Voice.headSlots (v : Voice) : List Slot := v.slots.filter (fun s => decide (s.cue = 0))

/-- R43: whether the oldest slot is a FILLED slot of the head cue: the head's next sample is in it (R51, R65). -/
def Voice.headReady (v : Voice) : Bool :=
  match v.slots with
  | [] => false
  | s :: _ => decide (s.cue = 0) && s.filled

/-- R58: the voice with other slots; a request whose RESERVED slot is gone is released. -/
def Voice.withSlots (v : Voice) (slots : List Slot) : Voice :=
  { v with slots := slots, req := if slots.any (fun s => !s.filled) then v.req else .none }

/-- R52: the place in the list of the cue the cursor stands on. -/
def Cursor.cue : Cursor → Option Nat
  | .cleared => none
  | .atTarget c _ _ _ => some c
  | .held c _ _ => some c
  | .atEnd c => some c

/-- R52: whether every block of every pass of the head cue has been requested. -/
def Voice.headRequested (v : Voice) : Bool :=
  match v.cursor with
  | .cleared => true
  | .atTarget c _ _ _ => decide (0 < c)
  | .held c _ _ => decide (0 < c)
  | .atEnd _ => true

/-- R26, R67: whether the filled slots hold every (remaining) sample of the head cue. -/
def Voice.headHeld (v : Voice) : Bool := v.headRequested && v.headSlots.all Slot.filled

/-- R63: whether the head cue has no sample left to play. -/
def Voice.headSpent (v : Voice) : Bool := v.headRequested && v.headSlots.isEmpty

/-- R26: whether a PRIMING voice has what it needs. -/
def Voice.primed (v : Voice) : Bool := decide (v.primeDepth ≤ v.filledCount) || v.headHeld

/-- R67: whether a STARVED voice has what it needs. -/
def Voice.resumable (v : Voice) : Bool := decide (v.resumeDepth ≤ v.filledCount) || v.headHeld

/-! ### Skip and clamp decisions (R44, R45) -/

/-- R45: a ring cue's lead, clamped to 1..C − 1. -/
def ringLead (t : Take) (c : Cue) : Nat := clampNat 1 (t.capacity - 1) c.start.toNat

/-- R45: the start block of a ring cue: the later of the first block written and w − lead. -/
def ringStart (t : Take) (c : Cue) (r : RingState) : BlockNo :=
  let b := r.w - BitVec.ofNat 32 (ringLead t c)
  if 0 ≤ BlockNo.diff b r.first then b else r.first

/-- R44: the decision on a resident cue when the cursor first reaches it. -/
def judgeResident (t : Take) (c : Cue) : Verdict :=
  match t.state with
  | .ready =>
    let s := c.start.toNat
    if t.length ≤ s then .skipped .range
    else if c.length = 0 then .resident (t.length - s) false
    else if s + c.length ≤ t.length then .resident c.length false
    else .resident (t.length - s) true
  | _ => .skipped .notReady

/-- R45: the decision on a ring cue when the cursor first reaches it. -/
def judgeRing (t : Take) (c : Cue) : Verdict :=
  match t.ring with
  | some r => .ring (ringStart t c r)
  | none => if t.state = .ended then .skipped .range else .ringWaiting

/-- R44, R45: the decision on a cue when the cursor first reaches it. -/
def judgeCue (t : Take) (c : Cue) : Verdict :=
  match t.kind with
  | .resident => judgeResident t c
  | .ring => judgeRing t c

/-! ### The cursor's walk (R52 to R54, R62, R63) -/

/-- R54: where the cursor rests when no cue stands at its next place. -/
def endCursor (n : Nat) : Cursor := if n = 0 then .cleared else .atEnd (n - 1)

/-- R54: the cursor arrives at the cue of place i: the cue is judged if it was not, a skipped one is passed, and the first target of
another is taken. -/
def arriveAt (takes : Vector Take 64) : Nat → Nat → Voice → Voice
  | 0, _, v => { v with cursor := endCursor v.cues.length }
  | fuel + 1, i, v =>
    match v.cues[i]? with
    | none => { v with cursor := endCursor v.cues.length }
    | some c =>
      let t := takes[c.take]
      let verdict := if c.verdict = .undecided then judgeCue t c else c.verdict
      let v := { v with cues := v.cues.set i { c with verdict := verdict } }
      match verdict with
      | .resident _ _ => { v with cursor := .atTarget i 1 (BitVec.ofNat 32 (c.start.toNat / t.format.spb)) 0 }
      | .ring b => { v with cursor := .atTarget i 1 b 0, assigned := 0 }
      | .ringWaiting => { v with cursor := .held i 1 none, assigned := 0 }
      | _ => arriveAt takes fuel (i + 1) v

/-- R54: the cursor arrives at the cue of place i. -/
def Voice.arrive (takes : Vector Take 64) (i : Nat) (v : Voice) : Voice := arriveAt takes (v.cues.length + 1) i v

/-- R63: the cursor comes to block b of the ring cue of place i: a target when b lies below w, past the cue when the ring is ENDED,
and HELD otherwise. -/
def Voice.comeToRing (takes : Vector Take 64) (t : Take) (i : Nat) (b : BlockNo) (v : Voice) : Voice :=
  match t.ring with
  | none => { v with cursor := .held i 1 (some b) }
  | some r =>
    if BlockNo.diff b r.w < 0 then { v with cursor := .atTarget i 1 b 0 }
    else if t.state = .ended then v.arrive takes (i + 1)
    else { v with cursor := .held i 1 (some b) }

/-- R53: the first used sample and the count planned for block b of a resident pass, from index `least` of the block on. -/
def planResident (spb s l b least : Nat) : Nat × Nat :=
  let first := max (max s (b * spb) - b * spb) least
  (first, min (s + l) ((b + 1) * spb) - (b * spb + first))

/-- R62: the first used sample and the count planned for a ring block, from index `least` of the block on. -/
def planRing (spb l assigned least : Nat) : Nat × Nat :=
  (least, if l = 0 then spb - least else min (spb - least) (l - assigned))

/-- R53, R54: the cursor moves on after the request for a resident block. -/
def Voice.afterResident (takes : Vector Take 64) (spb i pass b l : Nat) (c : Cue) (v : Voice) : Voice :=
  if b < (c.start.toNat + l - 1) / spb then { v with cursor := .atTarget i pass (BitVec.ofNat 32 (b + 1)) 0 }
  else if c.count = 0 ∨ pass < c.count then
    { v with cursor := .atTarget i (satAdd Config.max32 pass 1) (BitVec.ofNat 32 (c.start.toNat / spb)) 0 }
  else v.arrive takes (i + 1)

/-- R62, R63: the cursor moves on after the request for a ring block that was given `count` samples. -/
def Voice.afterRing (takes : Vector Take 64) (t : Take) (i : Nat) (b : BlockNo) (count : Nat) (c : Cue) (v : Voice) : Voice :=
  let v := { v with assigned := v.assigned + count }
  if c.length ≠ 0 ∧ c.length ≤ v.assigned then v.arrive takes (i + 1) else v.comeToRing takes t i (b + 1)

/-! ### Requests (R56, R57, R64) -/

/-- R56, R57: the RESERVED slot and the request for a target. -/
def Voice.reserve (t : Take) (c : Cue) (i pass : Nat) (b : BlockNo) (plan : Nat × Nat) (v : Voice) : Voice :=
  { v with
    slots := v.slots ++ [⟨i, c.label, pass, b, plan.1, plan.2, none, [], 0⟩]
    req := .waiting ⟨t.opening, b, t.blockAddress b, decide (t.kind = .ring), t.format⟩ }

/-- R64: the target of a ring request after the lap check, and whether a lap was taken. -/
def lapCheck (t : Take) (b : BlockNo) : BlockNo × Bool :=
  match t.ring with
  | none => (b, false)
  | some r =>
    let low := r.w - BitVec.ofNat 32 t.capacity
    if BlockNo.diff b low < 0 then (low, true) else (b, false)

/-- R56: whether a voice may issue a request. -/
def Voice.mayRequest (v : Voice) : Bool :=
  decide (v.state ≠ .idle) && decide (v.slots.length < Config.slotsPerVoice) && decide (v.req = .none)

/-- R56: the voice issues a fetch request if it may. -/
def Voice.request (x : Ctx) (v : Voice) : Voice × List Event :=
  match v.mayRequest, v.cursor with
  | true, .atTarget i pass b least =>
    match v.cues[i]? with
    | none => (v, [])
    | some c =>
      let t := x.take c
      match c.verdict with
      | .resident l _ =>
        let v := v.reserve t c i pass b (planResident t.format.spb c.start.toNat l b.toNat least)
        (v.afterResident x.takes t.format.spb i pass b.toNat l c, [])
      | .ring _ =>
        let (b', lapped) := lapCheck t b
        let plan := planRing t.format.spb c.length v.assigned (if lapped then 0 else least)
        let v := v.reserve t c i pass b' plan
        (v.afterRing x.takes t i b' plan.2 c, if lapped then [evLapped x c b b'] else [])
      | _ => (v, [])
  | _, _ => (v, [])

/-! ### The end of a cue (R42, R43, R46) -/

/-- A slot after the head cue has left the list. -/
def Slot.shifted (s : Slot) : Slot := { s with cue := s.cue - 1 }

/-- R52: a cursor on a later cue after the head cue has left the list. -/
def Cursor.shifted : Cursor → Cursor
  | .cleared => .cleared
  | .atTarget c p b l => .atTarget (c - 1) p b l
  | .held c p b => .held (c - 1) p b
  | .atEnd c => .atEnd (c - 1)

/-- R43, R55: the head cue leaves the list, with its slots; a cursor that stood on it moves on to the cue that follows. -/
def Voice.removeHead (takes : Vector Take 64) (v : Voice) : Voice :=
  let w := { v.withSlots ((v.slots.filter (fun s => decide (s.cue ≠ 0))).map Slot.shifted) with
    cues := v.cues.tail, started := false, pass := 1, offset := 0 }
  match v.cursor.cue with
  | none => w.arrive takes 0
  | some 0 => w.arrive takes 0
  | some (_ + 1) => { w with cursor := v.cursor.shifted }

/-- R43: the state a voice takes on a head that is not skipped. -/
def Voice.headState (v : Voice) (c : Cue) : VoiceState :=
  match c.mode with
  | .follow => if v.headReady then .playing else .priming
  | _ => if v.primed then .waiting else .priming

/-- R43 step 5, R46: skipped heads are removed one after another, and the voice takes its state from the head that stays. -/
def takeHead (x : Ctx) : Nat → Voice → Voice × List Event
  | 0, v => (v, [])
  | fuel + 1, v =>
    match v.cues with
    | [] => ({ v with state := .idle, cursor := .cleared }, [])
    | c :: _ =>
      match c.verdict with
      | .skipped r =>
        let (w, es) := takeHead x fuel ({ v with rest := c.endAction }.removeHead x.takes)
        (w, evCueSkipped x c r :: es)
      | _ => ({ v with state := v.headState c }, [])

/-- R43 step 5, R46: the voice takes its head. -/
def Voice.settleHead (x : Ctx) (v : Voice) : Voice × List Event := takeHead x (v.cues.length + 1) v

/-- R43: the head cue c ends. -/
def Voice.endCue (x : Ctx) (c : Cue) (passes : Nat) (how : EndHow) (v : Voice) : Voice × List Event :=
  let (w, es) := ({ v with ramp := none, rest := c.endAction }.removeHead x.takes).settleHead x
  (w, (if c.notifyEnd then [evCueEnd x c passes how] else []) ++ es)

/-- R35, R13: what CUE_FLUSH ALL and SCENE_STOP do to a voice. -/
def Voice.flushAll (v : Voice) : Voice :=
  { v with
    cues := [], slots := [], cursor := .cleared, req := .none, state := .idle, started := false, pass := 1, offset := 0,
    rest := .zero, lastOut := IQ.zero, ramp := none, starvedTicks := 0 }

/-- R34: the cursor after a pending flush: back on the head. -/
def Cursor.flushed : Cursor → Cursor
  | .cleared => .cleared
  | .atTarget 0 p b l => .atTarget 0 p b l
  | .held 0 p b => .held 0 p b
  | _ => .atEnd 0

/-- R34: what CUE_FLUSH PENDING does to a voice. -/
def Voice.flushPending (v : Voice) : Voice :=
  { v.withSlots v.headSlots with cues := v.cues.take 1, cursor := v.cursor.flushed }

/-! ### The skip rule (R69, R70) -/

/-- R69: `d` samples of the head cue's slots are passed over: a slot wholly before the new position goes, and the one that holds it has
its played count set. -/
def passOver : Nat → List Slot → List Slot
  | _, [] => []
  | d, s :: ss =>
    if s.cue ≠ 0 then s :: ss
    else if s.left ≤ d then passOver (d - s.left) ss
    else { s with played := s.played + d } :: ss

/-- The samples left in the head cue's slots. -/
def Voice.slotsLeft (v : Voice) : Nat := (v.headSlots.map Slot.left).sum

/-- What a skip comes to: the end of the cue, or a new position; with the samples skipped. -/
inductive Skip where
  | ended (made : Nat)
  | moved (made : Nat) (v : Voice)

/-- R69: a skip of d samples on a resident cue of start s, effective length l and repeat count n. -/
def Voice.skipResident (spb s l n d : Nat) (v : Voice) : Skip :=
  let q := v.offset + d
  if n ≠ 0 ∧ n < v.pass + q / l then .ended ((n - v.pass) * l + (l - v.offset))
  else
    let p := satAdd Config.max32 v.pass (q / l)
    let o := q % l
    let w := { v with pass := p, offset := o }.withSlots (passOver d v.slots)
    let b := (s + o) / spb
    .moved d (if w.headSlots.isEmpty then { w with cursor := .atTarget 0 p (BitVec.ofNat 32 b) (s + o - b * spb) } else w)

/-- R70: the samples between the cursor and block w on the head's ring. -/
def Voice.beyondSlots (spb : Nat) (r : RingState) (v : Voice) : Nat :=
  match v.cursor with
  | .atTarget 0 _ b least => (r.w - b).toNat * spb - least
  | _ => 0

/-- R70: the cursor, k samples further on through the ring's blocks; HELD when it comes to block w. -/
def Voice.cursorOn (spb k : Nat) (r : RingState) (v : Voice) : Voice :=
  match v.cursor with
  | .atTarget 0 p b least =>
    let n := least + k
    let b' := b + BitVec.ofNat 32 (n / spb)
    { v with cursor := if BlockNo.diff b' r.w < 0 then .atTarget 0 p b' (n % spb) else .held 0 p (some b'), assigned := v.offset }
  | _ => v

/-- R70: a skip of d samples on a ring cue of length l (0 for open). -/
def Voice.skipRing (spb l d : Nat) (t : Take) (r : RingState) (v : Voice) : Skip :=
  let inSlots := v.slotsLeft
  let avail := inSlots + v.beyondSlots spb r
  let lim := l - v.offset
  if l ≠ 0 ∧ lim ≤ d ∧ lim ≤ avail then .ended lim
  else if avail ≤ d ∧ t.state = .ended then .ended avail
  else
    let k := min d avail
    let w := { v with offset := v.offset + k }.withSlots (passOver k v.slots)
    .moved k (if w.headSlots.isEmpty then w.cursorOn spb (k - inSlots) r else w)

/-- R68, R39: a skip of d samples from the play position of the head cue c. -/
def Voice.skip (x : Ctx) (c : Cue) (d : Nat) (v : Voice) : Skip :=
  let t := x.take c
  match c.verdict, t.ring with
  | .resident l _, _ => v.skipResident t.format.spb c.start.toNat l c.count d
  | .ring _, some r => v.skipRing t.format.spb c.length d t r
  | _, _ => .moved 0 v

/-- R47: the passes begun by a cue that was skipped to its end. -/
def Cue.allPasses (c : Cue) : Nat :=
  match c.verdict with
  | .resident _ _ => c.count
  | _ => 1

/-! ### Recovery and re-judgement (R26, R60, R63, R67, R68) -/

/-- R67: a recovery under SLIP. -/
def Voice.recoverSlip (x : Ctx) (c : Cue) (v : Voice) : Voice × List Event :=
  ({ v with state := .playing, starvedTicks := 0 }, [evResumed x c v.starvedTicks .slip 0])

/-- R68: a recovery under KEEP. -/
def Voice.recoverKeep (x : Ctx) (c : Cue) (v : Voice) : Voice × List Event :=
  let d := v.starvedTicks
  match v.skip x c d with
  | .ended made =>
    let (w, es) := { v with starvedTicks := 0 }.endCue x c c.allPasses .skippedToEnd
    (w, evResumed x c d .keep made :: es)
  | .moved made w =>
    if w.headReady && w.resumable then ({ w with state := .playing, starvedTicks := 0 }, [evResumed x c d .keep made])
    else ({ w with starvedTicks := 0 }, [])

/-- R26, R60, R63, R67: the voice re-judges its own state. -/
def Voice.rejudge (x : Ctx) (v : Voice) : Voice × List Event :=
  match v.cues with
  | [] => (v, [])
  | c :: _ =>
    match v.state with
    | .priming => (if v.primed then { v with state := .waiting } else v, [])
    | .starved =>
      if v.headSpent then v.endCue x c v.pass .complete
      else if v.resumable then (match v.timeMode with | .slip => v.recoverSlip x c | .keep => v.recoverKeep x c)
      else (v, [])
    | .playing => if v.started && v.headSpent then v.endCue x c v.pass .complete else (v, [])
    | _ => (v, [])

/-- Two operations on a voice, one after the other, with their events in order. -/
def andThen (f g : Voice → Voice × List Event) (v : Voice) : Voice × List Event :=
  let (w, es) := f v
  let (u, fs) := g w
  (u, es ++ fs)

/-- R56, R60: the voice re-judges its state and then may issue its next request. -/
def Voice.proceed (x : Ctx) (v : Voice) : Voice × List Event := andThen (Voice.rejudge x) (Voice.request x) v

/-! ### Block completions (R59 to R61) -/

/-- R59: the status a completed read gives a slot. -/
def slotStatus (r : FetchReq) (b : Block) (s : Slot) : BlockStatus :=
  match b.judge r.opening r.block with
  | .valid => if r.ring = false ∧ b.count < s.first + s.count then .corrupt else .valid
  | st => st

/-- R59: the count of a slot after a completed read: a short ring block reduces it. -/
def slotCount (r : FetchReq) (b : Block) (st : BlockStatus) (s : Slot) : Nat :=
  if r.ring = true ∧ st = .valid then min s.count (b.count - s.first) else s.count

/-- R60: the slot a completed read fills. -/
def Slot.fill (r : FetchReq) (b : Block) (s : Slot) : Slot :=
  let st := slotStatus r b s
  let n := slotCount r b st s
  { s with
    status := some st, count := n, samples := if st = .valid then expandSamples r.format b.payload s.first n else [] }

/-- R60: the slots after a completed read fills the RESERVED one; a slot left with no sample to play is EMPTY at once. -/
def fillSlots (r : FetchReq) (b : Block) (slots : List Slot) : List Slot :=
  (slots.map (fun s => if s.filled then s else s.fill r b)).filter (fun s => decide (s.played < s.count))

/-- R62: the assigned count after a short block has given the cue under the cursor fewer samples than planned. -/
def assignedAfter (v : Voice) (s s' : Slot) : Nat :=
  if v.cursor.cue = some s.cue then v.assigned - (s.count - s'.count) else v.assigned

/-- R61: the counters and the CONCEAL event of a completion with a status; `enabled` says that the source has CONCEAL enabled. -/
def Voice.countConceal (x : Ctx) (enabled : Bool) (s : Slot) (v : Voice) : Voice × List Event :=
  let take := match v.cues[s.cue]? with
    | some c => c.take.val
    | none => 0
  match s.status with
  | some .absent =>
    let w := { v with absentCount := satAdd Config.max16 v.absentCount 1 }
    if v.concealReported then (w, [])
    else ({ w with concealReported := enabled }, [evConceal x s.label take s.block .absent w.absentCount w.corruptCount])
  | some .corrupt =>
    let w := { v with corruptCount := satAdd Config.max16 v.corruptCount 1 }
    if v.concealReported then (w, [])
    else ({ w with concealReported := enabled }, [evConceal x s.label take s.block .corrupt w.absentCount w.corruptCount])
  | _ => (v, [])

/-- R60, R61: a completed read that is not discarded fills the voice's RESERVED slot. -/
def Voice.fill (x : Ctx) (enabled : Bool) (r : FetchReq) (b : Block) (v : Voice) : Voice × List Event :=
  match v.slots.find? (fun s => !s.filled) with
  | none => (v, [])
  | some s =>
    let s' := s.fill r b
    { v with slots := fillSlots r b v.slots, req := .none, assigned := assignedAfter v s s' }.countConceal x enabled s'

/-- R60: a completed read: the slot is filled, the voice re-judges its state, and then may issue its next request. -/
def Voice.completed (x : Ctx) (enabled : Bool) (r : FetchReq) (b : Block) (v : Voice) : Voice × List Event :=
  andThen (Voice.fill x enabled r b) (Voice.proceed x) v

/-! ### What a ring's write position and end bring about (R62, R63) -/

/-- R62, R63: ring take t has been written: a start that waited is fixed, and a HELD target below w becomes available. -/
def Voice.ringWritten (x : Ctx) (t : Fin 64) (v : Voice) : Voice × List Event :=
  match v.cursor with
  | .held i p ob =>
    match v.cues[i]?, (x.takes[t]).ring with
    | some c, some r =>
      if c.take ≠ t then (v, [])
      else
        match ob with
        | none =>
          let b := ringStart (x.takes[t]) c r
          { v with cues := v.cues.set i { c with verdict := .ring b }, cursor := .atTarget i p b 0 }.request x
        | some b => if BlockNo.diff b r.w < 0 then { v with cursor := .atTarget i p b 0 }.request x else (v, [])
    | _, _ => (v, [])
  | _ => (v, [])

/-- R46, R62, R63: ring take t has become ENDED: a cue that waits for its start is skipped, and a cursor HELD on w passes its cue. -/
def Voice.ringEnded (x : Ctx) (t : Fin 64) (v : Voice) : Voice × List Event :=
  match v.cursor with
  | .held i _ ob =>
    match v.cues[i]? with
    | some c =>
      if c.take ≠ t then (v, [])
      else
        match ob with
        | none =>
          let w := ({ v with cues := v.cues.set i { c with verdict := .skipped .range } }).arrive x.takes (i + 1)
          if i = 0 then andThen (Voice.settleHead x) (Voice.request x) w else w.request x
        | some _ => (v.arrive x.takes (i + 1)).proceed x
    | none => (v, [])
  | _ => (v, [])

end Sys2Proof.Machine
end

