-- ==== Sys2Proof/Machine/Play.lean ====
section
/-! DEFINITION. What a voice does at a tick (02 sections 2.2, 2.6, 2.7; 03 section 3.5; 04 sections 4.3 to 4.7): the pair it hands its
port, cue starts, playing, ramps, starving and cue ends. -/

namespace Sys2Proof.Machine

/-! ### What a voice hands (R23, R24, R73) -/

/-- R23: the rest output. -/
def Voice.restOut (v : Voice) : IQ :=
  match v.rest with
  | .zero => IQ.zero
  | .held => v.lastOut

/-- R24: the conceal output. -/
def Voice.concealOut (v : Voice) : IQ :=
  match v.conceal with
  | .zero => IQ.zero
  | .hold => v.lastOut

/-- R29, R73: what a voice hands at a tick at which it does not move. -/
def Voice.heldOut (v : Voice) : IQ :=
  match v.state with
  | .playing => v.lastOut
  | .starved => v.lastOut
  | _ => v.restOut

/-- What a tick makes of a voice: the voice, the pair it hands its port, its events in order, and whether a cue started. -/
structure Played where
  voice : Voice
  out : IQ
  events : List Event
  started : Bool

/-! ### Ramps (R82, R83) -/

/-- R82: a ramp is judged at a cue start. -/
def Voice.beginRamp (target interval : Nat) (v : Voice) : Voice :=
  if interval = 0 then { v with atten := target, ramp := none }
  else if v.atten = target then { v with ramp := none }
  else { v with ramp := some ⟨target, interval, 0⟩ }

/-- R83: one code toward the target. -/
def stepToward (a target : Nat) : Nat := if a < target then a + 1 else a - 1

/-- R83: a running ramp counts a played sample. -/
def Voice.countRamp (v : Voice) : Voice :=
  match v.ramp with
  | none => v
  | some r =>
    if r.counter + 1 < r.interval then { v with ramp := some { r with counter := r.counter + 1 } }
    else
      let a := stepToward v.atten r.target
      { v with atten := a, ramp := if a = r.target then none else some { r with counter := 0 } }

/-! ### Cue starts (R37 to R41) -/

/-- R44: whether a cue was clamped. -/
def Cue.clamped (c : Cue) : Bool :=
  match c.verdict with
  | .resident _ k => k
  | _ => false

/-- R41: the ramp of a starting cue. -/
def Voice.startRamp (c : Cue) (v : Voice) : Voice :=
  match c.ramp with
  | none => v
  | some (g, n) => v.beginRamp g n

/-- R41: the start actions of cue c. -/
def Voice.startActions (c : Cue) (v : Voice) : Voice :=
  let w := { v with atten := c.entry.getD v.atten }.startRamp c
  { w with
    freq := c.freq
    phase := (match c.phase with
      | none => v.phase
      | some q => BitVec.ofNat 32 (q.toNat * 65536))
    starvedTicks := 0
    started := true }

/-- R41, R47: the CUE_START event of a start, if the cue's start flag is set. -/
def startEvents (x : Ctx) (c : Cue) (late : Bool) (v : Voice) : List Event :=
  if c.notifyStart then [evCueStart x c v.pass c.clamped late] else []

/-- R27, R37 to R40: what the start condition of a waiting head says at a tick. -/
inductive Start where
  | no
  | onTime
  | late (lateness : Nat)
deriving DecidableEq, Repr

/-- R37, R38, R39, R40: the start condition, at bench time `time` and with the lines whose matching edges the tick took. -/
def startOf (time : Nat) (fired : List (Fin 8)) : StartMode → Start
  | .follow => .onTime
  | .atTime t => if time < t then .no else if time = t then .onTime else .late (time - t)
  | .onLine l => if fired.contains l then .onTime else .no

/-! ### Playing and starving (R65, R66) -/

/-- R31, R65: the play position of a resident cue of effective length l moves on by one sample. -/
def advanceResident (l : Nat) (v : Voice) : Voice :=
  if v.offset + 1 < l then { v with offset := v.offset + 1 }
  else { v with pass := satAdd Config.max32 v.pass 1, offset := 0 }

/-- R31, R65: the play position moves on by one sample; a ring cue has one pass. -/
def Voice.advance (c : Cue) (v : Voice) : Voice :=
  match c.verdict with
  | .resident l _ => advanceResident l v
  | _ => { v with offset := v.offset + 1 }

/-- R65, R73: the pair handed for the next sample of slot s. -/
def Voice.sampleOut (s : Slot) (v : Voice) : IQ :=
  match s.status, s.samples[s.played]? with
  | some .valid, some iq => voiceOutput iq v.phase v.atten
  | _, _ => v.concealOut

/-- R51: the slots after one sample of the oldest one is played. -/
def playSlot (s : Slot) (rest : List Slot) : List Slot :=
  if s.played + 1 < s.count then { s with played := s.played + 1 } :: rest else rest

/-- R65: what playing a sample changes beside the position: the last output, the phase, the ramp and the slot. -/
def Voice.consume (s : Slot) (rest : List Slot) (v : Voice) : Voice :=
  let w := { v with state := .playing, lastOut := v.sampleOut s, phase := v.phase + v.freq }.countRamp
  w.withSlots (playSlot s rest)

/-- R42, R65: the voice plays the next sample of its head cue c, from slot s, and the cue ends if that was its last. -/
def Voice.playFrom (x : Ctx) (c : Cue) (s : Slot) (rest : List Slot) (v : Voice) : Played :=
  let w := v.consume s rest
  if w.headSpent then
    let (u, es) := w.endCue x c v.pass .complete
    ⟨u, v.sampleOut s, es, false⟩
  else ⟨w.advance c, v.sampleOut s, [], false⟩

/-- R66: a RUNNING tick at which the next sample of the head cue c is not in a FILLED slot. -/
def Voice.starve (x : Ctx) (c : Cue) (v : Voice) : Played :=
  let out := v.concealOut
  let w := { v with state := .starved, starvedTicks := satAdd Config.max32 v.starvedTicks 1, lastOut := out }
  ⟨w, out, if v.state = .starved then [] else [evStarved x c v.pass v.offset v.filledCount], false⟩

/-- R65, R66: the voice plays the next sample of its head cue, or starves. -/
def Voice.playOrStarve (x : Ctx) (c : Cue) (v : Voice) : Played :=
  match v.slots with
  | [] => v.starve x c
  | s :: rest => if v.headReady then v.playFrom x c s rest else v.starve x c

/-- R47: the events of a voice whose cue starts at this tick: those of a cue that ends at it, the one just started or not, come before
`es`, the start's own; STARVED comes after them. -/
def Played.withStart (es : List Event) (p : Played) : Played :=
  { p with events := if p.voice.state = .starved then es ++ p.events else p.events ++ es, started := true }

/-- R41: the head cue c starts at this tick and its first sample is played; `before` are its events ahead of CUE_START. -/
def Voice.startCue (x : Ctx) (c : Cue) (late : Bool) (before : List Event) (v : Voice) : Played :=
  ((v.startActions c).playOrStarve x c).withStart (before ++ startEvents x c late v)

/-- R39: a late start under KEEP, late by d and with its LATE_START `es`. -/
def Voice.startKept (x : Ctx) (c : Cue) (d : Nat) (es : List Event) (v : Voice) : Played :=
  match v.skip x c d with
  | .ended _ =>
    let (w, fs) := v.endCue x c c.allPasses .skippedToEnd
    ⟨w, v.restOut, es ++ fs, false⟩
  | .moved _ w => w.startCue x c true es

/-- R39: a late start of a head cue, late by d. -/
def Voice.startLate (x : Ctx) (c : Cue) (d : Nat) (v : Voice) : Played :=
  let es := [evLateStart x c (x.time - d) d v.timeMode]
  match v.timeMode with
  | .slip => v.startCue x c true es
  | .keep => v.startKept x c d es

/-- R27: a WAITING voice at a RUNNING tick. -/
def Voice.waitingTick (x : Ctx) (fired : List (Fin 8)) (c : Cue) (v : Voice) : Played :=
  match startOf x.time fired c.mode with
  | .no => ⟨v, v.restOut, [], false⟩
  | .onTime => v.startCue x c false []
  | .late d => v.startLate x c d

/-- R22: a voice at a RUNNING tick, before its next request. A PLAYING voice whose head has not started is a gapless succession (R43). -/
def Voice.runningTick (x : Ctx) (fired : List (Fin 8)) (v : Voice) : Played :=
  match v.cues with
  | [] => ⟨v, v.restOut, [], false⟩
  | c :: _ =>
    match v.state with
    | .playing => if v.started then v.playOrStarve x c else v.startCue x c false []
    | .starved => v.starve x c
    | .waiting => v.waitingTick x fired c
    | _ => ⟨v, v.restOut, [], false⟩

/-- R56: a voice that has an EMPTY slot after a tick issues its next request; a RING_LAPPED of that request is posted last of the tick's events
(assumption log 44). -/
def Played.requested (x : Ctx) (p : Played) : Played :=
  let (w, es) := p.voice.request x
  { p with voice := w, events := p.events ++ es }

/-- R22, R29, R73: a voice at a tick of a kind; `fired` lists the lines of which the tick took a matching edge. -/
def Voice.tick (x : Ctx) (kind : SceneState) (fired : List (Fin 8)) (v : Voice) : Played :=
  match kind with
  | .running => (v.runningTick x fired).requested x
  | _ => ⟨v, v.heldOut, [], false⟩

end Sys2Proof.Machine
end

