-- ==== Sys2Proof/Machine/Bench.lean ====
section
/-! DEFINITION. Bench lines (R4, R96 to R100, R102, R103, R105 to R107): sensed levels, edges and who is handed them, captures, markers
and pulses; and what wakes the part (R190). -/

namespace Sys2Proof.Machine

/-! ### Levels and edges (R4, R97, R99) -/

/-- R97, R99: the sensed level of a line; `asleep` says that the power state is SLEEP. -/
def Line.sensed (asleep : Bool) (l : Line) : Bool :=
  if asleep && decide (l.sleepMode = .release) then l.wake && l.bench
  else
    match l.dir with
    | .output => l.latch
    | .input => l.bench

/-- R99: whether a line is blocked in SLEEP. -/
def Line.blocked (l : Line) : Bool := decide (l.sleepMode = .release) && !l.wake

/-- R4: the edge between two levels, if any. -/
def edgeOf (before after : Bool) : Option Edge :=
  match before, after with
  | false, true => some .rise
  | true, false => some .fall
  | _, _ => none

/-- R4: whether an edge's direction matches an edge mode. -/
def Edge.fits (e : Edge) (m : EdgeMode) : Bool :=
  match m, e with
  | .none, _ => false
  | .both, _ => true
  | .rise, .rise => true
  | .rise, .fall => false
  | .fall, .rise => false
  | .fall, .fall => true

/-- R4: an edge is held pending, unless one of its direction is. -/
def Line.holdEdge (e : Edge) (l : Line) : Line := if l.edges.contains e then l else { l with edges := l.edges ++ [e] }

/-- R4: a change of the sensed level is held pending. -/
def Line.noticed (before after : Bool) (l : Line) : Line :=
  match edgeOf before after with
  | none => l
  | some e => l.holdEdge e

/-- Whether the power state is SLEEP. -/
def Device.asleep (d : Device) : Bool := decide (d.pwc.power = .sleep)

/-- R97, R99: the sensed levels of the lines. -/
def Device.levels (d : Device) : Vector Bool 8 := d.lines.map (Line.sensed d.asleep)

/-- R4: the changes from one set of levels to another are held pending. -/
def Device.holdEdges (before after : Vector Bool 8) (d : Device) : Device :=
  d.setLines (Vector.ofFn (fun l => (d.line l).noticed before[l] after[l]))

/-- R99: levels with those of blocked lines taken from another set: at SLEEP entry and exit a blocked line detects no edge. -/
def Device.unblocked (d : Device) (levels other : Vector Bool 8) : Vector Bool 8 :=
  Vector.ofFn (fun l => if (d.line l).blocked then other[l] else levels[l])

/-! ### Waking (R190) -/

/-- R190: the power state becomes WAKING with a cause, and the lines leave their sleep behaviour. -/
def Device.beginWaking (cause : WakeCause) (d : Device) : Device :=
  let before := d.levels
  let w := d.setPwc { d.pwc with power := .waking, wakeCause := some cause, left := some d.pwc.power }
  if d.asleep then w.holdEdges (d.unblocked before w.levels) w.levels else w

/-- R190: an event that wakes the part in STANDBY or SLEEP. -/
def Device.wakeUp (cause : WakeCause) (d : Device) : Device :=
  match d.pwc.power with
  | .standby => d.beginWaking cause
  | .sleep => d.beginWaking cause
  | _ => d

/-- R100: whether line l hands the change between two levels to Power Control. -/
def Line.hands (before after : Bool) (l : Line) : Bool :=
  match edgeOf before after with
  | none => false
  | some e => l.wake && e.fits l.edgeMode

/-- R100, R190: line l hands its change to Power Control. -/
def Device.handEdge (before after : Vector Bool 8) (d : Device) (l : Fin 8) : Device :=
  if (d.line l).hands before[l] after[l] then d.wakeUp (.line l) else d

/-- R4, R100: the changes from one set of levels to another are held pending and handed to Power Control, in ascending line order. -/
def Device.noteChanges (before after : Vector Bool 8) (d : Device) : Device :=
  allLines.foldl (Device.handEdge before after) (d.holdEdges before after)

/-- R4, R97: lines are changed, and the changes of sensed level that follow are edges. -/
def Device.changeLines (f : Device → Device) (d : Device) : Device :=
  let w := f d
  w.noteChanges d.levels w.levels

/-- R4, R97, R191: the bench drives a level on line l; while RSTN is asserted no edge is detected. -/
def Device.benchDrives (l : Fin 8) (level : Bool) (d : Device) : Device :=
  let drive := fun d : Device => d.setLine l { d.line l with bench := level }
  if d.pwc.rstn then drive d else d.changeLines drive

/-! ### Taking edges at a tick (R4, R102, R103) -/

/-- R4: an edge taken at a tick, with its line. -/
abbrev Taken := Fin 8 × Edge

/-- R4, R102: the pending edges a tick takes, in ascending line order. -/
def Device.pendingEdges (d : Device) : List Taken := allLines.flatMap (fun l => (d.line l).edges.map (fun e => (l, e)))

/-- R4: the lines without pending edges. -/
def Device.clearEdges (d : Device) : Device := d.setLines (d.lines.map (fun l => { l with edges := [] }))

/-- R4: whether a taken edge matches its line's edge mode. -/
def Device.edgeFits (d : Device) (t : Taken) : Bool := t.2.fits (d.line t.1).edgeMode

/-- R40: the lines of which a tick took a matching edge. -/
def Device.firedLines (d : Device) (taken : List Taken) : List (Fin 8) := (taken.filter d.edgeFits).map (·.1)

/-- R103: CAPTURE_PENDING. -/
def evCapturePending (c : Capture) : Event := ⟨srcCapture, 0, [[c.bytes]]⟩

/-- R102, R103: a record is appended to the capture list, or discarded with the overrun flag set. -/
def Device.appendCapture (d : Device) (c : Capture) : Device :=
  if d.stu.captures.length < Config.captureRecords then
    let w := d.setStu { d.stu with captures := d.stu.captures ++ [c] }
    if d.stu.captures.isEmpty then w.post (evCapturePending c) else w
  else d.setStu { d.stu with overrun := true }

/-- R102: a taken edge is captured when its line's capture setting is on; `kind` is the kind of tick. -/
def Device.capture (kind : SceneState) (d : Device) (t : Taken) : Device :=
  if (d.line t.1).capture then d.appendCapture ⟨t.1, t.2, d.stu.time, kind⟩ else d

/-! ### Markers and pulses (R105 to R107) -/

/-- R107: a RUNNING tick counts a line's pulse down, and clears the latch at its end. -/
def Line.countPulse (l : Line) : Line :=
  match l.pulse with
  | 0 => l
  | 1 => { l with pulse := 0, latch := false }
  | n + 2 => { l with pulse := n + 1 }

/-- R107, R13: SCENE_STOP ends a pulse in progress. -/
def Line.abandonPulse (l : Line) : Line := if l.pulse = 0 then l else { l with pulse := 0, latch := false }

/-- R106: a marker's action on its line. -/
def MarkAction.act (a : MarkAction) (l : Line) : Line :=
  match a with
  | .set => { l with latch := true }
  | .clear => { l with latch := false }
  | .toggle => { l with latch := !l.latch }
  | .pulse w => { l with latch := true, pulse := w }

/-- R106: a marker acts. -/
def Device.mark (d : Device) (m : Marker) : Device := d.setLine m.line (m.action.act (d.line m.line))

/-- R106: the entries due at the tick act in table order and are removed. -/
def Device.actMarkers (d : Device) : Device :=
  let due := fun m : Marker => decide (m.time ≤ d.stu.time)
  (d.stu.markers.filter due).foldl Device.mark (d.setStu { d.stu with markers := d.stu.markers.filter (fun m => !due m) })

/-- R106, R107: what a RUNNING tick does to the latches; the changes of the wire are edges for the next tick. -/
def Device.tickLatches (d : Device) : Device :=
  d.changeLines (fun d => (d.setLines (d.lines.map Line.countPulse)).actMarkers)

/-- R105: an entry is placed after every entry whose time is equal to or less than its own. -/
def insertMarker (m : Marker) : List Marker → List Marker
  | [] => [m]
  | x :: xs => if x.time ≤ m.time then x :: insertMarker m xs else m :: x :: xs

end Sys2Proof.Machine
end

