-- ==== Sys2Proof/Machine/Arbiter.lean ====
section
/-! DEFINITION. The store port's arbiter (R147, R148), the departure of a packet from the sample queue (R135, R186), the block an intake
write forms (R111, R137, R143), and refresh (R149). -/

namespace Sys2Proof.Machine

/-! ### The sample queue (R185, R186) -/

/-- R186: the flow state after an arrival. -/
def Bli.arrived (b : Bli) : Bli := if b.flow = .release ∧ b.sampleQ.length = 12 then { b with flow := .hold } else b

/-- R186: the flow state after a departure or an emptying. -/
def Bli.departed (b : Bli) : Bli := if b.flow = .hold ∧ b.sampleQ.length ≤ 4 then { b with flow := .release } else b

/-- R135: the packet at the head of the sample queue leaves it. -/
def Device.popSample (d : Device) : Device := d.setBli { d.bli with sampleQ := d.bli.sampleQ.tail }.departed

/-! ### What waits at the arbiter (R147) -/

/-- R58, R147: whether a voice's request waits at the arbiter. -/
def Voice.waits (v : Voice) : Bool :=
  match v.req with
  | .waiting _ => true
  | _ => false

/-- R56, R148: whether a voice's fetch is urgent. -/
def Voice.urgent (v : Voice) : Bool :=
  (decide (v.state = .playing) || decide (v.state = .starved)) && decide (v.filledCount < 2)

/-- R148: the round-robin order after a last-voice record. -/
def searchOrder (last : Fin 32) : List (Fin 32) := allVoices.drop (last.val + 1) ++ allVoices.take (last.val + 1)

/-- R148: the voice a level of fetches grants. -/
def Device.pickVoice (d : Device) (level : Voice → Bool) : Option (Fin 32) :=
  (searchOrder d.smc.lastVoice).find? (fun v => (d.voice v).waits && level (d.voice v))

/-- R147: what a grant decision can choose. -/
inductive Choice where
  | refresh
  | fetch (v : Fin 32)
  | intake
  | peek
  | verify
  | selftest
deriving DecidableEq, Repr

/-- R135: whether the intake's write waits. -/
def Siu.waits (s : Siu) : Bool :=
  match s.stage with
  | .judged _ => true
  | _ => false

/-- R128: whether a peek's read waits. -/
def Ctu.waits (c : Ctu) : Bool :=
  match c with
  | .holding _ .waiting => true
  | _ => false

/-- R148: level 6. -/
def Device.chooseLast (d : Device) : Option Choice :=
  if d.ctu.waits then some .peek
  else if d.tks.verifyStage = .waiting then some .verify
  else if d.smc.engine.stage = .waiting then some .selftest
  else none

/-- R148: the first request in the order of levels. -/
def Device.choose (d : Device) : Option Choice :=
  if d.smc.debt = Config.debtMax then some .refresh
  else
    match d.pickVoice Voice.urgent with
    | some v => some (.fetch v)
    | none =>
      if d.siu.waits then some .intake
      else
        match d.pickVoice (fun v => !v.urgent) with
        | some v => some (.fetch v)
        | none => if 1 ≤ d.smc.debt then some .refresh else d.chooseLast

/-! ### Grants (R135, R143, R147, R149, R154) -/

/-- R147: a burst occupies the store port. -/
def Device.occupy (d : Device) (b : Burst) : Device := d.setSmc { d.smc with port := some b }

/-- R149: a refresh is granted. -/
def Device.grantRefresh (d : Device) : Device := d.setSmc { d.smc with port := some .refresh, debt := d.smc.debt - 1 }

/-- R148: voice v's fetch is granted. -/
def Device.grantFetch (v : Fin 32) (d : Device) : Device :=
  match (d.voice v).req with
  | .waiting r =>
    (d.setVoice v { d.voice v with req := .granted r }).setSmc { d.smc with port := some (.fetch v r), lastVoice := v }
  | _ => d

/-- R143: whether the check-injection record is armed for a write. -/
def Smc.injects (s : Smc) (t : Fin 64) (b : BlockNo) : Bool :=
  match s.injection with
  | none => false
  | some i => i.armed && decide (i.take = t) && decide (i.block = b)

/-- R143: the record after the grant it acted on. -/
def Smc.disarm (s : Smc) : Smc := { s with injection := s.injection.map (fun i => { i with armed := false }) }

/-- R111, R137, R143: the block an intake write forms from its packet and its judgement. -/
def Judged.image (j : Judged) (inverted : Bool) : BlockImage :=
  let check := crc16 j.packet.data
  { number := j.packet.seq, opening := j.opening, format := j.packet.format, last := j.packet.last, count := j.packet.count,
    check := if inverted then ~~~check else check, data := j.packet.data }

/-- R135, R143: the intake's write is granted. -/
def Device.grantIntake (d : Device) : Device :=
  match d.siu.stage with
  | .judged j =>
    let hit := d.smc.injects j.take j.packet.seq
    let smc := if hit then d.smc.disarm else d.smc
    ((d.popSample).setSiu { d.siu with stage := .writing j }).setSmc { smc with port := some (.intake j.addr (j.image hit)) }
  | _ => d

/-- R128: a peek's read is granted. -/
def Device.grantPeek (d : Device) : Device :=
  match d.ctu with
  | .holding p _ => (d.setCtu (.holding p .granted)).occupy (.peek p.addr)
  | _ => d

/-- R126: a verify's read is granted. -/
def Device.grantVerify (d : Device) : Device :=
  let t := d.tks.verifyTake
  (d.setTks { d.tks with verifyStage := .granted }).occupy (.verify t ((d.take t).blockAddress (d.take t).verify.next))

/-- R158: the address of the next block a clearing writes. -/
def Engine.clearAddress (e : Engine) : Nat :=
  (e.clearing.headD 0).val * Config.segmentBytes + e.clearBlock * Config.blockBytes

/-- R154, R158: a step of the self-test engine is granted; the first step of a segment's work puts it among the written ones. -/
def Device.grantSelftest (d : Device) : Device :=
  let e := d.smc.engine
  match e.state with
  | .clearing => d.setSmc { d.smc with port := some (.clearing e.clearAddress), engine := { e with stage := .granted } }
  | _ =>
    d.setSmc { d.smc with
      port := some (.selftest e.pattern e.pass e.pos)
      engine := { e with
        stage := .granted
        written := if e.written.contains e.pos.seg then e.written else e.written ++ [e.pos.seg] } }

/-- R147: a choice is granted. -/
def Device.grantChoice (c : Choice) (d : Device) : Device :=
  match c with
  | .refresh => d.grantRefresh
  | .fetch v => d.grantFetch v
  | .intake => d.grantIntake
  | .peek => d.grantPeek
  | .verify => d.grantVerify
  | .selftest => d.grantSelftest

/-- R147, R150: whether the arbiter may grant: the port is free, the DRAM is neither in self-refresh nor being re-initialised. -/
def Device.mayGrant (d : Device) : Bool := d.smc.port.isNone && decide (d.pwc.power = .active) && !d.smc.reinit

/-- R147: a grant decision. -/
def Device.grant (d : Device) : Device :=
  if d.mayGrant then
    match d.choose with
    | some c => d.grantChoice c
    | none => d
  else d

/-- R147: the port is released. -/
def Device.release (d : Device) : Device := d.setSmc { d.smc with port := none }

/-! ### Refresh (R149, R163) -/

/-- R163: REFRESH_LATE. -/
def evRefreshLate (rate time : Nat) : Event := ⟨srcMemory, 2, [num 1 rate, [timeBytes time]]⟩

/-- R149, R191: a refresh interval elapses; while RSTN is asserted the Notice Unit is held and takes no event. -/
def Device.refreshElapses (d : Device) : Device :=
  if d.smc.debt < Config.debtMax then d.setSmc { d.smc with debt := d.smc.debt + 1 }
  else if d.pwc.rstn then d
  else d.post (evRefreshLate d.smc.rate d.stu.time)

end Sys2Proof.Machine
end

