-- ==== Sys2Proof/Machine/SelfTest.lean ====
section
/-! DEFINITION. The self-test engine (R151 to R160): the patterns, a step over one block, mismatches and halts, the ends of sweeps,
segments, passes and runs, and the clearing. -/

namespace Sys2Proof.Machine

/-! ### Patterns (R155) -/

/-- R155: what a sweep or element does to a word: the value it expects to read, and the value it writes. -/
structure WordAction where
  expect : Option (BitVec 64)
  write : Option (BitVec 64)
deriving DecidableEq, Repr

/-- R155: the PSEUDO value of the word with store word index i in pass p. -/
def pseudoWord (i p : Nat) : BitVec 64 :=
  let f := BitVec.ofNat 32 (i * 3141592653 + p * 2718281829)
  ~~~f ++ f

/-- R155: the background B0 of a MARCH element 0..11. -/
def marchB0 (sweep : Nat) : BitVec 64 := if sweep < 6 then 0x0000000000000000#64 else 0x5555555555555555#64

/-- R155: the background B1 of a MARCH element 0..11. -/
def marchB1 (sweep : Nat) : BitVec 64 := if sweep < 6 then 0xFFFFFFFFFFFFFFFF#64 else 0xAAAAAAAAAAAAAAAA#64

/-- R155: what the MARCH elements, 0..11 over both rounds, do to a word. -/
def marchAction (sweep : Nat) : WordAction :=
  match sweep % 6 with
  | 0 => ⟨none, some (marchB0 sweep)⟩
  | 1 => ⟨some (marchB0 sweep), some (marchB1 sweep)⟩
  | 2 => ⟨some (marchB1 sweep), some (marchB0 sweep)⟩
  | 3 => ⟨some (marchB0 sweep), some (marchB1 sweep)⟩
  | 4 => ⟨some (marchB1 sweep), some (marchB0 sweep)⟩
  | _ => ⟨some (marchB0 sweep), none⟩

/-- R155: what the PSEUDO sweeps do to the word with store word index i in pass p. -/
def pseudoAction (sweep i p : Nat) : WordAction :=
  if sweep = 0 then ⟨none, some (pseudoWord i p)⟩ else ⟨some (pseudoWord i p), none⟩

/-- R155: how many sweeps or elements the work on a segment has. -/
def Pattern.sweeps : Pattern → Nat
  | .pseudo => 2
  | .march => 12

/-- R155: whether a sweep or element runs in descending order. -/
def Pattern.descending (p : Pattern) (sweep : Nat) : Bool :=
  match p with
  | .pseudo => false
  | .march => decide (sweep % 6 = 3) || decide (sweep % 6 = 4)

/-- R155: the word of the segment, 0..4194303, at a place of a sweep's order. -/
def wordAt (p : Pattern) (sweep place : Nat) : Nat :=
  if p.descending sweep then Config.wordsPerSegment - 1 - place else place

/-- R155: the store word index of a word of a segment. -/
def storeWord (seg : Fin 64) (word : Nat) : Nat := seg.val * Config.wordsPerSegment + word

/-- R155: what a sweep or element does to a word of a segment in pass p. -/
def Pattern.action (pt : Pattern) (pass : Nat) (seg : Fin 64) (sweep word : Nat) : WordAction :=
  match pt with
  | .pseudo => pseudoAction sweep (storeWord seg word) pass
  | .march => marchAction sweep

/-! ### One step (R154, R156, R157) -/

/-- R156: the lanes in which two words differ. -/
def laneMask (x y : BitVec 64) : Nat :=
  ([0, 1, 2, 3, 4, 5, 6, 7].map (fun j => if (x ^^^ y).extractLsb' (8 * j) 8 = 0#8 then 0 else 2 ^ j)).sum

/-- The bits in which the DRAM misreads the word at a place of a step (assumption log 11). -/
def upsetAt (upsets : List (Nat × BitVec 64)) (place : Nat) : BitVec 64 := (upsets.lookup place).getD 0

/-- R157: the words a step covers from a place on: the rest of its block. A step that owes only a write at a block's end covers none. -/
def stepWords (pos : TestPos) : Nat :=
  if pos.owed && decide (pos.word % Config.wordsPerBlock = 0) then 0
  else min (Config.wordsPerBlock - pos.word % Config.wordsPerBlock) (Config.wordsPerSegment - pos.word)

/-- R155, R156: the store after the word at a place of a step's order has been written as its action gives. -/
def writeWord (pt : Pattern) (pass : Nat) (pos : TestPos) (place : Nat) (m : List Host.Cell) : List Host.Cell :=
  let w := wordAt pt pos.sweep place
  match (pt.action pass pos.seg pos.sweep w).write with
  | some x => memSetWord m (8 * storeWord pos.seg w) x
  | none => m

/-- R157: the store after the write a step owes to the word before it. -/
def writeOwed (pt : Pattern) (pass : Nat) (pos : TestPos) (m : List Host.Cell) : List Host.Cell :=
  if pos.owed then writeWord pt pass pos (pos.word - 1) m else m

/-- R160: the store after all the writes of a step whose comparisons are not made. -/
def writeWords (pt : Pattern) (pass : Nat) (pos : TestPos) : Nat → Nat → List Host.Cell → List Host.Cell
  | 0, _, m => m
  | n + 1, place, m => writeWords pt pass pos n (place + 1) (writeWord pt pass pos place m)

/-- R156: the mismatch of the word at a place, if what is read differs from what is expected. -/
def mismatchAt (e : Engine) (pos : TestPos) (upsets : List (Nat × BitVec 64)) (place : Nat) (m : List Host.Cell) : Option Failure :=
  let w := wordAt e.pattern pos.sweep place
  match (e.pattern.action e.pass pos.seg pos.sweep w).expect with
  | none => none
  | some x =>
    let seen := memWord m (8 * storeWord pos.seg w) ^^^ upsetAt upsets (place - pos.word)
    if seen = x then none
    else some { seg := pos.seg, offset := 8 * w, lanes := laneMask x seen, expected := x, observed := seen, pass := e.pass }

/-- R154, R156: a mismatch marks its segment and fills an unlocked failure record. -/
def Smc.mismatched (s : Smc) (f : Failure) : Smc :=
  let e := s.engine
  { s with
    segs := if e.pass ≠ 1 ∧ s.segs[f.seg] = .good then s.segs.set f.seg .failed else s.segs
    engine := { e with mismatch := true, failure := some (e.failure.getD f) } }

/-- R156: whether a mismatch halts the engine. -/
def Engine.halts (e : Engine) : Bool := decide (e.mode = .halt) && e.failure.isNone

/-- R163: SELFTEST_HALT. -/
def evSelftestHalt (f : Failure) : Event :=
  ⟨srcMemory, 1, [num 1 f.seg.val, num 4 f.offset, num 1 f.lanes, num 8 f.expected.toNat, num 8 f.observed.toNat, num 4 f.pass]⟩

/-- R156: the engine goes HALTED at the word of a place; `owed` says that its write was not made. -/
def Engine.halted (e : Engine) (place : Nat) (owed : Bool) : Engine :=
  { e with state := .halted, stage := .idle, pos := { e.pos with word := place + 1, owed := owed } }

/-- The store and the device, between the words of a self-test step. -/
structure Testing where
  dev : Device
  mem : List Host.Cell

/-- R156: the word of a place is read and compared, then written; a halting mismatch leaves the rest of the step undone. -/
def testWords (pos : TestPos) (upsets : List (Nat × BitVec 64)) : Nat → Nat → Testing → Testing
  | 0, _, x => x
  | n + 1, place, x =>
    let e := x.dev.smc.engine
    let next := testWords pos upsets n (place + 1)
    match mismatchAt e pos upsets place x.mem with
    | none => next { x with mem := writeWord e.pattern e.pass pos place x.mem }
    | some f =>
      let smc := x.dev.smc.mismatched f
      if e.halts then
        let owed := (e.pattern.action e.pass pos.seg pos.sweep (wordAt e.pattern pos.sweep place)).write.isSome
        { x with dev := (x.dev.setSmc { smc with engine := smc.engine.halted place owed }).post (evSelftestHalt f) }
      else next { dev := x.dev.setSmc smc, mem := writeWord e.pattern e.pass pos place x.mem }

/-! ### The ends of runs (R158) -/

/-- R151: how many segments have a test state. -/
def Smc.countSegs (s : Smc) (k : SegState) : Nat := (all64.filter (fun i => decide (s.segs[i] = k))).length

/-- R158: the end summary of a run. -/
def Smc.summarise (s : Smc) : EndSummary :=
  { cause := s.engine.endCause, mode := s.engine.mode, pattern := s.engine.pattern, passes := s.engine.passesDone,
    good := s.countSegs .good, failed := s.countSegs .failed, untested := s.countSegs .untested,
    locked := s.engine.failure.isSome }

/-- R158: the fields of an end summary, as a notice and QUERY SEGMENTS give them. -/
def EndSummary.parts (x : EndSummary) : List (List Byte) :=
  [leBytes 1 x.cause.code, leBytes 1 x.mode.code, leBytes 1 x.pattern.code, leBytes 4 x.passes, leBytes 1 x.good, leBytes 1 x.failed,
    leBytes 1 x.untested, flagByte x.locked]

/-- R163: SELFTEST_DONE. -/
def evSelftestDone (x : EndSummary) : Event :=
  ⟨srcMemory, 0, [num 1 x.cause.code, num 1 x.mode.code, num 1 x.pattern.code, num 4 x.passes,
    [record [leBytes 1 x.good, leBytes 1 x.failed, leBytes 1 x.untested]], [flagByte x.locked]]⟩

/-- The device with another self-test engine. -/
def Device.setEngine (d : Device) (e : Engine) : Device := d.setSmc { d.smc with engine := e }

/-- R158: the clearing has ended: the engine goes IDLE, the end summary is recorded and SELFTEST_DONE is posted. -/
def Device.finishRun (d : Device) : Device :=
  let x := d.smc.summarise
  (d.setEngine { d.smc.engine with state := .idle, stage := .idle, summary := some x }).post (evSelftestDone x)

/-- R158: a run ends with a cause, and the clearing begins. -/
def Device.endRun (cause : EndCause) (d : Device) : Device :=
  let e := d.smc.engine
  let w := d.setEngine { e with state := .clearing, stage := .waiting, endCause := cause, clearing := e.written, clearBlock := 0 }
  if e.written.isEmpty then w.finishRun else w

/-- R154: the end of a pass; the number of passes completed saturates as the pass number does (assumption log 42). -/
def Device.endPass (d : Device) : Device :=
  let e := { d.smc.engine with passesDone := satAdd Config.max32 d.smc.engine.passesDone 1 }
  let d := d.setEngine e
  match e.mode, e.state with
  | .loop, .running =>
    d.setEngine { e with pass := satAdd Config.max32 e.pass 1, pos := TestPos.start, stage := .waiting }
  | .loop, _ => d.endRun .stoppedAfterPass
  | _, _ => d.endRun .complete

/-- R151, R154: the test state a segment takes when the first pass completes its work on it. -/
def Smc.gradeSegment (s : Smc) : Smc :=
  let e := s.engine
  { s with
    segs := if e.pass = 1 then s.segs.set e.pos.seg (if e.mismatch then .failed else .good) else s.segs
    engine := { e with mismatch := false } }

/-- R154: the end of the work on a segment. -/
def Device.endSegment (d : Device) : Device :=
  let d := d.setSmc d.smc.gradeSegment
  let e := d.smc.engine
  if h : e.pos.seg.val + 1 < 64 then
    d.setEngine { e with pos := { seg := ⟨e.pos.seg.val + 1, h⟩, sweep := 0, word := 0, owed := false }, stage := .waiting }
  else d.endPass

/-- R154: where the engine stands once the words up to `word` of its sweep are done. -/
def Device.advanceTest (word : Nat) (d : Device) : Device :=
  let e := d.smc.engine
  if word < Config.wordsPerSegment then
    d.setEngine { e with pos := { e.pos with word := word, owed := false }, stage := .waiting }
  else if e.pos.sweep + 1 < e.pattern.sweeps then
    d.setEngine { e with pos := { e.pos with sweep := e.pos.sweep + 1, word := 0, owed := false }, stage := .waiting }
  else d.endSegment

/-- R154, R156, R157: a step of the run in hand completes. -/
def Testing.step (upsets : List (Nat × BitVec 64)) (x : Testing) : Testing :=
  let e := x.dev.smc.engine
  let n := stepWords e.pos
  let y := testWords e.pos upsets n e.pos.word { x with mem := writeOwed e.pattern e.pass e.pos x.mem }
  if y.dev.smc.engine.state = .halted then y else { y with dev := y.dev.advanceTest (e.pos.word + n) }

/-- R158, R160: a step whose run has gone completes in the store. -/
def Testing.stale (pt : Pattern) (pass : Nat) (pos : TestPos) (x : Testing) : Testing :=
  { x with mem := writeWords pt pass pos (stepWords pos) pos.word (writeOwed pt pass pos x.mem) }

/-- Whether the engine still waits for the self-test step in flight. -/
def Engine.expectsStep (e : Engine) : Bool :=
  decide (e.stage = .granted) && (decide (e.state = .running) || decide (e.state = .stopping))

/-- R154: the self-test step in flight completes. -/
def Testing.complete (pt : Pattern) (pass : Nat) (pos : TestPos) (upsets : List (Nat × BitVec 64)) (x : Testing) : Testing :=
  if x.dev.smc.engine.expectsStep then x.step upsets else x.stale pt pass pos

/-- R158: a clearing write completes. -/
def Device.cleared (d : Device) : Device :=
  let e := d.smc.engine
  if e.state = .clearing ∧ e.stage = .granted then
    if e.clearBlock + 1 < Config.blocksPerSegment then d.setEngine { e with clearBlock := e.clearBlock + 1, stage := .waiting }
    else
      match e.clearing.tail with
      | [] => d.finishRun
      | rest => d.setEngine { e with clearing := rest, clearBlock := 0, stage := .waiting }
  else d

/-! ### The engine's controls (R153, R157, R158) -/

/-- R153: the engine and the segments right after an accepted START. -/
def Smc.startRun (mode : TestMode) (pattern : Pattern) (s : Smc) : Smc :=
  { s with
    segs := Vector.replicate 64 .untested
    engine := { s.engine with
      state := .running, mode := mode, pattern := pattern, pass := 1, pos := TestPos.start, mismatch := false, passesDone := 0,
      written := [], failure := none, stage := .waiting, clearing := [], clearBlock := 0 } }

/-- R157: CONTINUE: the engine goes on after the word that mismatched. -/
def Device.continueRun (d : Device) : Device :=
  let e := { d.smc.engine with state := .running, failure := none, stage := .waiting }
  let w := d.setEngine e
  if e.pos.owed then w else w.advanceTest e.pos.word

end Sys2Proof.Machine
end

