-- ==== Sys2Proof/Machine/Takes.lean ====
section
/-! DEFINITION. The Take Store and the Stream Intake Unit (06, 07): opening, closing and dropping takes, verify and peek, the stream
table, judgements and completed writes, and what they bring about in the voices. -/

namespace Sys2Proof.Machine

/-! ### Voices that another block concerns -/

/-- What voice v reads of other blocks. -/
def Device.ctx (d : Device) (v : Fin 32) : Ctx := { takes := d.tks.takes, time := d.stu.time, src := srcVoice v }

/-- An operation on voice v, with its events. -/
def Device.onVoice (d : Device) (v : Fin 32) (f : Ctx → Voice → Voice × List Event) : Device :=
  let (w, es) := f (d.ctx v) (d.voice v)
  (d.setVoice v w).postAll es

/-- An operation on every voice in turn, with its events. -/
def Device.onVoices (f : Ctx → Voice → Voice × List Event) (d : Device) : Device :=
  allVoices.foldl (fun d v => d.onVoice v f) d

/-! ### The stream table (R132, R134) -/

/-- R132: the entry that holds a tag. -/
def Siu.entry (s : Siu) (tag : BitVec 16) : Option StreamEntry := s.entries.find? (fun e => decide (e.tag = tag))

/-- R146: a new entry takes its place in ascending tag order. -/
def insertEntry (e : StreamEntry) : List StreamEntry → List StreamEntry
  | [] => [e]
  | x :: xs => if x.tag.toNat < e.tag.toNat then x :: insertEntry e xs else e :: x :: xs

/-- R138, R141: a judgement in hand, once the entry of a tag is gone. -/
def Judged.without (tag : BitVec 16) (j : Judged) : Judged := if j.packet.tag = tag then { j with stands := false } else j

/-- R146: the intake stage once the entry of a tag is gone. -/
def IntakeStage.without (tag : BitVec 16) : IntakeStage → IntakeStage
  | .idle => .idle
  | .judged j => .judged (j.without tag)
  | .writing j => .writing (j.without tag)

/-- R134: the entry of a tag is removed, and the take's bound stream tag is cleared with it. -/
def Device.unbind (tag : BitVec 16) (d : Device) : Device :=
  match d.siu.entry tag with
  | none => d
  | some e =>
    (d.setSiu { d.siu with
      entries := d.siu.entries.filter (fun x => decide (x.tag ≠ tag)), stage := d.siu.stage.without tag }).setTake e.take
        { d.take e.take with tag := none }

/-- R134: a take's bound stream, if any, is unbound. -/
def Device.unbindTake (t : Fin 64) (d : Device) : Device :=
  match (d.take t).tag with
  | none => d
  | some tag => d.unbind tag

/-! ### Judging a packet (R135 to R137, R140, R145) -/

/-- R145: UNKNOWN_STREAM. -/
def evUnknownStream (p : SamplePkt) (time : Nat) : Event :=
  ⟨srcIntake, 0, [num 2 p.tag.toNat, num 4 p.seq.toNat, [timeBytes time]]⟩

/-- R145: FORMAT. -/
def evFormat (p : SamplePkt) (e : StreamEntry) (f : Format) : Event :=
  ⟨srcIntake, 1, [num 2 p.tag.toNat, num 4 p.seq.toNat, num 1 e.take.val, [record [leBytes 1 p.format.code, leBytes 2 p.count]],
    num 1 f.code]⟩

/-- R145: RANGE. -/
def evRange (p : SamplePkt) (e : StreamEntry) (capacity : Nat) : Event :=
  ⟨srcIntake, 2, [num 2 p.tag.toNat, num 4 p.seq.toNat, num 1 e.take.val, num 3 capacity]⟩

/-- R145: TOO_LATE. -/
def evTooLate (p : SamplePkt) (e : StreamEntry) (w : BlockNo) : Event :=
  ⟨srcIntake, 3, [num 2 p.tag.toNat, num 4 p.seq.toNat, num 1 e.take.val, num 4 w.toNat]⟩

/-- R145: SEQ_GAP. -/
def evSeqGap (j : Judged) (w : BlockNo) (d : Nat) : Event :=
  ⟨srcIntake, 4, [num 2 j.packet.tag.toNat, num 1 j.take.val, num 4 w.toNat, num 4 j.packet.seq.toNat, num 4 d]⟩

/-- R145: OVERRUN. -/
def evOverrun (p : SamplePkt) (time : Nat) : Event :=
  ⟨srcIntake, 5, [num 2 p.tag.toNat, num 4 p.seq.toNat, [timeBytes time]]⟩

/-- R136, R137, R140: what a judgement decides. -/
inductive Judgement where
  | unrouted
  | drop (e : StreamEntry) (ev : Event)
  | accept (j : Judged)

/-- R136: whether a packet's count suits its format and LAST flag. -/
def SamplePkt.countFits (p : SamplePkt) (spb : Nat) : Bool :=
  decide (1 ≤ p.count) && decide (p.count ≤ spb) && (p.last || decide (p.count = spb))

/-- R137, R140: the accepted judgement of a packet for a take. -/
def SamplePkt.accepted (p : SamplePkt) (e : StreamEntry) (t : Take) (placing : Placing) : Judgement :=
  .accept { packet := p, take := e.take, opening := t.opening, addr := t.blockAddress p.seq, placing := placing, stands := true }

/-- R140: the judgement of a packet for a ring. -/
def SamplePkt.judgeRing (p : SamplePkt) (e : StreamEntry) (t : Take) : Judgement :=
  match t.ring with
  | none => p.accepted e t .first
  | some r =>
    let d := BlockNo.diff p.seq r.w
    if 0 ≤ d then p.accepted e t (.ahead d.toNat)
    else if (r.w - p.seq).toNat ≤ t.capacity then p.accepted e t .late
    else .drop e (evTooLate p e r.w)

/-- R136, R137, R140: the judgement of a packet. -/
def Device.judgement (d : Device) (p : SamplePkt) : Judgement :=
  match d.siu.entry p.tag with
  | none => .unrouted
  | some e =>
    let t := d.take e.take
    if p.format ≠ t.format then .drop e (evFormat p e t.format)
    else if p.countFits t.format.spb = false then .drop e (evFormat p e t.format)
    else
      match t.kind with
      | .resident =>
        if t.capacity ≤ p.seq.toNat then .drop e (evRange p e t.capacity) else p.accepted e t .resident
      | .ring => p.judgeRing e t

/-- R132: the counts of the entry of a tag change. -/
def Siu.onEntry (tag : BitVec 16) (f : StreamEntry → StreamEntry) (s : Siu) : Siu :=
  { s with entries := s.entries.map (fun e => if e.tag = tag then f e else e) }

/-- R136: a packet is dropped for want of an entry. -/
def Siu.countUnrouted (s : Siu) : Siu := { s with unrouted := satAdd Config.max32 s.unrouted 1 }

/-- R144: a packet is dropped and counted in its entry. -/
def StreamEntry.countDrop (e : StreamEntry) : StreamEntry := { e with dropped := satAdd Config.max32 e.dropped 1 }

/-- R138, R141: a write is counted in its entry. -/
def StreamEntry.countAccept (e : StreamEntry) : StreamEntry := { e with accepted := satAdd Config.max32 e.accepted 1 }

/-- R135: the judgement of a packet is carried out: it leaves the queue dropped and counted, or stays with a write requested. -/
def Device.actOn (d : Device) (p : SamplePkt) (j : Judgement) : Device :=
  match j with
  | .unrouted => (d.popSample.setSiu d.siu.countUnrouted).post (evUnknownStream p d.stu.time)
  | .drop e ev => (d.popSample.setSiu (d.siu.onEntry e.tag StreamEntry.countDrop)).post ev
  | .accept j => d.setSiu { d.siu with stage := .judged j }

/-- R135: the free SIU judges the packet at the head of the sample queue, while the power state is ACTIVE. -/
def Device.judgeHead (d : Device) : Device :=
  match d.siu.stage, d.bli.sampleQ with
  | .idle, p :: _ => if d.pwc.power = .active then d.actOn p (d.judgement p) else d
  | _, _ => d

/-- R142: a packet judged for writing whose entry no longer stands is withdrawn and judged again. -/
def Device.rejudgeIntake (d : Device) : Device :=
  match d.siu.stage with
  | .judged j => if j.stands then d else (d.setSiu { d.siu with stage := .idle }).judgeHead
  | _ => d

/-! ### Opening (R117 to R119) -/

/-- R115: whether a segment is in no take's segment list. -/
def Device.segmentFree (d : Device) (s : Fin 64) : Bool := all64.all (fun t => !(d.take t).segments.contains s)

/-- R118, R119: the free segments with test state GOOD, in ascending order. -/
def Device.goodSegments (d : Device) : List (Fin 64) :=
  all64.filter (fun s => d.segmentFree s && decide (d.smc.segs[s] = .good))

/-- R117: the opening counter after an accepted TAKE_OPEN. -/
def nextOpening (n : Nat) : Nat := if n < Config.openingMax then n + 1 else 1

/-- R119: the entry of a newly opened take. -/
def Take.opened (kind : TakeKind) (format : Format) (segments : List (Fin 64)) (opening : Nat) : Take :=
  { Take.free Verify.none with
    state := (match kind with
      | .resident => .filling
      | .ring => .live)
    kind := kind, format := format, segments := segments, opening := opening }

/-- R119: take t is opened with k segments. -/
def Device.openTake (t : Fin 64) (kind : TakeKind) (format : Format) (k : Nat) (d : Device) : Device :=
  (d.setTake t (Take.opened kind format (d.goodSegments.take k) d.tks.counter)).setTks
    { (d.setTake t (Take.opened kind format (d.goodSegments.take k) d.tks.counter)).tks with counter := nextOpening d.tks.counter }

/-! ### Closing (R120 to R122, R129) -/

/-- R129: why a take closed. -/
inductive CloseCause where
  | control | last
deriving DecidableEq, Repr

/-- R129: the number of a close's cause. -/
def CloseCause.code : CloseCause → Nat
  | .control => 0
  | .last => 1

/-- R120: the highest block number in a written record plus one; 0 when the set is empty. -/
def Take.writtenEnd (t : Take) : Nat :=
  match t.written.getLast? with
  | none => 0
  | some h => h + 1

/-- R121: the take READY, with its block count, length and hole count fixed from the written record. -/
def Take.closed (t : Take) : Take :=
  let n := t.writtenEnd
  { t with
    state := .ready, blockCount := n, length := if n = 0 then 0 else (n - 1) * t.format.spb + t.lastCount,
    holes := n - t.written.length, written := [], lastCount := 0 }

/-- R129: CLOSED. -/
def evClosed (t : Fin 64) (x : Take) (cause : CloseCause) : Event :=
  ⟨srcTake, 0, [num 1 t.val, num 3 x.opening, num 1 cause.code, num 3 x.blockCount, num 4 x.length, num 3 x.holes]⟩

/-- R129: ENDED. -/
def evEnded (t : Fin 64) (x : Take) (cause : CloseCause) : Event :=
  ⟨srcTake, 1, [num 1 t.val, num 3 x.opening, num 1 cause.code, [ringBytes x.ring]]⟩

/-- R121: resident take t goes from FILLING to READY. -/
def Device.closeResident (t : Fin 64) (cause : CloseCause) (d : Device) : Device :=
  let w := d.unbindTake t
  let x := (w.take t).closed
  (w.setTake t x).post (evClosed t x cause)

/-- R122, R62, R63: ring take t goes from LIVE to ENDED, and the voices that wait on it go on. -/
def Device.endRing (t : Fin 64) (cause : CloseCause) (d : Device) : Device :=
  let w := d.unbindTake t
  let x := { w.take t with state := TakeState.ended }
  ((w.setTake t x).post (evEnded t x cause)).onVoices (fun c v => v.ringEnded c t)

/-! ### Verify (R125 to R127) -/

/-- R127: how a verify ended. -/
inductive VerifyEnd where
  | done | aborted
deriving DecidableEq, Repr

/-- R127: the number of a verify's result. -/
def VerifyEnd.code : VerifyEnd → Nat
  | .done => 0
  | .aborted => 1

/-- R125: a verify range as the first block and the block after the last (assumption log 27). -/
def Verify.rangeBytes (r : Verify) : List Byte :=
  record [leBytes 4 r.first.toNat, leBytes 4 (r.first + BitVec.ofNat 32 r.size).toNat]

/-- R126: the first bad block with its status, or none. -/
def Verify.badBytes (r : Verify) : List Byte :=
  match r.firstBad with
  | some (b, st) => record [leBytes 1 0, leBytes 4 b.toNat, leBytes 1 st.code]
  | .none => leBytes 1 1

/-- R126: the counts of a verify. -/
def Verify.countBytes (r : Verify) : List Byte := record [leBytes 4 r.checked, leBytes 4 r.absent, leBytes 4 r.corrupt]

/-- R129: VERIFY_DONE. -/
def evVerifyDone (t : Fin 64) (r : Verify) (how : VerifyEnd) : Event :=
  ⟨srcTake, 2, [num 1 t.val, num 1 how.code, [r.rangeBytes], [r.countBytes], [r.badBytes]]⟩

/-- R125: the first block and the size of the range a verify of a take would read; for a ring with nothing written the empty range has the
first block 0 (assumption log 27). -/
def Take.verifyRange (t : Take) : BlockNo × Nat :=
  match t.kind with
  | .resident => (0, match t.state with
    | .filling => t.writtenEnd
    | _ => t.blockCount)
  | .ring =>
    match t.ring with
    | none => (0, 0)
    | some r =>
      let low := r.w - BitVec.ofNat 32 t.capacity
      let s := if 0 ≤ BlockNo.diff low r.first then low else r.first
      (s, (r.w - s).toNat)

/-- Take t's verify record changes. -/
def Device.setVerify (t : Fin 64) (r : Verify) (d : Device) : Device := d.setTake t { d.take t with verify := r }

/-- The verify's read changes its stage. -/
def Device.setVerifyStage (s : Stage) (d : Device) : Device := d.setTks { d.tks with verifyStage := s }

/-- R127: the verify of take t ends by completion. -/
def Device.verifyDone (t : Fin 64) (d : Device) : Device :=
  let r := { (d.take t).verify with state := VerifyState.done }
  ((d.setVerify t r).setVerifyStage .idle).post (evVerifyDone t r .done)

/-- R125, R126: a verify of take t starts; an empty range completes at once. -/
def Device.startVerify (t : Fin 64) (d : Device) : Device :=
  let (first, size) := (d.take t).verifyRange
  let r : Verify := { state := .running, opening := (d.take t).opening, first := first, size := size, next := first, checked := 0,
                      absent := 0, corrupt := 0, firstBad := none }
  let w := d.setVerify t r
  if size = 0 then w.verifyDone t else w.setTks { w.tks with verifyTake := t, verifyStage := .waiting }

/-- R126: a verify record after a completed read that gave a status. -/
def Verify.counted (r : Verify) (st : BlockStatus) : Verify :=
  { r with
    checked := satAdd Config.max32 r.checked 1
    absent := if st = .absent then satAdd Config.max32 r.absent 1 else r.absent
    corrupt := if st = .corrupt then satAdd Config.max32 r.corrupt 1 else r.corrupt
    firstBad := (match r.firstBad with
      | some b => some b
      | .none => if st = .valid then Option.none else some (r.next, st))
    next := r.next + 1 }

/-- R126, R127: the verify's read in flight completes with the stored block. -/
def Device.verifyRead (b : Block) (d : Device) : Device :=
  let t := d.tks.verifyTake
  let r := (d.take t).verify
  let r' := r.counted (b.judge r.opening r.next)
  let w := d.setVerify t r'
  if r'.checked < r'.size then w.setVerifyStage .waiting else w.verifyDone t

/-- R124, R127: a verify that runs on take t is abandoned by its drop. -/
def Device.abortVerify (t : Fin 64) (d : Device) : Device :=
  let r := (d.take t).verify
  if r.state = .running then
    let r' := { r with state := VerifyState.aborted }
    ((d.setVerify t r').setVerifyStage .idle).post (evVerifyDone t r' .aborted)
  else d

/-! ### Dropping (R123, R124) -/

/-- R123, R130: the number of cues in all voices' lists that name take t. -/
def Device.cuesNaming (d : Device) (t : Fin 64) : Nat :=
  (allVoices.map (fun v => ((d.voice v).cues.filter (fun c => decide (c.take = t))).length)).sum

/-- R161: a check-injection record aimed at take t is cleared. -/
def Smc.forgetTake (t : Fin 64) (s : Smc) : Smc :=
  match s.injection with
  | none => s
  | some i => if i.take = t then { s with injection := none } else s

/-- R124: take t is dropped. -/
def Device.dropTake (t : Fin 64) (d : Device) : Device :=
  let w := (d.abortVerify t).unbindTake t
  ((w.setSmc (w.smc.forgetTake t)).setTake t (Take.free (w.take t).verify)).rejudgeIntake

/-! ### Completed intake writes (R120, R138, R139, R141) -/

/-- R120: a block number joins a written set, in rising order. -/
def insertBlock (b : Nat) : List Nat → List Nat
  | [] => [b]
  | x :: xs => if x < b then x :: insertBlock b xs else if x = b then x :: xs else b :: x :: xs

/-- R120: the written record after a completed write. -/
def Take.recordWrite (t : Take) (j : Judged) : Take :=
  let b := j.packet.seq.toNat
  { t with
    written := insertBlock b t.written
    lastCount := if t.writtenEnd ≤ b + 1 then j.packet.count else t.lastCount }

/-- R141: the ring write state after a completed write. -/
def Take.ringAfter (t : Take) (j : Judged) : Option RingState :=
  match t.ring with
  | none => some ⟨j.packet.seq, j.packet.seq + 1⟩
  | some r =>
    match j.placing with
    | .late => some r
    | _ => some { r with w := j.packet.seq + 1 }

/-- R141: the SEQ_GAP events of a completed write. -/
def gapEvents (t : Take) (j : Judged) : List Event :=
  match t.ring, j.placing with
  | some r, .ahead d => if 0 < d then [evSeqGap j r.w d] else []
  | _, _ => []

/-- R138, R141: whether the take is still as the judgement found it: under the same opening, and still open for writes. -/
def Take.stillOpen (t : Take) (j : Judged) : Bool :=
  decide (t.opening = j.opening) && (decide (t.state = .filling) || decide (t.state = .live))

/-- R138, R141: the effect of a completed write on the take's record or write state, and on the voices. -/
def Device.recordIntake (j : Judged) (d : Device) : Device :=
  let t := d.take j.take
  match t.kind with
  | .resident => d.setTake j.take (t.recordWrite j)
  | .ring =>
    ((d.setTake j.take { t with ring := t.ringAfter j }).postAll (gapEvents t j)).onVoices (fun c v => v.ringWritten c j.take)

/-- R121, R122: a LAST write closes its take. -/
def Device.closeByLast (t : Fin 64) (d : Device) : Device :=
  match (d.take t).kind with
  | .resident => d.closeResident t .last
  | .ring => d.endRing t .last

/-- R138, R141: an intake write whose judgement is in hand completes. The next packet is judged by a step of its own (assumption log 35). -/
def Device.intakeWritten (j : Judged) (d : Device) : Device :=
  let openStill := (d.take j.take).stillOpen j
  let d := d.setSiu { d.siu with stage := .idle }
  let d := if openStill then d.recordIntake j else d
  let d := if j.stands then d.setSiu (d.siu.onEntry j.packet.tag StreamEntry.countAccept) else d
  if openStill && j.packet.last then d.closeByLast j.take else d

/-! ### Peek (R128) -/

/-- R128: the result of a peek: the stored block, judged against a take's opening and a block number. -/
def peekFields (b : Block) (opening : Nat) (number : BlockNo) : List Field :=
  [num 3 b.opening, num 4 b.number.toNat, num 2 b.count, num 1 b.format, [flagByte b.last], num 2 b.check.toNat,
    [flagByte (b.fits opening number)], [flagByte b.checkRight], [b.payload]]

end Sys2Proof.Machine
end

