-- ==== Sys2Proof/Machine/Records.lean ====
section
/-! DEFINITION. The records that QUERY returns (R18, R48, R95, R101, R130, R146, R164), IDENT (R173) and the periodic report (R181,
R182), as result fields in the order their rules list them (R172; assumption logs 12 and 46). -/

namespace Sys2Proof.Machine

/-- R172: a field that is present under a condition. -/
def onlyIf (b : Bool) (f : Field) : Field := if b then f else []

/-- R172: values within a record that are present under a condition. -/
def partsIf (b : Bool) (ps : List (List Byte)) : List (List Byte) := if b then ps else []

/-! ### The scene (R18) -/

/-- R18: whether a voice has cues and is not WAITING. -/
def Voice.notWaiting (v : Voice) : Bool := !v.cues.isEmpty && decide (v.state ≠ .waiting)

/-- R18: the number of voices that hold the priming condition back. -/
def Device.voicesNotWaiting (d : Device) : Nat := (allVoices.filter (fun v => (d.voice v).notWaiting)).length

/-- R18: the fields present only while ARMED. -/
def goFields (d : Device) : List Field :=
  match d.stu.scene, d.stu.go with
  | .armed, some g =>
    match g.cond with
    | .immediate => [num 1 0, [], [flagByte g.primedWait], [], num 1 d.voicesNotWaiting]
    | .line l => [num 1 1, num 1 l.val, [flagByte g.primedWait], [flagByte g.latch], num 1 d.voicesNotWaiting]
  | _, _ => [[], [], [], [], []]

/-- R18: the scene record. -/
def sceneRecord (d : Device) : List Field :=
  [num 1 d.stu.scene.code, [timeBytes d.stu.time], [flagByte d.stu.frozen]] ++ goFields d ++
    [[flagByte d.stu.cueStarted], [flagByte d.stu.drainedPosted]]

/-! ### Voices (R48) -/

/-- R48: the decision on a cue: skipped mark with reason, clamped flag, and the effective length once decided. -/
def Cue.verdictParts (c : Cue) : List (List Byte) :=
  match c.verdict with
  | .skipped r => [flagByte true, leBytes 1 r.code, flagByte false]
  | .resident l k => [flagByte false, flagByte k, leBytes 4 l]
  | .ring _ => [flagByte false, flagByte false] ++ partsIf (decide (c.length ≠ 0)) [leBytes 4 c.length]
  | _ => [flagByte false, flagByte false]

/-- R48: a cue of a voice record. -/
def Cue.bytes (c : Cue) : List Byte :=
  record ([leBytes 2 c.label.toNat, leBytes 1 c.take.val, leBytes 1 c.mode.code] ++ c.verdictParts)

/-- R52: a block number, or "start not fixed". -/
def targetBytes : Option BlockNo → List Byte
  | some b => record [leBytes 1 0, leBytes 4 b.toNat]
  | none => leBytes 1 1

/-- R48: the fetch cursor; its cue position counts from 0 at the head (assumption log 39). -/
def cursorField : Cursor → Field
  | .atTarget c p b _ => [record [leBytes 1 c, leBytes 4 p, targetBytes (some b)]]
  | .held c p b => [record [leBytes 1 c, leBytes 4 p, targetBytes b]]
  | _ => []

/-- An I/Q pair as a record of two 16-bit values. -/
def iqBytes (x : IQ) : List Byte := record [signedBytes 2 x.i, signedBytes 2 x.q]

/-- R48: a running ramp. -/
def rampField : Option Ramp → Field
  | some r => [record [leBytes 2 r.target, leBytes 2 r.interval]]
  | none => []

/-- R48: the voice record. -/
def voiceRecord (v : Voice) : List Field :=
  [num 1 v.state.code,
   [record [leBytes 1 v.port.val, leBytes 1 v.conceal.code, leBytes 1 v.timeMode.code, leBytes 1 v.primeDepth,
     leBytes 1 v.resumeDepth]],
   num 1 v.cues.length,
   v.cues.map Cue.bytes,
   onlyIf v.started [record [leBytes 4 v.pass, leBytes 4 v.offset]],
   num 1 v.filledCount,
   cursorField v.cursor,
   [record [leBytes 1 v.rest.code, iqBytes v.lastOut]],
   num 2 v.atten,
   rampField v.ramp,
   [record [leBytes 4 v.freq.toNat, leBytes 4 v.phase.toNat]],
   [record [leBytes 2 v.absentCount, leBytes 2 v.corruptCount]],
   num 4 v.starvedTicks]

/-! ### Ports (R93, R95) -/

/-- R95: the line of R93 that decides the next delivery. -/
inductive OutCond where
  | resetOrPower | disabled | silent | mix | pauseHold | pauseZero
deriving DecidableEq, Repr

/-- R95: an output condition's value. -/
def OutCond.code : OutCond → Nat
  | .resetOrPower => 0 | .disabled => 1 | .silent => 2 | .mix => 3 | .pauseHold => 4 | .pauseZero => 5

/-- R93: the line of the table that decides for a port, at a kind of tick; `powered` is false under RSTN, outside ACTIVE, and in a
period without a tick. -/
def Port.condition (powered : Bool) (kind : SceneState) (p : Port) : OutCond :=
  if !powered then .resetOrPower
  else if !p.enable then .disabled
  else
    match kind, p.pause with
    | .running, _ => .mix
    | .paused, .hold => .pauseHold
    | .paused, .zero => .pauseZero
    | _, _ => .silent

/-- R3, R93: whether the STU takes ticks. -/
def Device.ticking (d : Device) : Bool := decide (d.pwc.power = .active) && !d.pwc.rstn

/-- R95: the voices assigned to a port, in ascending order. -/
def Device.assigned (d : Device) (p : Fin 4) : List (Fin 32) := allVoices.filter (fun v => decide ((d.voice v).port = p))

/-- R95: the port record. The condition is that of the scene state as it stands, so an ARMED scene whose GO conditions already hold reports
SILENT (assumption log 34). -/
def portRecord (d : Device) (p : Fin 4) : List Field :=
  let x := d.port p
  [[record [flagByte x.enable, leBytes 1 x.headroom, leBytes 2 x.atten, leBytes 1 x.width.bits, leBytes 1 x.pause.code]],
   num 1 (x.condition d.ticking d.stu.scene).code,
   [iqBytes x.last],
   num 4 x.clip,
   (d.assigned p).map (fun v => leBytes 1 v.val)]

/-! ### Lines (R101) -/

/-- R101: a line's record. -/
def Line.bytes (asleep : Bool) (l : Line) : List Byte :=
  record [leBytes 1 l.dir.code, leBytes 1 l.edgeMode.code, flagByte l.capture, flagByte l.wake, leBytes 1 l.sleepMode.code,
    flagByte l.latch, flagByte (l.sensed asleep), leBytes 2 l.pulse]

/-- R101: a marker table entry. -/
def Marker.bytes (m : Marker) : List Byte :=
  record ([timeBytes m.time, leBytes 1 m.line.val, leBytes 1 m.action.code] ++
    (match m.action with
      | .pulse w => [leBytes 2 w]
      | _ => []))

/-- R101: the line record. -/
def linesRecord (d : Device) : List Field :=
  [allLines.map (fun l => (d.line l).bytes d.asleep),
   [record [leBytes 1 d.stu.captures.length, flagByte d.stu.overrun]],
   num 1 d.stu.markers.length,
   d.stu.markers.map Marker.bytes]

/-! ### Takes (R130) -/

/-- R130: the blocks written so far, and the highest with its last count once there is one; both are left out before (assumption log 41). -/
def Take.writtenBytes (t : Take) : List Byte :=
  record (leBytes 3 t.written.length :: partsIf (!t.written.isEmpty) [leBytes 3 (t.writtenEnd - 1), leBytes 2 t.lastCount])

/-- R130: a verify record. -/
def Verify.bytes (r : Verify) : List Byte :=
  record ([leBytes 1 r.state.code, r.rangeBytes, r.countBytes, r.badBytes] ++
    partsIf (decide (r.state = .running)) [leBytes 4 r.next.toNat])

/-- R130: the take record; which rows of its table make one record is the model's choice (assumption log 46). -/
def takeRecord (d : Device) (i : Fin 64) : List Field :=
  let t := d.take i
  let held := decide (t.state ≠ .free)
  [num 1 t.state.code,
   onlyIf held (num 1 t.kind.code),
   onlyIf held (num 1 t.format.code),
   onlyIf held (num 2 t.format.spb),
   onlyIf held (t.segments.map (fun s => leBytes 1 s.val)),
   onlyIf held (num 3 t.capacity),
   onlyIf held (num 3 t.opening),
   onlyIf (decide (t.state = .filling)) [t.writtenBytes],
   onlyIf (decide (t.state = .ready)) [record [leBytes 3 t.blockCount, leBytes 4 t.length, leBytes 3 t.holes]],
   onlyIf (decide (t.state = .live) || decide (t.state = .ended)) [ringBytes t.ring],
   (match t.tag with
     | some tag => num 2 tag.toNat
     | none => []),
   onlyIf held (num 2 (d.cuesNaming i)),
   [t.verify.bytes],
   num 3 d.tks.counter]

/-! ### Streams (R146) -/

/-- R146: the intake stage. -/
def IntakeStage.bytes : IntakeStage → List Byte
  | .idle => leBytes 1 0
  | .judged j => record [leBytes 1 1, leBytes 2 j.packet.tag.toNat, leBytes 4 j.packet.seq.toNat]
  | .writing j => record [leBytes 1 2, leBytes 2 j.packet.tag.toNat, leBytes 4 j.packet.seq.toNat]

/-- R146: an entry of the stream table. -/
def StreamEntry.bytes (e : StreamEntry) : List Byte :=
  record [leBytes 2 e.tag.toNat, leBytes 1 e.take.val, leBytes 4 e.accepted, leBytes 4 e.dropped]

/-- R146: the stream record. -/
def streamsRecord (d : Device) : List Field :=
  [num 1 d.siu.entries.length, d.siu.entries.map StreamEntry.bytes, num 4 d.siu.unrouted, num 4 d.siu.overrun,
   [d.siu.stage.bytes]]

/-! ### Segments (R164) -/

/-- R164: the take that holds a segment. -/
def Device.holder (d : Device) (s : Fin 64) : Option (Fin 64) := all64.find? (fun t => (d.take t).segments.contains s)

/-- R164: a take id and its entry in the take's segment list, or free. -/
def holderBytes (d : Device) (s : Fin 64) : List Byte :=
  match d.holder s with
  | some t => record [leBytes 1 0, leBytes 1 t.val, leBytes 1 ((d.take t).segments.idxOf s)]
  | none => leBytes 1 1

/-- R152, R164: the next word of the position, by its place in the segment; one past the last word where none of the sweep is left
(assumption log 38). -/
def Engine.nextWord (e : Engine) : Nat :=
  if e.pos.word < Config.wordsPerSegment then wordAt e.pattern e.pos.sweep e.pos.word else Config.wordsPerSegment

/-- R164: the self-test engine; the sweeps are numbered 0..1, the elements 0..11 over both rounds, and the clearing position is the segment and
the next block within it (assumption log 38). -/
def Engine.bytes (e : Engine) : List Byte :=
  let working := decide (e.state = .running) || decide (e.state = .halted) || decide (e.state = .stopping)
  record ([leBytes 1 e.state.code] ++
    partsIf (decide (e.state ≠ .idle)) [leBytes 1 e.mode.code, leBytes 1 e.pattern.code] ++
    partsIf working [leBytes 4 e.pass, leBytes 1 e.pos.seg.val, leBytes 1 e.pos.sweep, leBytes 3 e.nextWord] ++
    partsIf (decide (e.state = .clearing)) [leBytes 1 (e.clearing.headD 0).val, leBytes 2 e.clearBlock])

/-- R164, R172: the failure record, locked with its fields, or unlocked. -/
def failureBytes : Option Failure → List Byte
  | none => leBytes 1 1
  | some f =>
    record [leBytes 1 0, leBytes 1 f.seg.val, leBytes 4 f.offset, leBytes 1 f.lanes, leBytes 8 f.expected.toNat,
      leBytes 8 f.observed.toNat, leBytes 4 f.pass]

/-- R164: the end summary, or empty. -/
def summaryBytes : Option EndSummary → List Byte
  | some x => record (leBytes 1 0 :: x.parts)
  | none => leBytes 1 1

/-- R164: the burst in flight. -/
def portBytes : Option Burst → List Byte
  | none => leBytes 1 0
  | some .refresh => leBytes 1 1
  | some (.fetch v _) => record [leBytes 1 2, leBytes 1 v.val]
  | some (.intake _ _) => leBytes 1 3
  | some (.peek _) => leBytes 1 4
  | some (.verify _ _) => leBytes 1 5
  | some (.selftest _ _ _) => leBytes 1 6
  | some (.clearing _) => leBytes 1 7

/-- R164: the segment record. -/
def segmentsRecord (d : Device) : List Field :=
  [all64.map (fun s => record [leBytes 1 (d.smc.segs[s]).code, holderBytes d s]),
   [d.smc.engine.bytes],
   [failureBytes d.smc.engine.failure],
   [summaryBytes d.smc.engine.summary],
   [record [leBytes 1 d.smc.rate, leBytes 1 d.smc.debt]],
   [injectionBytes d.smc.injection],
   [record [portBytes d.smc.port, leBytes 1 d.smc.lastVoice.val]]]

/-! ### IDENT (R173) -/

/-- R173: the result of IDENT. -/
def identRecord (d : Device) : List Field :=
  [num 2 Config.partCode,
   num 1 Config.revision,
   [record [leBytes 1 32, leBytes 1 4, leBytes 1 8]],
   [record [leBytes 1 64, leBytes 2 Config.blocksPerSegment]],
   [record [leBytes 1 64, leBytes 1 Config.cuesPerVoice, leBytes 1 Config.slotsPerVoice]],
   [record [leBytes 1 Config.markerEntries, leBytes 1 Config.captureRecords, leBytes 1 43]],
   num 1 d.pwc.power.code,
   num 1 d.pwc.resetCause.code]

/-! ### Reports (R181, R182) -/

/-- R182: the block number of the head's next sample to play: that of the oldest slot, or of the cursor when no slot holds the head. -/
def Voice.nextBlock (v : Voice) : BlockNo :=
  match v.headSlots, v.cursor with
  | s :: _, _ => s.block
  | [], .atTarget _ _ b _ => b
  | [], .held _ _ (some b) => b
  | _, _ => 0

/-- R182: a voice's record of a report. -/
def reportVoice (i : Fin 32) (v : Voice) : List Byte :=
  record ([leBytes 1 i.val, leBytes 1 v.state.code] ++
    (match v.cues with
      | [] => []
      | c :: _ => [leBytes 2 c.label.toNat] ++ partsIf v.started [leBytes 1 c.take.val, leBytes 4 v.nextBlock.toNat]) ++
    [leBytes 1 v.filledCount])

/-- R182: the record of a live ring. -/
def reportRing (i : Fin 64) (t : Take) : List Byte :=
  record [leBytes 1 i.val,
    (match t.ring with
      | some r => record [leBytes 1 0, leBytes 4 r.w.toNat]
      | none => leBytes 1 1)]

/-- R182: a report of the state as the tick carrying `time` leaves it. -/
def reportFields (time : Nat) (d : Device) : List Field :=
  [[timeBytes time],
   num 1 SceneState.running.code,
   allVoices.map (fun i => reportVoice i (d.voice i)),
   (all64.filter (fun t => decide ((d.take t).state = .live))).map (fun t => reportRing t (d.take t))]

/-- R181: whether a report falls due at a RUNNING tick carrying `time`. -/
def Ntu.reportDue (n : Ntu) (time : Nat) : Bool := decide (n.interval ≠ 0) && decide (0 < time) && decide (time % n.interval = 0)

/-- R181: the report of a RUNNING tick carrying `time`, if one falls due, replaces a pending one. -/
def Device.formReport (time : Nat) (d : Device) : Device :=
  if d.ntu.reportDue time then d.setNtu { d.ntu with report := some (resultChain (reportFields time d)) } else d

end Sys2Proof.Machine
end

