-- ==== Sys2Proof/Machine/Forms.lean ====
section
/-! DEFINITION. The bodies of the controls as their rules read them (R21, R30, R32, R92, R98, R105, R162, R170, R177): setting tuples,
record tuples and arguments, with the faults of form and the numbers out of range. -/

namespace Sys2Proof.Machine

/-- R170: what a control reads from each tuple of a chain, in chain order; none for a fault of form. -/
def readAll {α : Type} (f : Tuple → Option (List α)) : List Tuple → Option (List α)
  | [] => some []
  | t :: ts =>
    match f t, readAll f ts with
    | some xs, some ys => some (xs ++ ys)
    | _, _ => none

/-- The byte at index i of a tuple's data. -/
def Tuple.byte (t : Tuple) (i : Nat) : Nat := field t.data i 1

/-! ### VOICE_SET (R20, R21) -/

/-- R20: a voice setting and its value. -/
inductive VoiceValue where
  | port (p : Nat)
  | conceal (c : Conceal)
  | timeMode (m : TimeMode)
  | prime (n : Nat)
  | resume (n : Nat)
deriving DecidableEq, Repr

/-- R21: a setting tuple of VOICE_SET. -/
structure VoiceSetting where
  voice : Nat
  value : VoiceValue
deriving DecidableEq, Repr

/-- R21: what a tuple sets of a voice. -/
def voiceSettingOf (t : Tuple) : Option (List VoiceSetting) :=
  let v := t.byte 0
  let x := t.byte 1
  match t.code with
  | 0x20 => some [⟨v, .port x⟩]
  | 0x21 => (concealOf x).map (fun c => [⟨v, .conceal c⟩])
  | 0x22 => (timeModeOf x).map (fun m => [⟨v, .timeMode m⟩])
  | 0x23 => some [⟨v, .prime x⟩]
  | 0x24 => some [⟨v, .resume x⟩]
  | _ => some []

/-- R21: whether a setting's numbers lie in range. -/
def VoiceSetting.inRange (s : VoiceSetting) : Bool :=
  decide (s.voice < 32) &&
    (match s.value with
      | .port p => decide (p < 4)
      | _ => true)

/-- R21: a voice with a setting; a depth is clamped to 1..8. -/
def VoiceValue.apply (x : VoiceValue) (v : Voice) : Voice :=
  match x with
  | .port p => (match numberOf 4 p with
    | some p => { v with port := p }
    | none => v)
  | .conceal c => { v with conceal := c }
  | .timeMode m => { v with timeMode := m }
  | .prime n => { v with primeDepth := clampNat 1 8 n }
  | .resume n => { v with resumeDepth := clampNat 1 8 n }

/-- R21: a setting is applied. -/
def Device.applyVoice (d : Device) (s : VoiceSetting) : Device :=
  match numberOf 32 s.voice with
  | some v => d.setVoice v (s.value.apply (d.voice v))
  | none => d

/-- R21: whether a setting names a depth of voice v. -/
def VoiceSetting.namesDepth (v : Fin 32) (s : VoiceSetting) : Bool :=
  decide (s.voice = v.val) &&
    (match s.value with
      | .prime _ => true
      | .resume _ => true
      | _ => false)

/-! ### PORT_SET (R91, R92) -/

/-- R91: a port setting and its value. -/
inductive PortValue where
  | enable (b : Bool)
  | headroom (n : Nat)
  | atten (n : Nat)
  | width (w : Width)
  | pause (p : PauseOut)
deriving DecidableEq, Repr

/-- R92: a setting tuple of PORT_SET. -/
structure PortSetting where
  port : Nat
  value : PortValue
deriving DecidableEq, Repr

/-- R92: what a tuple sets of a port. -/
def portSettingOf (t : Tuple) : Option (List PortSetting) :=
  let p := t.byte 0
  let x := t.byte 1
  match t.code with
  | 0x28 => (onOffOf x).map (fun b => [⟨p, .enable b⟩])
  | 0x29 => some [⟨p, .headroom x⟩]
  | 0x2A => some [⟨p, .atten (field t.data 1 2)⟩]
  | 0x2B => (widthOf x).map (fun w => [⟨p, .width w⟩])
  | 0x2C => (pauseOf x).map (fun u => [⟨p, .pause u⟩])
  | _ => some []

/-- R92, R94: a port with a setting; a change of width clears the last delivered sample. Each tuple of a chain is judged against the width
as the tuples before it left it (assumption log 33). -/
def PortValue.apply (x : PortValue) (p : Port) : Port :=
  match x with
  | .enable b => { p with enable := b }
  | .headroom n => { p with headroom := min 5 n }
  | .atten n => { p with atten := min Config.attenMax n }
  | .width w => if w = p.width then p else { p with width := w, last := IQ.zero }
  | .pause u => { p with pause := u }

/-- R92: a setting is applied. -/
def Device.applyPort (d : Device) (s : PortSetting) : Device :=
  match numberOf 4 s.port with
  | some p => d.setPort p (s.value.apply (d.port p))
  | none => d

/-! ### LINE_SET (R96, R98) -/

/-- R96: a line setting and its value. -/
inductive LineValue where
  | dir (x : Dir)
  | edgeMode (x : EdgeMode)
  | capture (b : Bool)
  | wake (b : Bool)
  | sleepMode (x : SleepMode)
  | latch (b : Bool)
deriving DecidableEq, Repr

/-- R98: a setting tuple of LINE_SET. -/
structure LineSetting where
  line : Nat
  value : LineValue
deriving DecidableEq, Repr

/-- R98: what a tuple sets of a line. -/
def lineSettingOf (t : Tuple) : Option (List LineSetting) :=
  let l := t.byte 0
  let x := t.byte 1
  match t.code with
  | 0x30 => (dirOf x).map (fun y => [⟨l, .dir y⟩])
  | 0x31 => (edgeModeOf x).map (fun y => [⟨l, .edgeMode y⟩])
  | 0x32 => (onOffOf x).map (fun y => [⟨l, .capture y⟩])
  | 0x33 => (onOffOf x).map (fun y => [⟨l, .wake y⟩])
  | 0x34 => (sleepModeOf x).map (fun y => [⟨l, .sleepMode y⟩])
  | 0x35 => (onOffOf x).map (fun y => [⟨l, .latch y⟩])
  | _ => some []

/-- R98: a line with a setting. -/
def LineValue.apply (x : LineValue) (l : Line) : Line :=
  match x with
  | .dir y => { l with dir := y }
  | .edgeMode y => { l with edgeMode := y }
  | .capture y => { l with capture := y }
  | .wake y => { l with wake := y }
  | .sleepMode y => { l with sleepMode := y }
  | .latch y => { l with latch := y }

/-- R98: a setting is applied. -/
def Device.applyLine (d : Device) (s : LineSetting) : Device :=
  match numberOf 8 s.line with
  | some l => d.setLine l (s.value.apply (d.line l))
  | none => d

/-! ### NOTICE_SET (R177) -/

/-- R177: a SOURCE_SET tuple. -/
structure SourceTuple where
  source : Nat
  kinds : BitVec 16
  level : Nat
deriving DecidableEq, Repr

/-- R177: what a tuple sets of a source. -/
def sourceTupleOf (t : Tuple) : Option (List SourceTuple) :=
  match t.code with
  | 0x48 => some [⟨t.byte 0, BitVec.ofNat 16 (field t.data 1 2), t.byte 3⟩]
  | _ => some []

/-- R177: whether a source number and a level lie in range. -/
def SourceTuple.inRange (s : SourceTuple) : Bool := decide (s.source < 43) && decide (s.level ≤ 3)

/-- R177: the enabled-kind set as it is stored: bits above the last kind number are clear. -/
def storedKinds (s : Fin 43) (kinds : BitVec 16) : BitVec 16 := kinds &&& BitVec.ofNat 16 (2 ^ kindCount s - 1)

/-- R177: a SOURCE_SET is applied. -/
def Ntu.applySource (n : Ntu) (s : SourceTuple) : Ntu :=
  match numberOf 43 s.source with
  | some i => { n with settings := n.settings.set i ⟨storedKinds i s.kinds, s.level⟩ }
  | none => n

/-- R177: a named source with its settings as they stand; a source named twice has an item for each naming (assumption log 37). -/
def Ntu.sourceBytes (n : Ntu) (s : SourceTuple) : List Byte :=
  match numberOf 43 s.source with
  | some i => record [leBytes 1 i.val, leBytes 2 (n.settings[i]).kinds.toNat, leBytes 1 (n.settings[i]).level]
  | none => []

/-! ### MEM_SET (R162) -/

/-- R162: a tuple of MEM_SET. -/
inductive MemTuple where
  | rate (r : Nat)
  | inject (take : Nat) (block : BlockNo)
  | injectOff
deriving DecidableEq, Repr

/-- R162: what a tuple sets of the memory controller. -/
def memTupleOf (t : Tuple) : Option (List MemTuple) :=
  match t.code with
  | 0x51 => (rateOf (t.byte 0)).map (fun r => [.rate r])
  | 0x52 => some [.inject (t.byte 0) (BitVec.ofNat 32 (field t.data 1 4))]
  | 0x53 => some [.injectOff]
  | _ => some []

/-- R162: the status of the first check an INJECT fails, in the order of one check number: 2 the take id, 3 the take's state, 4 the
block number. -/
def MemTuple.refusal (d : Device) (check : Nat) (m : MemTuple) : Option Status :=
  match m with
  | .inject t b =>
    match numberOf 64 t with
    | none => if check = 2 then some .range else none
    | some t =>
      let x := d.take t
      if check = 3 ∧ x.state = .free then some .noTake
      else if check = 4 ∧ x.kind = .resident ∧ x.capacity ≤ b.toNat then some .range
      else none
  | _ => none

/-- R162: a tuple is applied. -/
def Smc.applyMem (s : Smc) (m : MemTuple) : Smc :=
  match m with
  | .rate r => { s with rate := r }
  | .inject t b => (match numberOf 64 t with
    | some t => { s with injection := some ⟨t, b, true⟩ }
    | none => s)
  | .injectOff => { s with injection := none }

/-! ### MARK_LOAD (R105) -/

/-- R105: a marker tuple, its line number not yet checked. -/
structure RawMarker where
  time : Nat
  line : Nat
  action : MarkAction
deriving DecidableEq, Repr

/-- R105: a marker's action, from its value and whether the tuple carries a width. -/
def markActionOf (x : Nat) (width : Option Nat) : Option MarkAction :=
  match x, width with
  | 0, none => some .set
  | 1, none => some .clear
  | 2, none => some .toggle
  | 3, some w => some (.pulse w)
  | _, _ => none

/-- R105: the marker a tuple begins. -/
def markerOf (t : Tuple) : Option (List RawMarker) :=
  match t.code with
  | 0x38 =>
    let width := if t.data.length = 10 then some (field t.data 8 2) else none
    (markActionOf (t.byte 7) width).map (fun a => [⟨field t.data 0 6, t.byte 6, a⟩])
  | _ => some []

/-- R105: whether a marker's numbers lie in range. -/
def RawMarker.inRange (m : RawMarker) : Bool :=
  decide (m.line < 8) &&
    (match m.action with
      | .pulse w => decide (w ≠ 0)
      | _ => true)

/-- R105: an entry is inserted into the marker table. -/
def loadMarker (table : List Marker) (m : RawMarker) : List Marker :=
  match numberOf 8 m.line with
  | some l => insertMarker ⟨m.time, l, m.action⟩ table
  | none => table

/-! ### CUE_LOAD (R30, R32) -/

/-- R30: a cue as its tuples give it, its take and line numbers not yet checked. -/
structure RawCue where
  label : BitVec 16
  take : Nat
  start : BitVec 32
  length : Nat
  count : Nat
  mode : Nat
  endAction : Rest
  time : Option Nat
  line : Option Nat
  entry : Option Nat
  ramp : Option (Nat × Nat)
  shift : Option (BitVec 32 × Option (BitVec 16))
  notify : Option Nat
deriving DecidableEq, Repr

/-- R30, R32: the cue a CUE tuple begins; none for a start mode or an end action outside its set. -/
def cueOf (t : Tuple) : Option RawCue :=
  if t.byte 12 ≤ 2 then
    (restOf (t.byte 13)).map (fun r =>
      { label := BitVec.ofNat 16 (field t.data 0 2), take := t.byte 2, start := BitVec.ofNat 32 (field t.data 3 4),
        length := field t.data 7 4, count := t.byte 11, mode := t.byte 12, endAction := r, time := none, line := none, entry := none,
        ramp := none, shift := none, notify := none })
  else none

/-- A value is given where none was; none for one given twice. -/
def giveOnce {α : Type} (old : Option α) (x : α) : Option (Option α) :=
  match old with
  | none => some (some x)
  | some _ => none

/-- R30: what a SHIFT tuple gives; none for a phase mode outside its set. -/
def shiftOf (t : Tuple) : Option (BitVec 32 × Option (BitVec 16)) :=
  match t.byte 4 with
  | 0 => some (BitVec.ofNat 32 (field t.data 0 4), none)
  | 1 => some (BitVec.ofNat 32 (field t.data 0 4), some (BitVec.ofNat 16 (field t.data 5 2)))
  | _ => none

/-- R30: what a NOTIFY tuple gives; none for a value outside 0..3. -/
def notifyOf (t : Tuple) : Option Nat := if t.byte 0 ≤ 3 then some (t.byte 0) else none

/-- R32, R170: an optional tuple attaches to a cue; none for one given twice or of a value outside its set. -/
def attach (t : Tuple) (c : RawCue) : Option RawCue :=
  match t.code with
  | 0x11 => (giveOnce c.time (field t.data 0 6)).map (fun x => { c with time := x })
  | 0x12 => (giveOnce c.line (t.byte 0)).map (fun x => { c with line := x })
  | 0x13 => (giveOnce c.entry (field t.data 0 2)).map (fun x => { c with entry := x })
  | 0x14 => (giveOnce c.ramp (field t.data 0 2, field t.data 2 2)).map (fun x => { c with ramp := x })
  | 0x15 => (shiftOf t).bind (fun s => (giveOnce c.shift s).map (fun x => { c with shift := x }))
  | 0x16 => (notifyOf t).bind (fun n => (giveOnce c.notify n).map (fun x => { c with notify := x }))
  | _ => some c

/-- R170: whether a tuple is one of the optional tuples of a cue. -/
def optionalTuple (t : Tuple) : Bool := decide (0x11 ≤ t.code) && decide (t.code ≤ 0x16)

/-- R32: whether TIME and LINE are present exactly where the start mode asks for them. -/
def RawCue.whole (c : RawCue) : Bool :=
  (c.time.isSome == decide (c.mode = 1)) && (c.line.isSome == decide (c.mode = 2))

/-- R32, R170: the cues of a chain, with the one that optional tuples attach to; none for a fault of form. -/
def readCues : Option RawCue → List Tuple → Option (List RawCue)
  | cur, [] => some cur.toList
  | cur, t :: ts =>
    if t.code = 0x10 then
      match cueOf t with
      | some c => (readCues (some c) ts).map (fun cs => cur.toList ++ cs)
      | none => none
    else
      match cur with
      | none => if optionalTuple t then none else readCues none ts
      | some c =>
        match attach t c with
        | some c' => readCues (some c') ts
        | none => none

/-- R32: the cues of a CUE_LOAD chain; none for a fault of form. -/
def cuesOf (ts : List Tuple) : Option (List RawCue) :=
  match readCues none ts with
  | some cs => if cs.all RawCue.whole then some cs else none
  | none => none

/-- R32: whether a cue's take id and line number lie in range. -/
def RawCue.inRange (c : RawCue) : Bool := decide (c.take < 64) && decide (c.line.getD 0 < 8)

/-- R30: the cue record of a checked cue; attenuation codes are clamped. -/
def RawCue.cue (c : RawCue) : Cue :=
  { label := c.label
    take := (numberOf 64 c.take).getD 0
    start := c.start
    length := c.length
    count := c.count
    mode := (startModeOf (c.time.getD 0) ((numberOf 8 (c.line.getD 0)).getD 0) c.mode).getD .follow
    endAction := c.endAction
    entry := c.entry.map (min Config.attenMax)
    ramp := c.ramp.map (fun r => (min Config.attenMax r.1, r.2))
    freq := (match c.shift with
      | some s => s.1
      | none => 0)
    phase := (match c.shift with
      | some s => s.2
      | none => none)
    notifyStart := decide (c.notify.getD 0 % 2 = 1)
    notifyEnd := decide (2 ≤ c.notify.getD 0)
    verdict := .undecided }

end Sys2Proof.Machine
end

