-- ==== Sys2Proof/Machine/Controls.lean ====
section
/-! DEFINITION. The controls of 09 section 9.5, each with its checks in the order of its rule and its effect, and the Control Unit that
takes them (R165 to R168, R175). -/

namespace Sys2Proof.Machine

/-! ### Answers (R166, R167) -/

/-- R166: a reply's status and its result fields. -/
abbrev Answer := Status × List Field

/-- What a control makes of the device, and its reply; none for a TAKE_PEEK whose reply is still to come (R128). -/
abbrev Carried := Device × Option Answer

/-- R167: a control is refused with a status and changes nothing. -/
def refuse (d : Device) (st : Status) : Carried := (d, some (st, []))

/-- R167: a control is carried out, with its result fields. -/
def accept (d : Device) (fs : List Field) : Carried := (d, some (.ok, fs))

/-- R168, R170: the number of n objects in a required one-byte argument: MALFORMED when it is missing, RANGE when it is too great. -/
def numbered (n code : Nat) (ts : List Tuple) : Except Status (Fin n) :=
  match argument code ts with
  | none => .error .malformed
  | some a =>
    match numberOf n (field a 0 1) with
    | none => .error .range
    | some i => .ok i

/-! ### IDENT, QUERY, CAPTURE_READ (R104, R173, R174) -/

/-- R173: IDENT. -/
def ctlIdent (_ts : List Tuple) (d : Device) : Carried := accept d (identRecord d)

/-- R174: a QUERY of one of n objects. -/
def queryOf (n : Nat) (index : Nat) (d : Device) (f : Fin n → List Field) : Carried :=
  match numberOf n index with
  | some i => accept d (f i)
  | none => refuse d .range

/-- R174: QUERY. -/
def ctlQuery (ts : List Tuple) (d : Device) : Carried :=
  match argument 0x07 ts with
  | none => refuse d .malformed
  | some a =>
    match field a 0 1 with
    | 0 => accept d (sceneRecord d)
    | 1 => queryOf 32 (field a 1 1) d (fun v => voiceRecord (d.voice v))
    | 2 => queryOf 64 (field a 1 1) d (fun t => takeRecord d t)
    | 3 => queryOf 4 (field a 1 1) d (fun p => portRecord d p)
    | 4 => accept d (linesRecord d)
    | 5 => accept d (segmentsRecord d)
    | 6 => accept d (streamsRecord d)
    | _ => refuse d .malformed

/-- R104: CAPTURE_READ. -/
def ctlCaptureRead (_ts : List Tuple) (d : Device) : Carried :=
  accept (d.setStu { d.stu with captures := [], overrun := false })
    [num 1 d.stu.captures.length, d.stu.captures.map Capture.bytes, [flagByte d.stu.overrun]]

/-! ### Takes (R118 to R128) -/

/-- R118: the arguments of TAKE_OPEN: take id, kind, format and segment count. -/
def openArgs (ts : List Tuple) : Option (Nat × TakeKind × Format × Nat) :=
  match argument 0x05 ts with
  | none => none
  | some a =>
    match kindOf (field a 1 1), formatOf (field a 2 1) with
    | some k, some f => some (field a 0 1, k, f, field a 3 1)
    | _, _ => none

/-- R119: the result of TAKE_OPEN. -/
def openResult (d : Device) (t : Fin 64) : List Field :=
  let x := d.take t
  [num 1 t.val, num 3 x.opening, x.segments.map (fun s => leBytes 1 s.val), num 3 x.capacity]

/-- R118, R119: TAKE_OPEN. -/
def ctlTakeOpen (ts : List Tuple) (d : Device) : Carried :=
  match openArgs ts with
  | none => refuse d .malformed
  | some (id, kind, format, k) =>
    match numberOf 64 id with
    | none => refuse d .range
    | some t =>
      if k = 0 ∨ 64 < k then refuse d .range
      else if (d.take t).state ≠ .free then refuse d .inUse
      else if d.smc.engine.state ≠ .idle then refuse d .busy
      else if d.goodSegments.length < k then refuse d .noSpace
      else
        let w := d.openTake t kind format k
        accept w (openResult w t)

/-- R121, R122: TAKE_CLOSE. -/
def ctlTakeClose (ts : List Tuple) (d : Device) : Carried :=
  match numbered 64 0x02 ts with
  | .error st => refuse d st
  | .ok t =>
    match (d.take t).state with
    | .free => refuse d .noTake
    | .filling => accept (d.closeResident t .control).rejudgeIntake []
    | .live => accept (d.endRing t .control).rejudgeIntake []
    | _ => refuse d .state

/-- R123, R124: TAKE_DROP. -/
def ctlTakeDrop (ts : List Tuple) (d : Device) : Carried :=
  match numbered 64 0x02 ts with
  | .error st => refuse d st
  | .ok t =>
    if (d.take t).state = .free then refuse d .noTake
    else if d.cuesNaming t ≠ 0 then refuse d .inUse
    else accept (d.dropTake t) []

/-- R125: whether a verify is RUNNING on any take. -/
def Device.verifying (d : Device) : Bool := all64.any (fun t => decide ((d.take t).verify.state = .running))

/-- R125: TAKE_VERIFY. -/
def ctlTakeVerify (ts : List Tuple) (d : Device) : Carried :=
  match numbered 64 0x02 ts with
  | .error st => refuse d st
  | .ok t =>
    if (d.take t).state = .free then refuse d .noTake
    else if d.verifying then refuse d .busy
    else (d.startVerify t, some (.accepted, []))

/-- R128: the Control Unit requests a peek's read and holds. -/
def Device.startPeek (tag : BitVec 16) (t : Fin 64) (b : BlockNo) (d : Device) : Device :=
  d.setCtu (.holding { tag := tag, opening := (d.take t).opening, block := b, addr := (d.take t).blockAddress b } .waiting)

/-- R128: TAKE_PEEK. -/
def ctlTakePeek (tag : BitVec 16) (ts : List Tuple) (d : Device) : Carried :=
  match argument 0x03 ts, numbered 64 0x02 ts with
  | none, _ => refuse d .malformed
  | some _, .error st => refuse d st
  | some a, .ok t =>
    let b := BitVec.ofNat 32 (field a 0 4)
    if (d.take t).state = .free then refuse d .noTake
    else if (d.take t).kind = .resident ∧ (d.take t).capacity ≤ b.toNat then refuse d .range
    else (d.startPeek tag t b, none)

/-! ### Streams (R133, R134) -/

/-- R133: a stream is bound to a take. -/
def Device.bind (tag : BitVec 16) (t : Fin 64) (d : Device) : Device :=
  (d.setSiu { d.siu with entries := insertEntry ⟨tag, t, 0, 0⟩ d.siu.entries }).setTake t { d.take t with tag := some tag }

/-- R133: STREAM_BIND. -/
def ctlStreamBind (ts : List Tuple) (d : Device) : Carried :=
  match argument 0x04 ts, numbered 64 0x02 ts with
  | none, _ => refuse d .malformed
  | some _, .error st => refuse d st
  | some a, .ok t =>
    let tag := BitVec.ofNat 16 (field a 0 2)
    if (d.siu.entry tag).isSome then refuse d .inUse
    else if (d.take t).state = .free then refuse d .noTake
    else if (d.take t).state = .ready ∨ (d.take t).state = .ended then refuse d .state
    else if (d.take t).tag.isSome then refuse d .inUse
    else accept (d.bind tag t) [num 2 tag.toNat, num 1 t.val]

/-- R134: STREAM_UNBIND. -/
def ctlStreamUnbind (ts : List Tuple) (d : Device) : Carried :=
  match argument 0x04 ts with
  | none => refuse d .malformed
  | some a =>
    let tag := BitVec.ofNat 16 (field a 0 2)
    match d.siu.entry tag with
    | none => refuse d .state
    | some e => accept (d.unbind tag).rejudgeIntake [num 1 e.take.val, num 4 e.accepted, num 4 e.dropped]

/-! ### Cues and voices (R21, R25, R32 to R36) -/

/-- R32: the first check of the numbers, takes and capacity that a load of cues fails. -/
def loadRefusal (d : Device) (v : Voice) (cs : List RawCue) : Option Status :=
  if cs.all RawCue.inRange = false then some .range
  else if cs.any (fun c => decide ((d.take ((numberOf 64 c.take).getD 0)).state = .free)) then some .noTake
  else if Config.cuesPerVoice < v.cues.length + cs.length then some .full
  else none

/-- R25, R46, R54: the voice after cues are appended to its list. -/
def Voice.loaded (x : Ctx) (cs : List Cue) (v : Voice) : Voice × List Event :=
  let n := v.cues.length
  let w := { v with cues := v.cues ++ cs }
  match cs, v.cues, v.cursor with
  | [], _, _ => (v, [])
  | _, [], _ => andThen (Voice.settleHead x) (Voice.request x) ({ w with state := .priming }.arrive x.takes 0)
  | _, _, .atEnd _ => (w.arrive x.takes n).request x
  | _, _, _ => (w, [])

/-- R32: CUE_LOAD. The length in its reply counts the appended cues that R25 and R46 remove at once (assumption log 45). -/
def ctlCueLoad (ts : List Tuple) (d : Device) : Carried :=
  match argument 0x01 ts, cuesOf ts with
  | none, _ => refuse d .malformed
  | _, none => refuse d .malformed
  | some a, some cs =>
    match numberOf 32 (field a 0 1) with
    | none => refuse d .range
    | some v =>
      match loadRefusal d (d.voice v) cs with
      | some st => refuse d st
      | none =>
        accept (d.onVoice v (fun x y => y.loaded x (cs.map RawCue.cue))) [num 1 ((d.voice v).cues.length + cs.length)]

/-- R34, R56: CUE_FLUSH PENDING on a voice, which may then issue a request. -/
def Device.flushPending (v : Fin 32) (d : Device) : Device := d.onVoice v (fun x y => y.flushPending.request x)

/-- R35: CUE_FLUSH ALL on a voice. -/
def Device.flushAll (v : Fin 32) (d : Device) : Device := d.setVoice v (d.voice v).flushAll

/-- R34 to R36: CUE_FLUSH. -/
def ctlCueFlush (ts : List Tuple) (d : Device) : Carried :=
  match argument 0x01 ts, argument 0x06 ts with
  | some a, some m =>
    match onOffOf (field m 0 1) with
    | none => refuse d .malformed
    | some all =>
      if d.stu.frozen then refuse d .frozen
      else
        match numberOf 32 (field a 0 1) with
        | none => refuse d .range
        | some v =>
          let n := (d.voice v).cues.length
          if all then accept (d.flushAll v) [num 1 n] else accept (d.flushPending v) [num 1 (n - 1)]
  | _, _ => refuse d .malformed

/-- R21: a voice re-judges its state once a depth of it was named. -/
def Device.judgeDepth (ss : List VoiceSetting) (d : Device) (v : Fin 32) : Device :=
  if ss.any (VoiceSetting.namesDepth v) then d.onVoice v (fun x y => y.proceed x) else d

/-- R21: settings are applied in chain order, and the depths act at once. -/
def Device.setVoicesBy (ss : List VoiceSetting) (d : Device) : Device :=
  allVoices.foldl (Device.judgeDepth ss) (ss.foldl Device.applyVoice d)

/-- R21: VOICE_SET. -/
def ctlVoiceSet (ts : List Tuple) (d : Device) : Carried :=
  match readAll voiceSettingOf ts with
  | none => refuse d .malformed
  | some ss =>
    if d.stu.frozen then refuse d .frozen
    else if ss.all VoiceSetting.inRange = false then refuse d .range
    else accept (d.setVoicesBy ss) []

/-! ### Ports, lines, markers (R92, R98, R105, R108) -/

/-- R92: PORT_SET. -/
def ctlPortSet (ts : List Tuple) (d : Device) : Carried :=
  match readAll portSettingOf ts with
  | none => refuse d .malformed
  | some ss =>
    if d.stu.frozen then refuse d .frozen
    else if ss.all (fun s => decide (s.port < 4)) = false then refuse d .range
    else accept (ss.foldl Device.applyPort d) []

/-- R98: LINE_SET. -/
def ctlLineSet (ts : List Tuple) (d : Device) : Carried :=
  match readAll lineSettingOf ts with
  | none => refuse d .malformed
  | some ss =>
    if d.stu.frozen then refuse d .frozen
    else if ss.all (fun s => decide (s.line < 8)) = false then refuse d .range
    else accept (d.changeLines (fun d => ss.foldl Device.applyLine d)) []

/-- R105: MARK_LOAD. -/
def ctlMarkLoad (ts : List Tuple) (d : Device) : Carried :=
  match readAll markerOf ts with
  | none => refuse d .malformed
  | some ms =>
    if d.stu.frozen then refuse d .frozen
    else if ms.all RawMarker.inRange = false then refuse d .range
    else if Config.markerEntries < d.stu.markers.length + ms.length then refuse d .full
    else
      let table := ms.foldl loadMarker d.stu.markers
      accept (d.setStu { d.stu with markers := table }) [num 1 table.length]

/-- R108: MARK_CLEAR. -/
def ctlMarkClear (_ts : List Tuple) (d : Device) : Carried :=
  if d.stu.frozen then refuse d .frozen
  else accept (d.setStu { d.stu with markers := [] }) [num 1 d.stu.markers.length]

/-! ### The scene (R5, R6, R10 to R14, R17) -/

/-- R17: STATE_CHANGE. -/
def evStateChange (before after : SceneState) (time : Nat) : Event :=
  ⟨srcScene, 0, [num 1 before.code, num 1 after.code, [timeBytes time]]⟩

/-- R1, R17: the scene goes to another state, and STATE_CHANGE is posted. -/
def Device.moveScene (s : SceneState) (d : Device) : Device :=
  (d.setStu { d.stu with scene := s }).post (evStateChange d.stu.scene s d.stu.time)

/-- R5, R61: a voice at GO acceptance. -/
def Voice.atGo (v : Voice) : Voice := { v with absentCount := 0, corruptCount := 0, concealReported := false }

/-- R5, R89: a port at GO acceptance. -/
def Port.atGo (p : Port) : Port := { p with clip := 0 }

/-- R5, R6: the state an accepted GO enters. -/
def goState (cond : StartCond) (primedWait : Bool) : SceneState :=
  match cond, primedWait with
  | .immediate, false => .running
  | _, _ => .armed

/-- R5, R8: the GO conditions while the scene is ARMED. -/
def goConds (cond : StartCond) (primedWait : Bool) : Option GoConds :=
  match goState cond primedWait with
  | .armed => some ⟨cond, primedWait, false⟩
  | _ => none

/-- R5, R6: an accepted GO. -/
def Device.go (cond : StartCond) (primedWait : Bool) (d : Device) : Device :=
  ((((d.setVoices (d.voices.map Voice.atGo)).setPorts (d.ports.map Port.atGo)).setStu
    { d.stu with time := 0, go := goConds cond primedWait, cueStarted := false, drainedPosted := false }).moveScene
      (goState cond primedWait))

/-- R5: the start condition of a GO that passed its checks of form: its value and its line number. -/
def goArgs (ts : List Tuple) : Option (Option Nat) :=
  match argument 0x40 ts with
  | none => none
  | some a =>
    match field a 0 1 with
    | 0 => some none
    | 1 => some (some (field a 1 1))
    | _ => none

/-- R5: SCENE_GO. -/
def ctlSceneGo (ts : List Tuple) (d : Device) : Carried :=
  let primed := flagged 0x41 ts
  match goArgs ts with
  | none => refuse d .malformed
  | some line =>
    if d.stu.scene ≠ .stopped then refuse d .state
    else
      match line with
      | none => accept (d.go .immediate primed) [num 1 (goState .immediate primed).code]
      | some n =>
        match numberOf 8 n with
        | none => refuse d .range
        | some l =>
          if (d.line l).edgeMode = .none then refuse d .range
          else accept (d.go (.line l) primed) [num 1 (goState (.line l) primed).code]

/-- R10: SCENE_PAUSE. -/
def ctlScenePause (_ts : List Tuple) (d : Device) : Carried :=
  if d.stu.scene = .running then accept (d.moveScene .paused) [] else refuse d .state

/-- R11: SCENE_RESUME. -/
def ctlSceneResume (_ts : List Tuple) (d : Device) : Carried :=
  if d.stu.scene = .paused then accept (d.moveScene .running) [] else refuse d .state

/-- R12, R13: what SCENE_STOP discards beside the scene state. -/
def Device.stopScene (d : Device) : Device :=
  ((d.changeLines (fun d => d.setLines (d.lines.map Line.abandonPulse))).setVoices (d.voices.map Voice.flushAll)).setStu
    { d.stu with frozen := false, go := none, cueStarted := false, drainedPosted := false, markers := [] }

/-- R12, R13: SCENE_STOP. -/
def ctlSceneStop (_ts : List Tuple) (d : Device) : Carried :=
  accept (if d.stu.scene = .stopped then d.stopScene else d.stopScene.moveScene .stopped) [[timeBytes d.stu.time]]

/-- R14: SCENE_FREEZE. -/
def ctlSceneFreeze (_ts : List Tuple) (d : Device) : Carried :=
  if d.stu.scene = .stopped then refuse d .state else accept (d.setStu { d.stu with frozen := true }) []

/-! ### Notices and reports (R177, R181) -/

/-- R177: NOTICE_SET. -/
def ctlNoticeSet (ts : List Tuple) (d : Device) : Carried :=
  match readAll sourceTupleOf ts with
  | none => refuse d .malformed
  | some ss =>
    if ss.all SourceTuple.inRange = false then refuse d .range
    else
      let n := ss.foldl Ntu.applySource d.ntu
      accept (d.setNtu n) [ss.map n.sourceBytes]

/-- R181: the report interval a REPORT_SET gives. -/
def reportInterval (n : Nat) : Nat := if n = 0 then 0 else clampNat 4096 16777216 n

/-- R181: the Notice Unit after a REPORT_SET. -/
def Ntu.setInterval (x : Nat) (n : Ntu) : Ntu :=
  if x = 0 then { n with interval := 0, report := none } else { n with interval := reportInterval x }

/-- R181: REPORT_SET. -/
def ctlReportSet (ts : List Tuple) (d : Device) : Carried :=
  match argument 0x49 ts with
  | none => refuse d .malformed
  | some a => accept (d.setNtu (d.ntu.setInterval (field a 0 4))) [num 4 (reportInterval (field a 0 4))]

/-! ### Self-test and memory (R153, R157, R158, R162) -/

/-- R153: the arguments of SELFTEST: action, mode and pattern. -/
def testArgs (ts : List Tuple) : Option (Nat × TestMode × Pattern) :=
  match argument 0x50 ts with
  | none => none
  | some a =>
    match testModeOf (field a 1 1), patternOf (field a 2 1) with
    | some m, some p => some (field a 0 1, m, p)
    | _, _ => none

/-- R153: whether any take is not FREE. -/
def Device.anyTake (d : Device) : Bool := all64.any (fun t => decide ((d.take t).state ≠ .free))

/-- R153: SELFTEST START. -/
def selftestStart (m : TestMode) (p : Pattern) (d : Device) : Carried :=
  if d.anyTake then refuse d .inUse
  else if d.stu.scene ≠ .stopped then refuse d .state
  else if d.smc.engine.state ≠ .idle then refuse d .busy
  else (d.setSmc (d.smc.startRun m p), some (.accepted, []))

/-- R157: SELFTEST CONTINUE. -/
def selftestContinue (d : Device) : Carried :=
  if d.smc.engine.state = .halted then accept d.continueRun [] else refuse d .state

/-- R158: SELFTEST STOP. -/
def selftestStop (d : Device) : Carried :=
  match d.smc.engine.state, d.smc.engine.mode with
  | .running, .loop => accept (d.setEngine { d.smc.engine with state := .stopping }) []
  | .running, _ => accept (d.endRun .stopped) []
  | .halted, _ => accept (d.endRun .stopped) []
  | .stopping, _ => accept d []
  | _, _ => refuse d .state

/-- R153, R157, R158: SELFTEST. -/
def ctlSelftest (ts : List Tuple) (d : Device) : Carried :=
  match testArgs ts with
  | none => refuse d .malformed
  | some (0, m, p) => selftestStart m p d
  | some (1, _, _) => selftestContinue d
  | some (2, _, _) => selftestStop d
  | some _ => refuse d .malformed

/-- R162: the status of the first check that a MEM_SET chain fails, each check over the whole chain. -/
def memRefusal (d : Device) (ms : List MemTuple) : Option Status :=
  ([2, 3, 4].flatMap (fun check => ms.filterMap (MemTuple.refusal d check))).head?

/-- R162: MEM_SET. -/
def ctlMemSet (ts : List Tuple) (d : Device) : Carried :=
  match readAll memTupleOf ts with
  | none => refuse d .malformed
  | some ms =>
    match memRefusal d ms with
    | some st => refuse d st
    | none =>
      let s := ms.foldl Smc.applyMem d.smc
      accept (d.setSmc s) [num 1 s.rate, [injectionBytes s.injection]]

/-! ### Power and reset (R99, R150, R175, R188, R189) -/

/-- R189: the quiet timer is reloaded with the full quiet time. -/
def Pwc.reload (p : Pwc) : Pwc := { p with quietLeft := p.quietTime }

/-- R150: the memory controller at the entry to STANDBY or SLEEP. -/
def Smc.selfRefresh (s : Smc) : Smc := { s with debt := 0, timerOn := false }

/-- R150, R188: the power state becomes STANDBY. -/
def Device.enterStandby (d : Device) : Device :=
  (d.setSmc d.smc.selfRefresh).setPwc { d.pwc.reload with power := .standby }

/-- R99, R150, R188: the power state becomes SLEEP, and the lines take on their sleep behaviour. -/
def Device.enterSleep (d : Device) : Device :=
  let w := (d.setSmc d.smc.selfRefresh).setPwc { d.pwc.reload with power := .sleep }
  w.noteChanges (w.unblocked d.levels w.levels) w.levels

/-- R188: the first check that POWER STANDBY and SLEEP fail. -/
def powerRefusal (d : Device) : Option Status :=
  if d.stu.scene ≠ .stopped then some .state
  else if d.verifying || decide (d.smc.engine.state ≠ .idle) then some .busy
  else none

/-- R188: POWER STANDBY, SLEEP or QUIET, by the action's value. -/
def powerAction (action quiet : Nat) (d : Device) : Carried :=
  match action with
  | 0 => (match powerRefusal d with
    | some st => refuse d st
    | none => accept d.enterStandby [])
  | 1 => (match powerRefusal d with
    | some st => refuse d st
    | none => accept (d.setCtu (.closed .sleep false)) [])
  | 2 => accept (d.setPwc { d.pwc with quietTime := quiet, quietLeft := quiet }) [num 2 quiet]
  | _ => refuse d .malformed

/-- R188: POWER. -/
def ctlPower (ts : List Tuple) (d : Device) : Carried :=
  match argument 0x58 ts with
  | none => refuse d .malformed
  | some a => powerAction (field a 0 1) (field a 1 2) d

/-- R175: RESET. -/
def ctlReset (_ts : List Tuple) (d : Device) : Carried := accept (d.setCtu (.closed .reset false)) []

/-! ### The Control Unit (R165, R166, R168) -/

/-- 09 section 9.5: the control a code names. -/
def controlOf (tag : BitVec 16) (code : Nat) : Option (List Tuple → Device → Carried) :=
  match code with
  | 0x01 => some ctlIdent
  | 0x02 => some ctlQuery
  | 0x03 => some ctlCaptureRead
  | 0x10 => some ctlTakeOpen
  | 0x11 => some ctlTakeClose
  | 0x12 => some ctlTakeDrop
  | 0x13 => some ctlTakeVerify
  | 0x14 => some (ctlTakePeek tag)
  | 0x18 => some ctlStreamBind
  | 0x19 => some ctlStreamUnbind
  | 0x20 => some ctlCueLoad
  | 0x21 => some ctlCueFlush
  | 0x22 => some ctlVoiceSet
  | 0x28 => some ctlPortSet
  | 0x29 => some ctlLineSet
  | 0x2A => some ctlMarkLoad
  | 0x2B => some ctlMarkClear
  | 0x30 => some ctlSceneGo
  | 0x31 => some ctlScenePause
  | 0x32 => some ctlSceneResume
  | 0x33 => some ctlSceneStop
  | 0x34 => some ctlSceneFreeze
  | 0x38 => some ctlNoticeSet
  | 0x39 => some ctlReportSet
  | 0x40 => some ctlSelftest
  | 0x41 => some ctlMemSet
  | 0x48 => some ctlPower
  | 0x4F => some ctlReset
  | _ => none

/-- R168: a control is checked and carried out. -/
def carryOut (c : CtlPkt) (d : Device) : Carried :=
  match controlOf c.tag c.code.toNat with
  | none => refuse d .unknown
  | some f =>
    match readChain c.body with
    | none => refuse d .malformed
    | some ts => f ts d

/-- R166: a REPLY joins the reply queue. -/
def Device.pushReply (r : Reply) (d : Device) : Device := d.setBli { d.bli with replyQ := d.bli.replyQ ++ [r] }

/-- R166, R172: the REPLY to a control. -/
def replyTo (c : CtlPkt) (a : Answer) : Reply := { tag := c.tag, code := c.code, status := a.1, body := resultChain a.2 }

/-- R165, R166: a control that has left the queue is carried out, its REPLY joins the reply queue, and the arbiter decides. -/
def Device.execControl (c : CtlPkt) (d : Device) : Device :=
  match carryOut c d with
  | (w, some a) => (w.pushReply (replyTo c a)).grant
  | (w, none) => w.grant

/-- R165: whether the Control Unit may take a control. -/
def Device.mayTake (d : Device) : Bool :=
  decide (d.ctu = .free) && decide (d.bli.replyQ.length < Config.replyQueueSize) && decide (d.pwc.power = .active)

/-- R165: the Control Unit takes controls while it may, at most `fuel` of them. -/
def takeControls : Nat → Device → Device
  | 0, d => d
  | fuel + 1, d =>
    match d.bli.controlQ with
    | [] => d
    | c :: rest => if d.mayTake then takeControls fuel ((d.setBli { d.bli with controlQ := rest }).execControl c) else d

/-- R165: the Control Unit takes the controls it may take now. -/
def Device.runCtu (d : Device) : Device := takeControls d.bli.controlQ.length d

end Sys2Proof.Machine
end

