-- ==== Sys2Proof/Machine/Link.lean ====
section
/-! DEFINITION. The Bench Link (R179, R180, R182, R185 to R187, R190): what an arriving packet does, and what the transmitter sends. -/

namespace Sys2Proof.Machine

/-! ### Receiving (R185, R190) -/

/-- R185: a kind of framing fault's number. -/
def LinkFault.code : LinkFault → Nat
  | .crc => 0
  | .length => 0
  | .kind => 1
  | .sampleSize => 2
  | .size => 3

/-- R185: CRC. -/
def evCrc (p : Packet) (time : Nat) : Event := ⟨srcLink, 0, [num 1 p.kind.toNat, [timeBytes time]]⟩

/-- R185: FRAMING. -/
def evFraming (p : Packet) (f : LinkFault) : Event := ⟨srcLink, 1, [num 1 f.code, num 1 p.kind.toNat, num 2 p.len]⟩

/-- R185: CONTROL_OVERRUN. -/
def evControlOverrun (c : CtlPkt) : Event := ⟨srcLink, 2, [num 2 c.tag.toNat, num 1 c.code.toNat]⟩

/-- R185: the event of a packet that fails a check. -/
def faultEvent (p : Packet) (f : LinkFault) (time : Nat) : Event :=
  match f with
  | .crc => evCrc p time
  | f => evFraming p f

/-- R144, R185, R186: a SAMPLE packet joins the sample queue, or is discarded as an overrun. -/
def Device.queueSample (p : SamplePkt) (d : Device) : Device :=
  if d.bli.sampleQ.length < Config.sampleQueueSize then d.setBli { d.bli with sampleQ := d.bli.sampleQ ++ [p] }.arrived
  else (d.setSiu { d.siu with overrun := satAdd Config.max32 d.siu.overrun 1 }).post (evOverrun p d.stu.time)

/-- R185: a CONTROL packet joins the control queue, or is discarded. -/
def Device.queueControl (c : CtlPkt) (d : Device) : Device :=
  if d.bli.controlQ.length < Config.controlQueueSize then d.setBli { d.bli with controlQ := d.bli.controlQ ++ [c] }
  else d.post (evControlOverrun c)

/-- R185: a packet that passed every check is queued by its kind; a WAKE is discarded. -/
def Device.queuePacket (p : Packet) (d : Device) : Device :=
  if p.kind = 0x01#8 then
    match formatOf p.formatCode with
    | some f => d.queueSample (p.sample f)
    | none => d
  else if p.kind = 0x02#8 then d.queueControl p.control
  else d

/-- R189: a packet that arrives whole reloads the quiet timer. -/
def Device.reloadQuiet (d : Device) : Device := d.setPwc d.pwc.reload

/-- R185, R190: a packet arrives in ACTIVE, STANDBY or WAKING: it is judged and queued, it wakes a part in STANDBY, and the Control Unit
takes what it may. -/
def Device.hears (p : Packet) (d : Device) : Device :=
  match p.fault with
  | some f => d.reloadQuiet.post (faultEvent p f d.stu.time)
  | none =>
    let w := d.reloadQuiet.queuePacket p
    if d.pwc.power = .standby then w.wakeUp .link else w.runCtu

/-- R190: a packet arrives in SLEEP. -/
def Device.hearsAsleep (p : Packet) (d : Device) : Device :=
  if p.fault = none ∧ p.kind = 0x03#8 then d.wakeUp .link else d

/-- R185, R190, R191: a packet arrives; while RSTN is asserted the link does not receive. -/
def Device.receive (p : Packet) (d : Device) : Device :=
  if d.pwc.rstn then d
  else if d.pwc.power = .sleep then d.hearsAsleep p
  else d.hears p

/-! ### Sending (R179, R180, R182, R186, R187) -/

/-- R175, R187: whether the closing reply has been sent and the move it announced is still to come. -/
def Device.closingSent (d : Device) : Bool :=
  match d.ctu with
  | .closed _ true => decide (d.pwc.power = .active)
  | _ => false

/-- R187: whether the transmitter runs and may choose. -/
def Device.maySend (d : Device) : Bool := !d.pwc.rstn && decide (d.pwc.power ≠ .sleep) && !d.closingSent

/-- R186: at a gap, the symbol of the flow state goes out when it differs from the last one sent. -/
def Device.gap (d : Device) : Device := d.setBli { d.bli with lastSymbol := some d.bli.flow }

/-- R187: the packet sent. -/
def Device.sending (p : UpPacket) (d : Device) : Device := d.setBli { d.bli with sent := some p }

/-- R175: whether a REPLY was the one of the control that closed the Control Unit: the last of the queue. -/
def closingReply (rest : List Reply) (c : Ctu) : Ctu :=
  match c, rest with
  | .closed why false, [] => .closed why true
  | c, _ => c

/-- R179, R165: the oldest REPLY is sent and leaves the queue; the Control Unit takes what it then may. -/
def Device.sendReply (d : Device) : Device :=
  match d.bli.replyQ with
  | [] => d
  | r :: rest =>
    if d.maySend then
      let w := (d.gap.sending (.reply r)).setCtu (closingReply rest d.ctu)
      (w.setBli { w.bli with replyQ := rest }).runCtu
    else d

/-- R179: the source numbers in rising order. -/
def allSources : List (Fin 43) :=
  [0, 1, 2, 3, 4, 5, 6, 7, 8, 9, 10, 11, 12, 13, 14, 15, 16, 17, 18, 19, 20, 21, 22, 23, 24, 25, 26, 27, 28, 29, 30, 31, 32, 33, 34,
    35, 36, 37, 38, 39, 40, 41, 42]

/-- R179: the source of the entry of a level with the lowest source number. -/
def Ntu.atLevel (n : Ntu) (level : Nat) : Option (Fin 43) :=
  allSources.find? (fun s =>
    match n.queue[s] with
    | some e => decide (e.level = level)
    | none => false)

/-- R179: the source whose entry goes next: the highest level, and of equal levels the lowest source number. -/
def Ntu.nextSource (n : Ntu) : Option (Fin 43) := [3, 2, 1, 0].findSome? n.atLevel

/-- R180: the body of a NOTICE. -/
def Entry.noticeBody (e : Entry) : List Byte :=
  resultChain ([num 2 e.kinds.toNat, num 1 e.count, num 1 e.firstKind, [timeBytes e.firstTime]] ++ e.detail)

/-- R61, R179: a voice source's conceal-reported flag is cleared as its NOTICE is sent. -/
def Device.clearReported (s : Fin 43) (d : Device) : Device :=
  match numberOf 32 (s.val - 11) with
  | some v => if 11 ≤ s.val then d.setVoice v { d.voice v with concealReported := false } else d
  | none => d

/-- R179, R180: the entry of source s leaves the queue and is sent as a NOTICE. -/
def Device.sendEntry (s : Fin 43) (e : Entry) (d : Device) : Device :=
  ((d.gap.sending (.notice s e.noticeBody)).setNtu { d.ntu with queue := d.ntu.queue.set s none }).clearReported s

/-- R179: with no REPLY to send, the transmitter sends the NOTICE that goes next. -/
def Device.sendNotice (d : Device) : Device :=
  if d.maySend && d.bli.replyQ.isEmpty then
    match d.ntu.nextSource with
    | none => d
    | some s =>
      match d.ntu.queue[s] with
      | some e => d.sendEntry s e
      | none => d
  else d

/-- R179, R182: with no REPLY and no NOTICE to send, the transmitter sends the pending REPORT. -/
def Device.sendReport (d : Device) : Device :=
  if d.maySend && d.bli.replyQ.isEmpty && d.ntu.nextSource.isNone then
    match d.ntu.report with
    | some body => (d.gap.sending (.report body)).setNtu { d.ntu with report := none }
    | none => d
  else d

/-- R186: the transmitter sends the current flow symbol, when it differs from the last one sent. -/
def Device.sendSymbol (d : Device) : Device := if d.maySend then d.gap else d

end Sys2Proof.Machine
end

