-- ==== Sys2Proof/Machine/Reset.lean ====
section
/-! DEFINITION. Resets (R19, R49, R91, R96, R131, R132, R149, R159 to R161, R165, R175, R183, R186, R191), the end of the self-refresh
exit (R150, R190), and the quiet timer's expiry (R189). -/

namespace Sys2Proof.Machine

/-! ### What both resets leave (R191) -/

/-- R127, R131: a take after a warm reset: unbound, and with a running verify aborted without a notice. -/
def Take.warm (t : Take) : Take :=
  { t with
    tag := none
    verify := if t.verify.state = .running then { t.verify with state := VerifyState.aborted } else t.verify }

/-- R131: the Take Store after a warm reset. -/
def Tks.warm (s : Tks) : Tks := { s with takes := s.takes.map Take.warm, verifyStage := .idle }

/-- R160: the self-test engine after a warm reset. -/
def Engine.warm (e : Engine) : Engine := { e with state := .idle, stage := .idle }

/-- R148, R149, R160, R161: the memory controller after a warm reset; a burst in flight goes on in the store. -/
def Smc.warm (s : Smc) : Smc := { s with lastVoice := 31, engine := s.engine.warm, injection := none }

/-- R191: every block but Power Control as a warm reset leaves it; the intake is IDLE whatever write is in flight (assumption log 36). -/
def Device.warmBlocks (d : Device) : Device :=
  { d with
    bli := Bli.reset, ctu := .free, stu := Stu.reset, lines := d.lines.map (fun l => Line.reset l.bench),
    voices := Vector.ofFn Voice.reset, ports := Vector.replicate 4 Port.reset, tks := d.tks.warm, siu := Siu.reset,
    smc := d.smc.warm, ntu := Ntu.reset }

/-- R191: the power record after a warm reset of a cause. -/
def Pwc.warm (cause : ResetCause) (p : Pwc) : Pwc :=
  match p.power with
  | .active => Pwc.reset cause
  | s => { Pwc.reset cause with power := .waking, wakeCause := some .reset, left := some s }

/-- R191: a warm reset of a cause; the arbiter then decides. -/
def Device.warmReset (cause : ResetCause) (d : Device) : Device := ((d.warmBlocks).setPwc (d.pwc.warm cause)).grant

/-- R191: RSTN is asserted: every block is held as its reset gives, with what both kinds of reset do (assumption log 21). -/
def Device.assertRstn (d : Device) : Device :=
  (d.warmBlocks.setPwc { d.pwc with rstn := true, quietTime := 0, quietLeft := 0 }).grant

/-- R191: a cold reset of a cause; the bench goes on driving its levels. -/
def Device.coldReset (cause : ResetCause) (d : Device) : Device := Device.cold cause (fun l => (d.line l).bench)

/-- R191: power-on: a cold reset, in which the part holds itself until RSTN is released. -/
def Device.powerOn (d : Device) : Device :=
  let w := d.coldReset .powerOn
  w.setPwc { w.pwc with rstn := d.pwc.rstn, powerHeld := d.pwc.rstn }

/-- R191: the cause of the cold reset that a release of RSTN with FULLN low makes: a power-on's own, when it waited for the release. -/
def Device.coldCause (d : Device) : ResetCause := if d.pwc.powerHeld then .powerOn else .resetLineCold

/-! ### Power events (R149, R150, R189, R190) -/

/-- R190: WOKE. -/
def evWoke (cause : WakeCause) (left : PowerState) (time : Nat) : Event :=
  ⟨srcPower, 0,
    [[(match cause with
        | .link => leBytes 1 0
        | .line l => record [leBytes 1 1, leBytes 1 l.val]
        | .reset => leBytes 1 2)],
     num 1 left.code, [timeBytes time]]⟩

/-- R190: the WOKE event of a waking part. -/
def Device.postWoke (d : Device) : Device :=
  match d.pwc.wakeCause, d.pwc.left with
  | some c, some l => d.post (evWoke c l d.stu.time)
  | _, _ => d

/-- R190: a Control Unit closed by POWER SLEEP becomes FREE. -/
def Ctu.opened (c : Ctu) : Ctu :=
  match c with
  | .closed .sleep _ => .free
  | c => c

/-- R150, R190: the self-refresh exit ends: the part becomes ACTIVE, grants resume, and the Control Unit takes what it may. -/
def Device.exitEnds (d : Device) : Device :=
  let w := (d.setPwc { d.pwc with power := .active }).setSmc { d.smc with timerOn := true, debt := 0 }
  ((w.setCtu d.ctu.opened).postWoke.grant).runCtu

/-- R189: the conditions under which the quiet timer counts down. -/
def Device.quietRuns (d : Device) : Bool :=
  decide (d.pwc.quietTime ≠ 0) && decide (d.pwc.power = .active) && decide (d.stu.scene = .stopped) &&
    allVoices.all (fun v => decide ((d.voice v).state = .idle)) && !d.verifying && decide (d.smc.engine.state = .idle) &&
    (match d.ctu with
      | .closed _ _ => false
      | _ => true)

/-- R149, R159: the DRAM's re-initialisation ends, and the interval timer starts. -/
def Device.reinitEnds (d : Device) : Device :=
  (d.setSmc { d.smc with reinit := false, timerOn := decide (d.pwc.power = .active) }).grant

/-- R175: the move to SLEEP once the reply of POWER SLEEP has been sent. -/
def Device.sleepNow (d : Device) : Device :=
  match d.ctu with
  | .closed .sleep true => if d.pwc.power = .active then d.enterSleep else d
  | _ => d

/-- R175: the warm reset once the reply of RESET has been sent. -/
def Device.resetNow (d : Device) : Device :=
  match d.ctu with
  | .closed .reset true => d.warmReset .resetControl
  | _ => d

end Sys2Proof.Machine
end

