-- ==== Sys2Proof/Machine/Tick.lean ====
section
/-! DEFINITION. The scene tick (R2 to R4, R7, R8, R16, R17, R73, R85 to R90, R93, R94, R102, R106, R107, R181). -/

namespace Sys2Proof.Machine

/-! ### The kind of tick (R3, R7, R8) -/

/-- R7: the GO conditions after the edges of a tick are taken. -/
def GoConds.latched (fired : List (Fin 8)) (g : GoConds) : GoConds :=
  match g.cond with
  | .immediate => g
  | .line l => if fired.contains l then { g with latch := true } else g

/-- R8: the line condition. -/
def GoConds.lineMet (g : GoConds) : Bool :=
  match g.cond with
  | .immediate => true
  | .line _ => g.latch

/-- R8: the priming condition. -/
def Device.primedAll (d : Device) (g : GoConds) : Bool := !g.primedWait || allVoices.all (fun v => !(d.voice v).notWaiting)

/-- R8: whether the GO conditions hold at a tick, with the latch as the tick's edges leave it. -/
def Device.goHolds (d : Device) (fired : List (Fin 8)) : Bool :=
  match d.stu.scene, d.stu.go with
  | .armed, some g => (g.latched fired).lineMet && d.primedAll g
  | _, _ => false

/-- R3: the kind of the tick. -/
def Device.tickKind (d : Device) (fired : List (Fin 8)) : SceneState := if d.goHolds fired then .running else d.stu.scene

/-- R7: an ARMED tick updates the GO line latch. -/
def Device.latchGo (fired : List (Fin 8)) (d : Device) : Device :=
  if d.stu.scene = .armed then d.setStu { d.stu with go := d.stu.go.map (GoConds.latched fired) } else d

/-- R8, R17: the scene enters RUNNING from ARMED when the GO conditions hold, and the GO line latch is cleared. -/
def Device.enterRunning (d : Device) : Device := (d.setStu { d.stu with go := none }).moveScene .running

/-- R3, R4, R7, R8, R102: a tick takes the pending edges, settles its kind, and captures. -/
def Device.openTick (d : Device) : Device :=
  let taken := d.pendingEdges
  let fired := d.firedLines taken
  let w := (d.clearEdges).latchGo fired
  let w := if d.goHolds fired then w.enterRunning else w
  taken.foldl (Device.capture (d.tickKind fired)) w

/-! ### DRAINED and T (R2, R16) -/

/-- R16: DRAINED. -/
def evDrained (time : Nat) : Event := ⟨srcScene, 1, [[timeBytes time]]⟩

/-- R16: whether a RUNNING tick posts DRAINED. -/
def Device.drained (d : Device) : Bool :=
  d.stu.cueStarted && !d.stu.drainedPosted && allVoices.all (fun v => decide ((d.voice v).state = .idle))

/-- R16: DRAINED is evaluated on the voice states as the tick arrives. -/
def Device.judgeDrained (d : Device) : Device :=
  if d.drained then (d.setStu { d.stu with drainedPosted := true }).post (evDrained d.stu.time) else d

/-- R2: T after a RUNNING tick. -/
def Device.advanceTime (d : Device) : Device := d.setStu { d.stu with time := satAdd Config.timeMax d.stu.time 1 }

/-! ### The voices (R16, R73) -/

/-- R16: "cue started since GO" becomes true. -/
def Device.noteStarted (started : Bool) (d : Device) : Device :=
  if started then d.setStu { d.stu with cueStarted := true } else d

/-- What the voices handed so far: each pair with its voice's port. -/
structure Handing where
  dev : Device
  pairs : List (Fin 4 × IQ)

/-- R73: voice v's turn at a tick. -/
def Handing.voice (kind : SceneState) (fired : List (Fin 8)) (h : Handing) (v : Fin 32) : Handing :=
  let p := (h.dev.voice v).tick (h.dev.ctx v) kind fired
  { dev := ((h.dev.setVoice v p.voice).postAll p.events).noteStarted p.started
    pairs := h.pairs ++ [((h.dev.voice v).port, p.out)] }

/-- R73: the voices at a tick. -/
def Device.playVoices (kind : SceneState) (fired : List (Fin 8)) (d : Device) : Handing :=
  allVoices.foldl (Handing.voice kind fired) ⟨d, []⟩

/-! ### The ports (R85 to R90, R93, R94) -/

/-- R86, R87: a port's mix, with the stage at which each component first saturated. -/
structure Mix where
  out : IQ
  stageI : Option ClipStage
  stageQ : Option ClipStage
deriving DecidableEq, Repr

/-- R86, R87: the mix of a port for a sum. -/
def Port.mix (acc : IQ) (p : Port) : Mix :=
  let i := mixComponent p.width p.atten p.headroom acc.i
  let q := mixComponent p.width p.atten p.headroom acc.q
  ⟨⟨i.1, q.1⟩, i.2, q.2⟩

/-- R89: whether a mix sample is a clip. -/
def Mix.clips (m : Mix) : Bool := m.stageI.isSome || m.stageQ.isSome

/-- R90: a stage's number. -/
def ClipStage.code : ClipStage → Nat
  | .port => 0
  | .dac => 1

/-- R90: a component that saturated, with the stage at which it first did: an item that leads with the component, I 0 and Q 1 (assumption log
40). -/
def stageItem (component : Nat) : Option ClipStage → Field
  | some s => [record [leBytes 1 component, leBytes 1 s.code]]
  | none => []

/-- R90: CLIP. -/
def evClip (p : Fin 4) (time : Nat) (m : Mix) (count : Nat) : Event :=
  ⟨srcPort p, 0, [[timeBytes time], stageItem 0 m.stageI ++ stageItem 1 m.stageQ, num 4 count]⟩

/-- R89, R93, R94: a port after a delivery of a kind. -/
def Port.deliver (cond : OutCond) (m : Mix) (p : Port) : Port :=
  match cond with
  | .mix => { p with last := m.out, clip := if m.clips then satAdd Config.max32 p.clip 1 else p.clip }
  | .pauseHold => p
  | _ => { p with last := IQ.zero }

/-- R90: the CLIP event of a delivery. -/
def clipEvents (i : Fin 4) (time : Nat) (cond : OutCond) (m : Mix) (p : Port) : List Event :=
  match cond with
  | .mix => if m.clips then [evClip i time m p.clip] else []
  | _ => []

/-- R88, R93: port i at a tick of a kind. -/
def Device.portTick (kind : SceneState) (pairs : List (Fin 4 × IQ)) (d : Device) (i : Fin 4) : Device :=
  let p := d.port i
  let m := p.mix (portSum i pairs)
  let cond := p.condition true kind
  let q := p.deliver cond m
  (d.setPort i q).postAll (clipEvents i d.stu.time cond m q)

/-- R88, R93: the ports at a tick of a kind. -/
def Handing.deliver (kind : SceneState) (h : Handing) : Device := allPorts.foldl (Device.portTick kind h.pairs) h.dev

/-- R93, R94: a period of SCLK in which the STU takes no tick: every port delivers (0, 0). -/
def Device.deliverZero (d : Device) : Device := d.setPorts (d.ports.map (fun p => { p with last := IQ.zero }))

/-! ### The whole tick (R3) -/

/-- R3: a RUNNING tick, its edges taken. -/
def Device.runTick (fired : List (Fin 8)) (d : Device) : Device :=
  let w := ((d.judgeDrained.tickLatches).playVoices .running fired).deliver .running
  (w.formReport w.stu.time).advanceTime

/-- R3: a tick of another kind, its edges taken. -/
def Device.stillTick (kind : SceneState) (d : Device) : Device := (d.playVoices kind []).deliver kind

/-- R3: a scene tick that the STU takes; the arbiter then decides. -/
def Device.sceneTick (d : Device) : Device :=
  let fired := d.firedLines d.pendingEdges
  let kind := d.tickKind fired
  let w := d.openTick
  (if kind = .running then w.runTick fired else w.stillTick kind).grant

/-- R3, R93: a period of SCLK: a tick when the STU takes ticks, and otherwise a period without one. -/
def Device.sclkPeriod (d : Device) : Device := if d.ticking then d.sceneTick else d.deliverZero

/-! ### Ticks at which something falls due (R83, R107, R181) -/

/-- R3: whether the next tick is a RUNNING tick. -/
def Device.runsNext (d : Device) : Bool := d.ticking && decide (d.tickKind (d.firedLines d.pendingEdges) = .running)

/-- R83: whether the sample a voice plays next brings its step counter to the interval. -/
def Voice.rampReaches (v : Voice) : Bool :=
  v.headReady &&
    (match v.ramp with
      | some r => decide (r.interval ≤ r.counter + 1)
      | none => false)

/-- R83: whether a waiting head's start and first sample bring the step counter to the interval. -/
def Voice.startReaches (x : Ctx) (fired : List (Fin 8)) (c : Cue) (v : Voice) : Bool :=
  match startOf x.time fired c.mode, v.timeMode with
  | .no, _ => false
  | .onTime, _ => (v.startActions c).rampReaches
  | .late _, .slip => (v.startActions c).rampReaches
  | .late d, .keep =>
    match v.skip x c d with
    | .moved _ w => (w.startActions c).rampReaches
    | .ended _ => false

/-- R83: whether a voice's step counter reaches the interval at a RUNNING tick. -/
def Voice.rampDue (x : Ctx) (fired : List (Fin 8)) (v : Voice) : Bool :=
  match v.cues, v.state with
  | c :: _, .playing => (if v.started then v else v.startActions c).rampReaches
  | c :: _, .waiting => v.startReaches x fired c
  | _, _ => false

/-- R107: whether the next tick ends line l's pulse. -/
def Device.pulseDue (d : Device) (l : Fin 8) : Bool := d.runsNext && decide ((d.line l).pulse = 1)

/-- R83: whether the next tick steps voice v's ramp. -/
def Device.stepDue (d : Device) (v : Fin 32) : Bool :=
  d.runsNext && (d.voice v).rampDue (d.ctx v) (d.firedLines d.pendingEdges)

/-- R181: whether a report falls due at the next tick. -/
def Device.reportNext (d : Device) : Bool := d.runsNext && d.ntu.reportDue d.stu.time

/-- The tick, provided that something is due at it (assumption logs 3 and 4). -/
def Device.tickIf (due : Bool) (d : Device) : Device := if due then d.sceneTick else d

end Sys2Proof.Machine
end

