-- ==== Sys2Proof/Machine/Bursts.lean ====
section
/-! DEFINITION. The completions of the bursts of the store port (R60, R126, R128, R138, R141, R147, R149, R154, R158), with what they do
to the store, and the other events of the store: judgements, intervals. -/

namespace Sys2Proof.Machine

/-- The next state of a command that acts on the device alone. -/
def onDevice (f : Device → Device) (s : State) : Host.Outcome State Fault Refusal := .next (s.setDev (f s.dev))

/-- The next state of a command that acts on the device and the store. -/
def onStore (f : Testing → Testing) (s : State) : Host.Outcome State Fault Refusal :=
  let x := f ⟨s.dev, s.mem⟩
  .next ((s.setDev x.dev).setMem x.mem)

/-- R176: the kind number of CONCEAL. -/
def kindConceal : Nat := 5

/-- R58, R60: the requester of a voice's block read takes its completion, unless the request was released. -/
def Device.takeFetch (v : Fin 32) (r : FetchReq) (b : Block) (d : Device) : Device :=
  if (d.voice v).req = .granted r then d.onVoice v (fun x y => y.completed x (d.ntu.enabled (srcVoice v) kindConceal) r b) else d

/-- R138, R141: the intake takes the completion of its write, unless a reset has come between. -/
def Device.takeIntake (d : Device) : Device :=
  match d.siu.stage with
  | .writing j => d.intakeWritten j
  | _ => d

/-- R126: the verify takes the completion of its read, unless it was abandoned. -/
def Device.takeVerify (b : Block) (d : Device) : Device := if d.tks.verifyStage = .granted then d.verifyRead b else d

/-- R128: the REPLY of a peek. -/
def peekReply (p : PeekReq) (b : Block) : Reply :=
  { tag := p.tag, code := 0x14#8, status := .ok, body := resultChain (peekFields b p.opening p.block) }

/-- R128: the HOLDING Control Unit takes the completion of its read, unless a reset has come between. -/
def Device.takePeek (b : Block) (d : Device) : Device :=
  match d.ctu with
  | .holding p .granted => (d.pushReply (peekReply p b)).setCtu .free
  | _ => d

/-- R147: the port is released, and the arbiter decides. -/
def Device.freePort (d : Device) : Device := d.release.grant

/-- R60, R147: the voice block read in flight completes. -/
def fetchCompletes (m : List Host.Cell) (d : Device) : Device :=
  match d.smc.port with
  | some (.fetch v r) => (d.takeFetch v r (readBlock m r.addr)).freePort
  | _ => d

/-- R126, R147: the verify read in flight completes. -/
def verifyCompletes (m : List Host.Cell) (d : Device) : Device :=
  match d.smc.port with
  | some (.verify _ a) => (d.takeVerify (readBlock m a)).freePort
  | _ => d

/-- R128, R147, R165: the peek read in flight completes, and the Control Unit takes what it then may. -/
def peekCompletes (m : List Host.Cell) (d : Device) : Device :=
  match d.smc.port with
  | some (.peek a) => ((d.takePeek (readBlock m a)).freePort).runCtu
  | _ => d

/-- R149: the refresh in flight completes. -/
def refreshCompletes (d : Device) : Device :=
  match d.smc.port with
  | some .refresh => d.freePort
  | _ => d

/-- R138, R141, R147: the intake write in flight completes in the store. -/
def intakeCompletes (x : Testing) : Testing :=
  match x.dev.smc.port with
  | some (.intake a image) => { dev := x.dev.takeIntake.freePort, mem := memStore x.mem a (imageBytes image) }
  | _ => x

/-- R154: the self-test step in flight completes; `upsets` are the words the DRAM misreads. -/
def selftestCompletes (upsets : List (Nat × BitVec 64)) (x : Testing) : Testing :=
  match x.dev.smc.port with
  | some (.selftest pt pass pos) =>
    let y := x.complete pt pass pos upsets
    { y with dev := y.dev.freePort }
  | _ => x

/-- R158: the clearing write in flight completes in the store. -/
def clearingCompletes (x : Testing) : Testing :=
  match x.dev.smc.port with
  | some (.clearing a) =>
    { dev := x.dev.cleared.freePort, mem := memStore x.mem a (List.replicate Config.blockBytes 0) }
  | _ => x

/-- R135, R147: the free intake judges the packet at the head of the sample queue. -/
def Device.intakeJudges (d : Device) : Device := d.judgeHead.grant

/-- R149: a refresh interval elapses while the interval timer runs. -/
def Device.intervalElapses (d : Device) : Device := if d.smc.timerOn then d.refreshElapses.grant else d

/-- R150, R190: the self-refresh exit of a WAKING part ends. -/
def Device.exitCompletes (d : Device) : Device := if d.pwc.power = .waking ∧ d.pwc.rstn = false then d.exitEnds else d

/-- R189: the quiet timer expires. -/
def Device.quietExpires (d : Device) : Device := if d.quietRuns && !d.pwc.rstn then d.enterStandby else d

/-- R149, R191: the DRAM's re-initialisation ends, once RSTN is released. -/
def Device.reinitCompletes (d : Device) : Device := if d.smc.reinit && !d.pwc.rstn then d.reinitEnds else d

/-- R191: power-on; the store is re-initialised (assumption log 9). -/
def powersOn (x : Testing) : Testing := { dev := x.dev.powerOn, mem := [] }

/-- R191: RSTN is released with FULLN low, or after a power-on: a cold reset, with the store re-initialised (assumption log 9). -/
def releasesCold (x : Testing) : Testing := { dev := x.dev.coldReset x.dev.coldCause, mem := [] }

/-- R191: RSTN is released with FULLN high: a warm reset, but for a power-on that waited for the release, which does not read FULLN. -/
def releasesWarm (x : Testing) : Testing :=
  if x.dev.pwc.powerHeld then releasesCold x else { x with dev := x.dev.warmReset .resetLineWarm }

end Sys2Proof.Machine
end

