-- ==== Sys2Proof/Machine/ControlCommands.lean ====
section
/-! DEFINITION. The meanings of the forty controls: each is the arrival of one CONTROL packet of its code (R165, R185; assumption log
1). Where a row is one mode of a control, the mode's tuple stands first in the body. -/

namespace Sys2Proof.Machine

/-- The arrival of a CONTROL packet of a code. -/
def arriveControl (tag : BitVec 16) (code : Byte) (body : List Byte) (s : State) : Host.Outcome State Fault Refusal :=
  onDevice (Device.receive (controlPacketOf tag (code.setWidth 32) body)) s

/-- R174: a QUERY body with a target and an index, and the rest of its chain. -/
def queryBody (target : Nat) (index : Byte) (rest : List Byte) : List Byte := tupleBytes 0x07 [BitVec.ofNat 8 target, index] ++ rest

/-- R36: a CUE_FLUSH body with a mode, and the rest of its chain. -/
def flushBody (mode : Nat) (rest : List Byte) : List Byte := tupleBytes 0x06 [BitVec.ofNat 8 mode] ++ rest

/-- R153: a SELFTEST body with an action, a mode and a pattern, and the rest of its chain. -/
def testBody (action : Nat) (mode pattern : Byte) (rest : List Byte) : List Byte :=
  tupleBytes 0x50 [BitVec.ofNat 8 action, mode, pattern] ++ rest

/-- R188: a POWER body with an action and a quiet time, and the rest of its chain. -/
def powerBody (action : Nat) (quiet : BitVec 16) (rest : List Byte) : List Byte :=
  tupleBytes 0x58 (BitVec.ofNat 8 action :: leBytes 2 quiet.toNat) ++ rest

/-- IDENT (R173). -/
def execIdent (tag : BitVec 16) (body : List Byte) (s : State) : Host.Outcome State Fault Refusal :=
  arriveControl tag 0x01#8 body s

/-- CAPTURE_READ (R104). -/
def execCaptureRead (tag : BitVec 16) (body : List Byte) (s : State) : Host.Outcome State Fault Refusal :=
  arriveControl tag 0x03#8 body s

/-- TAKE_OPEN (R118, R119). -/
def execTakeOpen (tag : BitVec 16) (body : List Byte) (s : State) : Host.Outcome State Fault Refusal :=
  arriveControl tag 0x10#8 body s

/-- TAKE_CLOSE (R121, R122). -/
def execTakeClose (tag : BitVec 16) (body : List Byte) (s : State) : Host.Outcome State Fault Refusal :=
  arriveControl tag 0x11#8 body s

/-- TAKE_DROP (R123, R124). -/
def execTakeDrop (tag : BitVec 16) (body : List Byte) (s : State) : Host.Outcome State Fault Refusal :=
  arriveControl tag 0x12#8 body s

/-- TAKE_VERIFY (R125). -/
def execTakeVerify (tag : BitVec 16) (body : List Byte) (s : State) : Host.Outcome State Fault Refusal :=
  arriveControl tag 0x13#8 body s

/-- TAKE_PEEK (R128). -/
def execTakePeek (tag : BitVec 16) (body : List Byte) (s : State) : Host.Outcome State Fault Refusal :=
  arriveControl tag 0x14#8 body s

/-- STREAM_BIND (R133). -/
def execStreamBind (tag : BitVec 16) (body : List Byte) (s : State) : Host.Outcome State Fault Refusal :=
  arriveControl tag 0x18#8 body s

/-- STREAM_UNBIND (R134). -/
def execStreamUnbind (tag : BitVec 16) (body : List Byte) (s : State) : Host.Outcome State Fault Refusal :=
  arriveControl tag 0x19#8 body s

/-- CUE_LOAD (R32). -/
def execCueLoad (tag : BitVec 16) (body : List Byte) (s : State) : Host.Outcome State Fault Refusal :=
  arriveControl tag 0x20#8 body s

/-- VOICE_SET (R21). -/
def execVoiceSet (tag : BitVec 16) (body : List Byte) (s : State) : Host.Outcome State Fault Refusal :=
  arriveControl tag 0x22#8 body s

/-- PORT_SET (R92). -/
def execPortSet (tag : BitVec 16) (body : List Byte) (s : State) : Host.Outcome State Fault Refusal :=
  arriveControl tag 0x28#8 body s

/-- LINE_SET (R98). -/
def execLineSet (tag : BitVec 16) (body : List Byte) (s : State) : Host.Outcome State Fault Refusal :=
  arriveControl tag 0x29#8 body s

/-- MARK_LOAD (R105). -/
def execMarkLoad (tag : BitVec 16) (body : List Byte) (s : State) : Host.Outcome State Fault Refusal :=
  arriveControl tag 0x2A#8 body s

/-- MARK_CLEAR (R108). -/
def execMarkClear (tag : BitVec 16) (body : List Byte) (s : State) : Host.Outcome State Fault Refusal :=
  arriveControl tag 0x2B#8 body s

/-- SCENE_GO (R5, R6). -/
def execSceneGo (tag : BitVec 16) (body : List Byte) (s : State) : Host.Outcome State Fault Refusal :=
  arriveControl tag 0x30#8 body s

/-- SCENE_PAUSE (R10). -/
def execScenePause (tag : BitVec 16) (body : List Byte) (s : State) : Host.Outcome State Fault Refusal :=
  arriveControl tag 0x31#8 body s

/-- SCENE_RESUME (R11). -/
def execSceneResume (tag : BitVec 16) (body : List Byte) (s : State) : Host.Outcome State Fault Refusal :=
  arriveControl tag 0x32#8 body s

/-- SCENE_STOP (R12, R13). -/
def execSceneStop (tag : BitVec 16) (body : List Byte) (s : State) : Host.Outcome State Fault Refusal :=
  arriveControl tag 0x33#8 body s

/-- SCENE_FREEZE (R14). -/
def execSceneFreeze (tag : BitVec 16) (body : List Byte) (s : State) : Host.Outcome State Fault Refusal :=
  arriveControl tag 0x34#8 body s

/-- NOTICE_SET (R177). -/
def execNoticeSet (tag : BitVec 16) (body : List Byte) (s : State) : Host.Outcome State Fault Refusal :=
  arriveControl tag 0x38#8 body s

/-- REPORT_SET (R181). -/
def execReportSet (tag : BitVec 16) (body : List Byte) (s : State) : Host.Outcome State Fault Refusal :=
  arriveControl tag 0x39#8 body s

/-- MEM_SET (R162). -/
def execMemSet (tag : BitVec 16) (body : List Byte) (s : State) : Host.Outcome State Fault Refusal :=
  arriveControl tag 0x41#8 body s

/-- RESET (R175). -/
def execReset (tag : BitVec 16) (body : List Byte) (s : State) : Host.Outcome State Fault Refusal :=
  arriveControl tag 0x4F#8 body s

/-- QUERY with target SCENE (R18). -/
def execQueryScene (tag : BitVec 16) (index : Byte) (rest : List Byte) (s : State) : Host.Outcome State Fault Refusal :=
  arriveControl tag 0x02#8 (queryBody 0 index rest) s

/-- QUERY with target VOICE (R48). -/
def execQueryVoice (tag : BitVec 16) (index : Byte) (rest : List Byte) (s : State) : Host.Outcome State Fault Refusal :=
  arriveControl tag 0x02#8 (queryBody 1 index rest) s

/-- QUERY with target TAKE (R130). -/
def execQueryTake (tag : BitVec 16) (index : Byte) (rest : List Byte) (s : State) : Host.Outcome State Fault Refusal :=
  arriveControl tag 0x02#8 (queryBody 2 index rest) s

/-- QUERY with target PORT (R95). -/
def execQueryPort (tag : BitVec 16) (index : Byte) (rest : List Byte) (s : State) : Host.Outcome State Fault Refusal :=
  arriveControl tag 0x02#8 (queryBody 3 index rest) s

/-- QUERY with target LINES (R101). -/
def execQueryLines (tag : BitVec 16) (index : Byte) (rest : List Byte) (s : State) : Host.Outcome State Fault Refusal :=
  arriveControl tag 0x02#8 (queryBody 4 index rest) s

/-- QUERY with target SEGMENTS (R164). -/
def execQuerySegments (tag : BitVec 16) (index : Byte) (rest : List Byte) (s : State) : Host.Outcome State Fault Refusal :=
  arriveControl tag 0x02#8 (queryBody 5 index rest) s

/-- QUERY with target STREAMS (R146). -/
def execQueryStreams (tag : BitVec 16) (index : Byte) (rest : List Byte) (s : State) : Host.Outcome State Fault Refusal :=
  arriveControl tag 0x02#8 (queryBody 6 index rest) s

/-- A control of a code outside the table of 09 section 9.5 (R168). -/
def execUnknownControl (tag : BitVec 16) (code : Byte) (body : List Byte) (s : State) : Host.Outcome State Fault Refusal :=
  arriveControl tag code body s

/-- CUE_FLUSH PENDING (R34). -/
def execCueFlushPending (tag : BitVec 16) (rest : List Byte) (s : State) : Host.Outcome State Fault Refusal :=
  arriveControl tag 0x21#8 (flushBody 0 rest) s

/-- CUE_FLUSH ALL (R35). -/
def execCueFlushAll (tag : BitVec 16) (rest : List Byte) (s : State) : Host.Outcome State Fault Refusal :=
  arriveControl tag 0x21#8 (flushBody 1 rest) s

/-- SELFTEST START (R153). -/
def execSelftestStart (tag : BitVec 16) (mode pattern : Byte) (rest : List Byte) (s : State) : Host.Outcome State Fault Refusal :=
  arriveControl tag 0x40#8 (testBody 0 mode pattern rest) s

/-- SELFTEST CONTINUE (R157). -/
def execSelftestContinue (tag : BitVec 16) (mode pattern : Byte) (rest : List Byte) (s : State) : Host.Outcome State Fault Refusal :=
  arriveControl tag 0x40#8 (testBody 1 mode pattern rest) s

/-- SELFTEST STOP (R158). -/
def execSelftestStop (tag : BitVec 16) (mode pattern : Byte) (rest : List Byte) (s : State) : Host.Outcome State Fault Refusal :=
  arriveControl tag 0x40#8 (testBody 2 mode pattern rest) s

/-- POWER STANDBY (R188). -/
def execPowerStandby (tag : BitVec 16) (quiet : BitVec 16) (rest : List Byte) (s : State) : Host.Outcome State Fault Refusal :=
  arriveControl tag 0x48#8 (powerBody 0 quiet rest) s

/-- POWER SLEEP (R188). -/
def execPowerSleep (tag : BitVec 16) (quiet : BitVec 16) (rest : List Byte) (s : State) : Host.Outcome State Fault Refusal :=
  arriveControl tag 0x48#8 (powerBody 1 quiet rest) s

/-- POWER QUIET (R188). -/
def execPowerQuiet (tag : BitVec 16) (quiet : BitVec 16) (rest : List Byte) (s : State) : Host.Outcome State Fault Refusal :=
  arriveControl tag 0x48#8 (powerBody 2 quiet rest) s

end Sys2Proof.Machine
end

