-- ==== Sys2Proof/Machine/EventCommands.lean ====
section
/-! DEFINITION. The meanings of the packets, of the transmitter's steps, of the ticks and edges, of the store's events and of the power
events. A command whose event cannot take place leaves the state as it is (assumption log 3). -/

namespace Sys2Proof.Machine

/-! ### The Bench Link -/

/-- A SAMPLE packet with a right CRC arrives (R185). -/
def execSamplePacket (tag : BitVec 16) (flags : Byte) (seq : BitVec 32) (count : BitVec 16) (body : List Byte) (s : State) :
    Host.Outcome State Fault Refusal :=
  onDevice (Device.receive (samplePacketOf tag flags seq count body)) s

/-- A CONTROL packet with a right CRC arrives (R185). -/
def execControlPacket (tag : BitVec 16) (word : BitVec 32) (body : List Byte) (s : State) : Host.Outcome State Fault Refusal :=
  onDevice (Device.receive (controlPacketOf tag word body)) s

/-- A WAKE packet arrives (R190). -/
def execWakePacket (s : State) : Host.Outcome State Fault Refusal := onDevice (Device.receive wakePacketOf) s

/-- A packet arrives as raw bytes (R185). -/
def execBadPacket (kind : Byte) (rest : List Byte) (s : State) : Host.Outcome State Fault Refusal :=
  onDevice (Device.receive (packetOf kind rest)) s

/-- The transmitter sends the current flow symbol (R186). -/
def execFlowSymbolSend (s : State) : Host.Outcome State Fault Refusal := onDevice Device.sendSymbol s

/-- The transmitter sends the oldest REPLY (R179). -/
def execReplySend (s : State) : Host.Outcome State Fault Refusal := onDevice Device.sendReply s

/-- The transmitter sends a NOTICE (R180). -/
def execNoticeSend (s : State) : Host.Outcome State Fault Refusal := onDevice Device.sendNotice s

/-- The transmitter sends the pending REPORT (R182). -/
def execReportSend (s : State) : Host.Outcome State Fault Refusal := onDevice Device.sendReport s

/-- The part enters SLEEP after the reply of POWER SLEEP (R175). -/
def execSleepEntry (s : State) : Host.Outcome State Fault Refusal := onDevice Device.sleepNow s

/-- The warm reset after the reply of RESET (R175). -/
def execResetReplySent (s : State) : Host.Outcome State Fault Refusal := onDevice Device.resetNow s

/-! ### Ticks and bench lines -/

/-- A period of SCLK (R3). -/
def execSceneTick (s : State) : Host.Outcome State Fault Refusal := onDevice Device.sclkPeriod s

/-- The tick at which line l's pulse ends (R107). -/
def execPulseEnd (l : Fin 8) (s : State) : Host.Outcome State Fault Refusal := onDevice (fun d => d.tickIf (d.pulseDue l)) s

/-- The tick at which voice v's ramp steps (R83). -/
def execRampStep (v : Fin 32) (s : State) : Host.Outcome State Fault Refusal := onDevice (fun d => d.tickIf (d.stepDue v)) s

/-- The tick at which a report falls due (R181). -/
def execReportDue (s : State) : Host.Outcome State Fault Refusal := onDevice (fun d => d.tickIf d.reportNext) s

/-- The bench drives a level on line l (R4, R97, R100). -/
def execBenchLineEdge (l : Fin 8) (level : Bool) (s : State) : Host.Outcome State Fault Refusal :=
  onDevice (Device.benchDrives l level) s

/-- A period of SCLK in which the STU takes no tick (R93). -/
def execSclkPeriodNoTick (s : State) : Host.Outcome State Fault Refusal := onDevice Device.deliverZero s

/-! ### The store -/

/-- The voice block read in flight completes (R60). -/
def execFetchComplete (s : State) : Host.Outcome State Fault Refusal := onDevice (fetchCompletes s.mem) s

/-- The free SIU judges a packet (R135, R136). -/
def execIntakeJudgement (s : State) : Host.Outcome State Fault Refusal := onDevice Device.intakeJudges s

/-- The intake write in flight completes (R138, R141). -/
def execIntakeWriteComplete (s : State) : Host.Outcome State Fault Refusal := onStore intakeCompletes s

/-- The verify read in flight completes (R126). -/
def execVerifyReadComplete (s : State) : Host.Outcome State Fault Refusal := onDevice (verifyCompletes s.mem) s

/-- The peek read in flight completes (R128). -/
def execPeekReadComplete (s : State) : Host.Outcome State Fault Refusal := onDevice (peekCompletes s.mem) s

/-- A refresh interval elapses (R149). -/
def execRefreshInterval (s : State) : Host.Outcome State Fault Refusal := onDevice Device.intervalElapses s

/-- The refresh in flight completes (R149). -/
def execRefreshComplete (s : State) : Host.Outcome State Fault Refusal := onDevice refreshCompletes s

/-- The self-test step in flight completes (R154). -/
def execSelftestStepComplete (upsets : List (Nat × BitVec 64)) (s : State) : Host.Outcome State Fault Refusal :=
  onStore (selftestCompletes upsets) s

/-- The clearing write in flight completes (R158). -/
def execClearingWriteComplete (s : State) : Host.Outcome State Fault Refusal := onStore clearingCompletes s

/-! ### Power and resets -/

/-- The self-refresh exit ends (R150, R190). -/
def execSelfRefreshExitEnd (s : State) : Host.Outcome State Fault Refusal := onDevice Device.exitCompletes s

/-- The quiet timer expires (R189). -/
def execQuietTimerExpiry (s : State) : Host.Outcome State Fault Refusal := onDevice Device.quietExpires s

/-- The DRAM's re-initialisation ends (R149, R159). -/
def execDramReinitEnd (s : State) : Host.Outcome State Fault Refusal := onDevice Device.reinitCompletes s

/-- Power-on (R191). -/
def execPowerOn (s : State) : Host.Outcome State Fault Refusal := onStore powersOn s

/-- RSTN is asserted (R191). -/
def execRstnAssert (s : State) : Host.Outcome State Fault Refusal := onDevice Device.assertRstn s

/-- RSTN is released with FULLN low (R191). -/
def execColdReset (s : State) : Host.Outcome State Fault Refusal := onStore releasesCold s

/-- RSTN is released with FULLN high (R191). -/
def execWarmReset (s : State) : Host.Outcome State Fault Refusal := onStore releasesWarm s

end Sys2Proof.Machine
end

