-- ==== Sys2Proof/Machine/Dispatch.lean ====
section
/-! DEFINITION. Dispatch: one arm per command, one direct call of its meaning. -/

namespace Sys2Proof.Machine

/-- The effect of a command on everything but the queue of waiting commands. -/
def exec (i : Instr) (s : State) : Host.Outcome State Fault Refusal :=
  match i with
  | .ident tag body => Sys2Proof.Machine.execIdent tag body s
  | .queryScene tag index rest => Sys2Proof.Machine.execQueryScene tag index rest s
  | .queryVoice tag index rest => Sys2Proof.Machine.execQueryVoice tag index rest s
  | .queryPort tag index rest => Sys2Proof.Machine.execQueryPort tag index rest s
  | .queryLines tag index rest => Sys2Proof.Machine.execQueryLines tag index rest s
  | .queryTake tag index rest => Sys2Proof.Machine.execQueryTake tag index rest s
  | .queryStreams tag index rest => Sys2Proof.Machine.execQueryStreams tag index rest s
  | .querySegments tag index rest => Sys2Proof.Machine.execQuerySegments tag index rest s
  | .unknownControl tag code body => Sys2Proof.Machine.execUnknownControl tag code body s
  | .captureRead tag body => Sys2Proof.Machine.execCaptureRead tag body s
  | .takeOpen tag body => Sys2Proof.Machine.execTakeOpen tag body s
  | .takeClose tag body => Sys2Proof.Machine.execTakeClose tag body s
  | .takeDrop tag body => Sys2Proof.Machine.execTakeDrop tag body s
  | .takeVerify tag body => Sys2Proof.Machine.execTakeVerify tag body s
  | .takePeek tag body => Sys2Proof.Machine.execTakePeek tag body s
  | .streamBind tag body => Sys2Proof.Machine.execStreamBind tag body s
  | .streamUnbind tag body => Sys2Proof.Machine.execStreamUnbind tag body s
  | .cueLoad tag body => Sys2Proof.Machine.execCueLoad tag body s
  | .cueFlushPending tag rest => Sys2Proof.Machine.execCueFlushPending tag rest s
  | .cueFlushAll tag rest => Sys2Proof.Machine.execCueFlushAll tag rest s
  | .voiceSet tag body => Sys2Proof.Machine.execVoiceSet tag body s
  | .portSet tag body => Sys2Proof.Machine.execPortSet tag body s
  | .lineSet tag body => Sys2Proof.Machine.execLineSet tag body s
  | .markLoad tag body => Sys2Proof.Machine.execMarkLoad tag body s
  | .markClear tag body => Sys2Proof.Machine.execMarkClear tag body s
  | .sceneGo tag body => Sys2Proof.Machine.execSceneGo tag body s
  | .scenePause tag body => Sys2Proof.Machine.execScenePause tag body s
  | .sceneResume tag body => Sys2Proof.Machine.execSceneResume tag body s
  | .sceneStop tag body => Sys2Proof.Machine.execSceneStop tag body s
  | .sceneFreeze tag body => Sys2Proof.Machine.execSceneFreeze tag body s
  | .noticeSet tag body => Sys2Proof.Machine.execNoticeSet tag body s
  | .reportSet tag body => Sys2Proof.Machine.execReportSet tag body s
  | .selftestStart tag mode pattern rest => Sys2Proof.Machine.execSelftestStart tag mode pattern rest s
  | .selftestContinue tag mode pattern rest => Sys2Proof.Machine.execSelftestContinue tag mode pattern rest s
  | .selftestStop tag mode pattern rest => Sys2Proof.Machine.execSelftestStop tag mode pattern rest s
  | .memSet tag body => Sys2Proof.Machine.execMemSet tag body s
  | .powerStandby tag quiet rest => Sys2Proof.Machine.execPowerStandby tag quiet rest s
  | .powerSleep tag quiet rest => Sys2Proof.Machine.execPowerSleep tag quiet rest s
  | .powerQuiet tag quiet rest => Sys2Proof.Machine.execPowerQuiet tag quiet rest s
  | .reset tag body => Sys2Proof.Machine.execReset tag body s
  | .samplePacket tag flags seq count body => Sys2Proof.Machine.execSamplePacket tag flags seq count body s
  | .controlPacket tag word body => Sys2Proof.Machine.execControlPacket tag word body s
  | .wakePacket => Sys2Proof.Machine.execWakePacket s
  | .badPacket kind rest => Sys2Proof.Machine.execBadPacket kind rest s
  | .flowSymbolSend => Sys2Proof.Machine.execFlowSymbolSend s
  | .replySend => Sys2Proof.Machine.execReplySend s
  | .noticeSend => Sys2Proof.Machine.execNoticeSend s
  | .reportSend => Sys2Proof.Machine.execReportSend s
  | .sleepEntry => Sys2Proof.Machine.execSleepEntry s
  | .resetReplySent => Sys2Proof.Machine.execResetReplySent s
  | .sceneTick => Sys2Proof.Machine.execSceneTick s
  | .pulseEnd l => Sys2Proof.Machine.execPulseEnd l s
  | .rampStep v => Sys2Proof.Machine.execRampStep v s
  | .reportDue => Sys2Proof.Machine.execReportDue s
  | .benchLineEdge l level => Sys2Proof.Machine.execBenchLineEdge l level s
  | .fetchComplete => Sys2Proof.Machine.execFetchComplete s
  | .intakeJudgement => Sys2Proof.Machine.execIntakeJudgement s
  | .intakeWriteComplete => Sys2Proof.Machine.execIntakeWriteComplete s
  | .verifyReadComplete => Sys2Proof.Machine.execVerifyReadComplete s
  | .peekReadComplete => Sys2Proof.Machine.execPeekReadComplete s
  | .refreshInterval => Sys2Proof.Machine.execRefreshInterval s
  | .refreshComplete => Sys2Proof.Machine.execRefreshComplete s
  | .selftestStepComplete upsets => Sys2Proof.Machine.execSelftestStepComplete upsets s
  | .clearingWriteComplete => Sys2Proof.Machine.execClearingWriteComplete s
  | .selfRefreshExitEnd => Sys2Proof.Machine.execSelfRefreshExitEnd s
  | .quietTimerExpiry => Sys2Proof.Machine.execQuietTimerExpiry s
  | .dramReinitEnd => Sys2Proof.Machine.execDramReinitEnd s
  | .powerOn => Sys2Proof.Machine.execPowerOn s
  | .rstnAssert => Sys2Proof.Machine.execRstnAssert s
  | .coldReset => Sys2Proof.Machine.execColdReset s
  | .warmReset => Sys2Proof.Machine.execWarmReset s
  | .sclkPeriodNoTick => Sys2Proof.Machine.execSclkPeriodNoTick s

end Sys2Proof.Machine
end

