-- ==== Sys2Proof/WellFormed.lean ====
section
/-! DEFINITION. Well-formed commands: what the operands of each row may be, so that the command is the event its row names. A control
row is a CONTROL packet that passes the checks of the link; whether its body is a well-formed chain is a matter for the Control Unit, which
answers MALFORMED where it is not (R168). -/

namespace Sys2Proof

open Machine

/-- The control a row is: the packet's tag, its control code (09 section 9.5) and its body; none for the other rows. -/
def Instr.control : Instr → Option (BitVec 16 × Byte × List Byte)
  | .ident tag body => some (tag, 0x01#8, body)
  | .queryScene tag index rest => some (tag, 0x02#8, queryBody 0 index rest)
  | .queryVoice tag index rest => some (tag, 0x02#8, queryBody 1 index rest)
  | .queryPort tag index rest => some (tag, 0x02#8, queryBody 3 index rest)
  | .queryLines tag index rest => some (tag, 0x02#8, queryBody 4 index rest)
  | .queryTake tag index rest => some (tag, 0x02#8, queryBody 2 index rest)
  | .queryStreams tag index rest => some (tag, 0x02#8, queryBody 6 index rest)
  | .querySegments tag index rest => some (tag, 0x02#8, queryBody 5 index rest)
  | .unknownControl tag code body => some (tag, code, body)
  | .captureRead tag body => some (tag, 0x03#8, body)
  | .takeOpen tag body => some (tag, 0x10#8, body)
  | .takeClose tag body => some (tag, 0x11#8, body)
  | .takeDrop tag body => some (tag, 0x12#8, body)
  | .takeVerify tag body => some (tag, 0x13#8, body)
  | .takePeek tag body => some (tag, 0x14#8, body)
  | .streamBind tag body => some (tag, 0x18#8, body)
  | .streamUnbind tag body => some (tag, 0x19#8, body)
  | .cueLoad tag body => some (tag, 0x20#8, body)
  | .cueFlushPending tag rest => some (tag, 0x21#8, flushBody 0 rest)
  | .cueFlushAll tag rest => some (tag, 0x21#8, flushBody 1 rest)
  | .voiceSet tag body => some (tag, 0x22#8, body)
  | .portSet tag body => some (tag, 0x28#8, body)
  | .lineSet tag body => some (tag, 0x29#8, body)
  | .markLoad tag body => some (tag, 0x2A#8, body)
  | .markClear tag body => some (tag, 0x2B#8, body)
  | .sceneGo tag body => some (tag, 0x30#8, body)
  | .scenePause tag body => some (tag, 0x31#8, body)
  | .sceneResume tag body => some (tag, 0x32#8, body)
  | .sceneStop tag body => some (tag, 0x33#8, body)
  | .sceneFreeze tag body => some (tag, 0x34#8, body)
  | .noticeSet tag body => some (tag, 0x38#8, body)
  | .reportSet tag body => some (tag, 0x39#8, body)
  | .selftestStart tag mode pattern rest => some (tag, 0x40#8, testBody 0 mode pattern rest)
  | .selftestContinue tag mode pattern rest => some (tag, 0x40#8, testBody 1 mode pattern rest)
  | .selftestStop tag mode pattern rest => some (tag, 0x40#8, testBody 2 mode pattern rest)
  | .memSet tag body => some (tag, 0x41#8, body)
  | .powerStandby tag quiet rest => some (tag, 0x48#8, powerBody 0 quiet rest)
  | .powerSleep tag quiet rest => some (tag, 0x48#8, powerBody 1 quiet rest)
  | .powerQuiet tag quiet rest => some (tag, 0x48#8, powerBody 2 quiet rest)
  | .reset tag body => some (tag, 0x4F#8, body)
  | .samplePacket _ _ _ _ _ => none
  | .controlPacket _ _ _ => none
  | .wakePacket => none
  | .badPacket _ _ => none
  | .flowSymbolSend => none
  | .replySend => none
  | .noticeSend => none
  | .reportSend => none
  | .sleepEntry => none
  | .resetReplySent => none
  | .sceneTick => none
  | .pulseEnd _ => none
  | .rampStep _ => none
  | .reportDue => none
  | .benchLineEdge _ _ => none
  | .fetchComplete => none
  | .intakeJudgement => none
  | .intakeWriteComplete => none
  | .verifyReadComplete => none
  | .peekReadComplete => none
  | .refreshInterval => none
  | .refreshComplete => none
  | .selftestStepComplete _ => none
  | .clearingWriteComplete => none
  | .selfRefreshExitEnd => none
  | .quietTimerExpiry => none
  | .dramReinitEnd => none
  | .powerOn => none
  | .rstnAssert => none
  | .coldReset => none
  | .warmReset => none
  | .sclkPeriodNoTick => none

/-- R184: the packet whose arrival a row is, if it is one. -/
def Instr.packet : Instr → Option Packet
  | .ident tag body => some (controlPacketOf tag ((0x01#8).setWidth 32) body)
  | .queryScene tag index rest => some (controlPacketOf tag ((0x02#8).setWidth 32) (queryBody 0 index rest))
  | .queryVoice tag index rest => some (controlPacketOf tag ((0x02#8).setWidth 32) (queryBody 1 index rest))
  | .queryPort tag index rest => some (controlPacketOf tag ((0x02#8).setWidth 32) (queryBody 3 index rest))
  | .queryLines tag index rest => some (controlPacketOf tag ((0x02#8).setWidth 32) (queryBody 4 index rest))
  | .queryTake tag index rest => some (controlPacketOf tag ((0x02#8).setWidth 32) (queryBody 2 index rest))
  | .queryStreams tag index rest => some (controlPacketOf tag ((0x02#8).setWidth 32) (queryBody 6 index rest))
  | .querySegments tag index rest => some (controlPacketOf tag ((0x02#8).setWidth 32) (queryBody 5 index rest))
  | .unknownControl tag code body => some (controlPacketOf tag (code.setWidth 32) body)
  | .captureRead tag body => some (controlPacketOf tag ((0x03#8).setWidth 32) body)
  | .takeOpen tag body => some (controlPacketOf tag ((0x10#8).setWidth 32) body)
  | .takeClose tag body => some (controlPacketOf tag ((0x11#8).setWidth 32) body)
  | .takeDrop tag body => some (controlPacketOf tag ((0x12#8).setWidth 32) body)
  | .takeVerify tag body => some (controlPacketOf tag ((0x13#8).setWidth 32) body)
  | .takePeek tag body => some (controlPacketOf tag ((0x14#8).setWidth 32) body)
  | .streamBind tag body => some (controlPacketOf tag ((0x18#8).setWidth 32) body)
  | .streamUnbind tag body => some (controlPacketOf tag ((0x19#8).setWidth 32) body)
  | .cueLoad tag body => some (controlPacketOf tag ((0x20#8).setWidth 32) body)
  | .cueFlushPending tag rest => some (controlPacketOf tag ((0x21#8).setWidth 32) (flushBody 0 rest))
  | .cueFlushAll tag rest => some (controlPacketOf tag ((0x21#8).setWidth 32) (flushBody 1 rest))
  | .voiceSet tag body => some (controlPacketOf tag ((0x22#8).setWidth 32) body)
  | .portSet tag body => some (controlPacketOf tag ((0x28#8).setWidth 32) body)
  | .lineSet tag body => some (controlPacketOf tag ((0x29#8).setWidth 32) body)
  | .markLoad tag body => some (controlPacketOf tag ((0x2A#8).setWidth 32) body)
  | .markClear tag body => some (controlPacketOf tag ((0x2B#8).setWidth 32) body)
  | .sceneGo tag body => some (controlPacketOf tag ((0x30#8).setWidth 32) body)
  | .scenePause tag body => some (controlPacketOf tag ((0x31#8).setWidth 32) body)
  | .sceneResume tag body => some (controlPacketOf tag ((0x32#8).setWidth 32) body)
  | .sceneStop tag body => some (controlPacketOf tag ((0x33#8).setWidth 32) body)
  | .sceneFreeze tag body => some (controlPacketOf tag ((0x34#8).setWidth 32) body)
  | .noticeSet tag body => some (controlPacketOf tag ((0x38#8).setWidth 32) body)
  | .reportSet tag body => some (controlPacketOf tag ((0x39#8).setWidth 32) body)
  | .selftestStart tag mode pattern rest => some (controlPacketOf tag ((0x40#8).setWidth 32) (testBody 0 mode pattern rest))
  | .selftestContinue tag mode pattern rest => some (controlPacketOf tag ((0x40#8).setWidth 32) (testBody 1 mode pattern rest))
  | .selftestStop tag mode pattern rest => some (controlPacketOf tag ((0x40#8).setWidth 32) (testBody 2 mode pattern rest))
  | .memSet tag body => some (controlPacketOf tag ((0x41#8).setWidth 32) body)
  | .powerStandby tag quiet rest => some (controlPacketOf tag ((0x48#8).setWidth 32) (powerBody 0 quiet rest))
  | .powerSleep tag quiet rest => some (controlPacketOf tag ((0x48#8).setWidth 32) (powerBody 1 quiet rest))
  | .powerQuiet tag quiet rest => some (controlPacketOf tag ((0x48#8).setWidth 32) (powerBody 2 quiet rest))
  | .reset tag body => some (controlPacketOf tag ((0x4F#8).setWidth 32) body)
  | .samplePacket tag flags seq count body => some (samplePacketOf tag flags seq count body)
  | .controlPacket tag word body => some (controlPacketOf tag word body)
  | .wakePacket => some wakePacketOf
  | .badPacket kind rest => some (packetOf kind rest)
  | .flowSymbolSend => none
  | .replySend => none
  | .noticeSend => none
  | .reportSend => none
  | .sleepEntry => none
  | .resetReplySent => none
  | .sceneTick => none
  | .pulseEnd _ => none
  | .rampStep _ => none
  | .reportDue => none
  | .benchLineEdge _ _ => none
  | .fetchComplete => none
  | .intakeJudgement => none
  | .intakeWriteComplete => none
  | .verifyReadComplete => none
  | .peekReadComplete => none
  | .refreshInterval => none
  | .refreshComplete => none
  | .selftestStepComplete _ => none
  | .clearingWriteComplete => none
  | .selfRefreshExitEnd => none
  | .quietTimerExpiry => none
  | .dramReinitEnd => none
  | .powerOn => none
  | .rstnAssert => none
  | .coldReset => none
  | .warmReset => none
  | .sclkPeriodNoTick => none

/-- Whether a row is the arrival of a packet that fails a check of the link (R185). -/
def Instr.isBadPacket (i : Instr) : Bool :=
  match i.packet with
  | some p => p.fault.isSome
  | none => false

/-- R185: whether a control's body is within the maximum. -/
def fits (body : List Byte) : Bool := decide (body.length ≤ 1024)

/-- R154: misreads name different words of one step of at most 128 words, each with a bit that differs. -/
def upsetsFit (upsets : List (Nat × BitVec 64)) : Bool :=
  upsets.all (fun u => decide (u.1 < Config.wordsPerBlock) && decide (u.2 ≠ 0)) && decide ((upsets.map (·.1)).Nodup)

/-- Whether a command's operands make it the event its row names. -/
def wellFormed : Instr → Bool
  | .ident _ body => fits body
  | .queryScene _ index rest => fits (queryBody 0 index rest)
  | .queryVoice _ index rest => fits (queryBody 1 index rest)
  | .queryPort _ index rest => fits (queryBody 3 index rest)
  | .queryLines _ index rest => fits (queryBody 4 index rest)
  | .queryTake _ index rest => fits (queryBody 2 index rest)
  | .queryStreams _ index rest => fits (queryBody 6 index rest)
  | .querySegments _ index rest => fits (queryBody 5 index rest)
  | .unknownControl _ code body => fits body && (controlOf 0#16 code.toNat).isNone
  | .captureRead _ body => fits body
  | .takeOpen _ body => fits body
  | .takeClose _ body => fits body
  | .takeDrop _ body => fits body
  | .takeVerify _ body => fits body
  | .takePeek _ body => fits body
  | .streamBind _ body => fits body
  | .streamUnbind _ body => fits body
  | .cueLoad _ body => fits body
  | .cueFlushPending _ rest => fits (flushBody 0 rest)
  | .cueFlushAll _ rest => fits (flushBody 1 rest)
  | .voiceSet _ body => fits body
  | .portSet _ body => fits body
  | .lineSet _ body => fits body
  | .markLoad _ body => fits body
  | .markClear _ body => fits body
  | .sceneGo _ body => fits body
  | .scenePause _ body => fits body
  | .sceneResume _ body => fits body
  | .sceneStop _ body => fits body
  | .sceneFreeze _ body => fits body
  | .noticeSet _ body => fits body
  | .reportSet _ body => fits body
  | .selftestStart _ mode pattern rest => fits (testBody 0 mode pattern rest)
  | .selftestContinue _ mode pattern rest => fits (testBody 1 mode pattern rest)
  | .selftestStop _ mode pattern rest => fits (testBody 2 mode pattern rest)
  | .memSet _ body => fits body
  | .powerStandby _ quiet rest => fits (powerBody 0 quiet rest)
  | .powerSleep _ quiet rest => fits (powerBody 1 quiet rest)
  | .powerQuiet _ quiet rest => fits (powerBody 2 quiet rest)
  | .reset _ body => fits body
  | .samplePacket tag flags seq count body => (samplePacketOf tag flags seq count body).fault.isNone
  | .controlPacket _ _ body => fits body
  | .wakePacket => true
  | .badPacket kind rest => (packetOf kind rest).fault.isSome
  | .flowSymbolSend => true
  | .replySend => true
  | .noticeSend => true
  | .reportSend => true
  | .sleepEntry => true
  | .resetReplySent => true
  | .sceneTick => true
  | .pulseEnd _ => true
  | .rampStep _ => true
  | .reportDue => true
  | .benchLineEdge _ _ => true
  | .fetchComplete => true
  | .intakeJudgement => true
  | .intakeWriteComplete => true
  | .verifyReadComplete => true
  | .peekReadComplete => true
  | .refreshInterval => true
  | .refreshComplete => true
  | .selftestStepComplete upsets => upsetsFit upsets
  | .clearingWriteComplete => true
  | .selfRefreshExitEnd => true
  | .quietTimerExpiry => true
  | .dramReinitEnd => true
  | .powerOn => true
  | .rstnAssert => true
  | .coldReset => true
  | .warmReset => true
  | .sclkPeriodNoTick => true

end Sys2Proof
end

