-- ==== Sys2Proof/Safety.lean ====
section
/-! DEFINITION. What a safe state of the part is: the invariants that the manual states of its registers, queues and tables, each of which
every command keeps; and the conditions under which a control is carried out at the moment its packet arrives. -/

namespace Sys2Proof.Machine

/-! ### When a control is taken at its arrival (R165) -/

/-- R165: the Control Unit takes the control of a packet that arrives now, at once and alone: the link receives, the power state is ACTIVE,
the Control Unit is FREE, no control waits before it, and the reply queue has room. -/
structure State.Listening (s : State) : Prop where
  released : s.dev.pwc.rstn = false
  active : s.dev.pwc.power = .active
  free : s.dev.ctu = .free
  first : s.dev.bli.controlQ = []
  room : s.dev.bli.replyQ.length < 4

/-- R147: no request waits at an arbiter that may grant: the store port is never idle while it could serve. -/
def Device.Settled (d : Device) : Prop := d.mayGrant = true → d.choose = none

/-- A control whose body is the chain `ts` is taken at its arrival, with nothing waiting at a free store port. -/
structure State.Takes (s : State) (body : List Byte) (ts : List Tuple) : Prop where
  listening : s.Listening
  settled : s.dev.Settled
  fits : body.length ≤ 1024
  chain : readChain body = some ts

/-- R166, R167, R172, R189: a device that has answered a control: its REPLY is the newest of the reply queue, and the quiet timer was
reloaded by the packet's arrival. -/
def Device.answered (tag : BitVec 16) (code : Byte) (st : Status) (fs : List Field) (d : Device) : Device :=
  d.reloadQuiet.pushReply { tag := tag, code := code, status := st, body := resultChain fs }

/-- R142: the intake has no judged or granted packet of a take's bound stream in hand, and its judged packet's entry stands. -/
structure Siu.FreeOf (s : Siu) (bound : Option (BitVec 16)) : Prop where
  judged : ∀ j, s.stage = .judged j → j.stands = true ∧ bound ≠ some j.packet.tag
  writing : ∀ j, s.stage = .writing j → bound ≠ some j.packet.tag

/-- R134: the stream table without the entry of a take's bound stream. -/
def Siu.withoutStream (s : Siu) (bound : Option (BitVec 16)) : Siu :=
  { s with entries := s.entries.filter (fun e => decide (bound ≠ some e.tag)) }

/-! ### Invariants of the link and the Control Unit (R165, R185, R186) -/

/-- R186: the flow state agrees with the sample queue's length. -/
def Bli.FlowFits (b : Bli) : Prop :=
  match b.flow with
  | .hold => 4 < b.sampleQ.length
  | .release => b.sampleQ.length < 12

/-- R165, R185, R186: the queues are within their capacities, a HOLDING Control Unit has room for the reply it owes, and the flow state
agrees with the sample queue. -/
structure Device.LinkFits (d : Device) : Prop where
  samples : d.bli.sampleQ.length ≤ 16
  controls : d.bli.controlQ.length ≤ 4
  replies : d.bli.replyQ.length ≤ 4
  owed : ∀ p stage, d.ctu = .holding p stage → d.bli.replyQ.length < 4
  flow : d.bli.FlowFits

/-! ### Invariants of the scene (R2, R14, R102, R105) -/

/-- R2, R14, R102, R105: T is a 48-bit count, the scene is frozen only while it is not STOPPED, and the capture list and the marker table
are within their capacities. -/
structure Device.SceneFits (d : Device) : Prop where
  time : d.stu.time ≤ 281474976710655
  frozen : d.stu.frozen = true → d.stu.scene ≠ .stopped
  captures : d.stu.captures.length ≤ 32
  markers : d.stu.markers.length ≤ 16

/-! ### Invariants of the voices (R20, R22, R32, R79) -/

/-- R22: a voice is IDLE exactly when its cue list is empty. -/
def Device.IdleExactlyWhenEmpty (d : Device) : Prop := ∀ v : Fin 32, (d.voice v).state = .idle ↔ (d.voice v).cues = []

/-- R32: no voice's cue list holds more than 16 cues. -/
def Device.CueListsFit (d : Device) : Prop := ∀ v : Fin 32, (d.voice v).cues.length ≤ 16

/-- R30: a cue's attenuation codes, clamped when it was loaded. -/
def Cue.CodesFit (c : Cue) : Prop := (∀ a, c.entry = some a → a ≤ 1023) ∧ (∀ r, c.ramp = some r → r.1 ≤ 1023)

/-- R79: a voice's attenuation code, its ramp's target and the codes its cues carry lie within 0..1023. -/
structure Voice.CodesFit (v : Voice) : Prop where
  atten : v.atten ≤ 1023
  ramp : ∀ r, v.ramp = some r → r.target ≤ 1023
  cues : ∀ c ∈ v.cues, c.CodesFit

/-- R79: every voice's attenuation code lies within 0..1023, now and whatever its cues bring. -/
def Device.CodesFit (d : Device) : Prop := ∀ v : Fin 32, (d.voice v).CodesFit

/-- R123: a take named by a cue of any voice's cue list is not FREE. -/
def Device.CuedTakesHeld (d : Device) : Prop := ∀ v : Fin 32, ∀ c ∈ (d.voice v).cues, (d.take c.take).state ≠ .free

/-! ### Invariants of the take store and the intake (R115, R119, R132) -/

/-- R115, R119: no segment is in two takes' segment lists, nor twice in one. -/
structure Device.SegmentsOwnedOnce (d : Device) : Prop where
  once : ∀ t : Fin 64, (d.take t).segments.Nodup
  apart : ∀ t u : Fin 64, t ≠ u → ∀ g ∈ (d.take t).segments, g ∉ (d.take u).segments

/-- R132: the stream table and the directory agree: no two entries hold one tag, each entry's take is FILLING or LIVE and is bound to the
entry's tag, and each bound take has its entry. -/
structure Device.StreamsAgree (d : Device) : Prop where
  tags : (d.siu.entries.map StreamEntry.tag).Nodup
  bound : ∀ e ∈ d.siu.entries, (d.take e.take).tag = some e.tag
  writable : ∀ e ∈ d.siu.entries, (d.take e.take).state = .filling ∨ (d.take e.take).state = .live
  entered : ∀ (t : Fin 64) (g : BitVec 16), (d.take t).tag = some g → ∃ e ∈ d.siu.entries, e.tag = g ∧ e.take = t

/-! ### Invariants of the store (R149, R150) -/

/-- R149, R150: the refresh debt lies within 0..8, and outside ACTIVE it is 0 and the interval timer is stopped. -/
structure Device.RefreshFits (d : Device) : Prop where
  debt : d.smc.debt ≤ 8
  asleep : d.pwc.power ≠ .active → d.smc.debt = 0 ∧ d.smc.timerOn = false

/-! ### Invariants of the power state and the self-test engine (R154, R158, R190) -/

/-- R190: a WAKING part has recorded what woke it and the power state it left. -/
def Device.WakingHasCause (d : Device) : Prop := d.pwc.power = .waking → d.pwc.wakeCause ≠ none ∧ d.pwc.left ≠ none

/-- R154, R158: a CLEARING engine has a segment to clear, and a run whose step has been granted has written a segment. -/
structure Engine.RunFits (e : Engine) : Prop where
  clearing : e.state = .clearing → e.clearing ≠ []
  granted : e.state = .running ∨ e.state = .stopping → e.stage = .granted → e.written ≠ []

/-! ### Safe states -/

/-- Every invariant of the part, and the canonical form of the store. -/
structure State.Safe (s : State) : Prop where
  store : memWf s.mem = true
  link : s.dev.LinkFits
  scene : s.dev.SceneFits
  idle : s.dev.IdleExactlyWhenEmpty
  cues : s.dev.CueListsFit
  codes : s.dev.CodesFit
  cued : s.dev.CuedTakesHeld
  segments : s.dev.SegmentsOwnedOnce
  streams : s.dev.StreamsAgree
  refresh : s.dev.RefreshFits
  waking : s.dev.WakingHasCause
  run : s.dev.smc.engine.RunFits
  settled : s.dev.Settled

end Sys2Proof.Machine
end

