-- ==== Sys2Proof/Certificates/Slice0/Obligations.lean ====
section
/-! DEFINITION. The statements about the model, for the provers: what each command of the part does, and what every step keeps. -/

open Sys2Proof Sys2Proof.Machine

/-! ### The queue of commands, and the forms of commands -/

/-- ASKED OF A BLOCK: with command c at the front of the queue, a step is c on the state with the queue's rest.
The model's own choice (assumption log 2): with no command waiting the part idles. -/
def Obligations.StepRunsFrontCommand : Prop :=
  (∀ (c : Instr) (rest : List Instr) (s : State), step (s.setPending (c :: rest)) = exec c (s.setPending rest)) ∧
  (∀ s : State, s.pending = [] → step s = .next s)

/-- Every command of the part completes, whatever the state: it has a next state, in which the queue of waiting commands is the same, and
only a completed write of the store, power-on, a cold reset and the release of RSTN that a power-on waited for may change the store. That an event which cannot take place leaves the
state, in place of stopping, is the model's own choice (assumption log 3). -/
def Obligations.EveryCommandCompletes : Prop :=
  ∀ (c : Instr) (s : State), ∃ t, exec c s = .next t ∧ t.pending = s.pending ∧
    (t.mem = s.mem ∨ c = .intakeWriteComplete ∨ (∃ upsets, c = .selftestStepComplete upsets) ∨ c = .clearingWriteComplete ∨
      c = .powerOn ∨ c = .coldReset ∨ (c = .warmReset ∧ s.dev.pwc.powerHeld = true))

/-! ### Chains and blocks -/

/-- R169: the bytes of a chain of tuples, with any NULL bytes before each tuple, then END, and then any bytes at all, are read as exactly
those tuples, when each tuple's code is in 0x01..0xFE, its data at most 254 bytes, and its length the one the tuple table gives: a MARK's by its action. -/
def Obligations.ChainsReadBack : Prop :=
  ∀ (items : List (Nat × Tuple)) (after : List Byte),
    (∀ x ∈ items, 1 ≤ x.2.code ∧ x.2.code ≤ 254 ∧ x.2.data.length ≤ 254 ∧ tupleFits x.2.code x.2.data = true) →
    readChain (items.flatMap (fun x => List.replicate x.1 (0x00#8 : Byte) ++ tupleBytes x.2.code x.2.data) ++ 0xFF#8 :: after) =
      some (items.map (·.2))

/-- R111, R113, R114, R143: the block that an intake write forms reads back from the store field by field, and a reader of the same opening
and block number judges it VALID, or CORRUPT when its check was inverted; a reader of another opening or number judges it ABSENT.
Every byte outside the block reads as before.
R114, R113: every reader's judgement of a stored block, and the worked check of nine bytes. -/
def Obligations.IntakeBlockReadsBack : Prop :=
  (∀ (m : List Host.Cell) (a : Nat) (j : Judged) (inverted : Bool),
    1 ≤ j.packet.count → j.packet.count ≤ j.packet.format.spb →
    j.packet.data.length = j.packet.count * j.packet.format.bps → j.opening < 2 ^ 24 →
    let m' := memStore m a (imageBytes (j.image inverted))
    let b := readBlock m' a
    (∀ x, x < a ∨ a + 1024 ≤ x → memRead m' x = memRead m x) ∧
    b.number = j.packet.seq ∧ b.opening = j.opening ∧ b.count = j.packet.count ∧ b.format = j.packet.format.code ∧
    b.last = j.packet.last ∧ b.check = (if inverted then ~~~crc16 j.packet.data else crc16 j.packet.data) ∧
    b.payload = j.packet.data ++ List.replicate (1008 - j.packet.data.length) 0#8 ∧
    (∀ (opening : Nat) (number : BlockNo), b.judge opening number =
      if opening = j.opening ∧ number = j.packet.seq then (if inverted then .corrupt else .valid) else .absent)) ∧
  ((∀ (b : Block) (opening : Nat) (number : BlockNo), b.judge opening number =
    if b.opening ≠ opening ∨ b.number ≠ number then .absent
    else if ∃ f, formatOf b.format = some f ∧ 1 ≤ b.count ∧ b.count ≤ f.spb ∧ crc16 (b.payload.take (b.count * f.bps)) = b.check
      then .valid else .corrupt) ∧
  crc16 [0x31#8, 0x32#8, 0x33#8, 0x34#8, 0x35#8, 0x36#8, 0x37#8, 0x38#8, 0x39#8] = 0x29B1#16)

/-! ### IDENT, QUERY, CAPTURE_READ and the controls that are refused -/

/-- R173: IDENT changes nothing and replies with the part's figures, the power state ACTIVE and the last reset cause. Fields and numbers of the
result: assumption logs 12, 13, 46.
R174: a QUERY changes nothing and replies with the record of its target as it stands; the index of a voice, a take or a port selects it,
and one out of range gives RANGE. The index of the other targets is not read. Of the records' bytes, which values share a field and the
numbers of values named in results alone are inferences (assumption logs 12 and 13).
R18, R48, R95, R101, R130, R146, R164: the fields of the records that QUERY returns. The model's own: which values share a field, their
widths and their numbers (assumption logs 12, 13, 32), a ring offset's low 32 bits (14), a verify's range (27), a ring cue's length (30), the
condition of an ARMED port (34), the positions of the self-test (38), the base of the fetch cursor's cue position (39), what a take with
nothing written gives (41) and which rows of a table are one field (46).
R104: CAPTURE_READ returns the records of the capture list, oldest first, with their number and the overrun flag, removes them, clears
the flag and changes nothing else, in every scene state, frozen or not. The numbers of an edge and of a scene state, the fields, and the byte of
the flag: assumption logs 13, 12, 32. -/
def Obligations.IdentQueryAndCaptureReadReply : Prop :=
  (∀ (s : State) (tag : BitVec 16) (body : List Byte) (ts : List Tuple), s.Takes body ts →
    exec (.ident tag body) s = .next (s.setDev (s.dev.answered tag 0x01#8 .ok
      [[[0x04#8, 0x32#8]], [[1#8]], [[32#8, 4#8, 8#8]], [[64#8, 0x00#8, 0x80#8]], [[64#8, 16#8, 8#8]], [[16#8, 32#8, 43#8]], [[0#8]],
        [[match s.dev.pwc.resetCause with
          | .powerOn => 0#8
          | .resetLineCold => 1#8
          | .resetLineWarm => 2#8
          | .resetControl => 3#8]]]))) ∧
  (∀ (s : State) (tag : BitVec 16) (index : Byte) (rest : List Byte) (ts : List Tuple),
    (s.Takes (queryBody 0 index rest) ts → argument 0x07 ts = some [0#8, index] →
      exec (.queryScene tag index rest) s = .next (s.setDev (s.dev.answered tag 0x02#8 .ok (sceneRecord s.dev)))) ∧
    (s.Takes (queryBody 1 index rest) ts → argument 0x07 ts = some [1#8, index] →
      exec (.queryVoice tag index rest) s = .next (s.setDev
        (if h : index.toNat < 32 then s.dev.answered tag 0x02#8 .ok (voiceRecord (s.dev.voice ⟨index.toNat, h⟩))
          else s.dev.answered tag 0x02#8 .range []))) ∧
    (s.Takes (queryBody 2 index rest) ts → argument 0x07 ts = some [2#8, index] →
      exec (.queryTake tag index rest) s = .next (s.setDev
        (if h : index.toNat < 64 then s.dev.answered tag 0x02#8 .ok (takeRecord s.dev ⟨index.toNat, h⟩)
          else s.dev.answered tag 0x02#8 .range []))) ∧
    (s.Takes (queryBody 3 index rest) ts → argument 0x07 ts = some [3#8, index] →
      exec (.queryPort tag index rest) s = .next (s.setDev
        (if h : index.toNat < 4 then s.dev.answered tag 0x02#8 .ok (portRecord s.dev ⟨index.toNat, h⟩)
          else s.dev.answered tag 0x02#8 .range []))) ∧
    (s.Takes (queryBody 4 index rest) ts → argument 0x07 ts = some [4#8, index] →
      exec (.queryLines tag index rest) s = .next (s.setDev (s.dev.answered tag 0x02#8 .ok (linesRecord s.dev)))) ∧
    (s.Takes (queryBody 5 index rest) ts → argument 0x07 ts = some [5#8, index] →
      exec (.querySegments tag index rest) s = .next (s.setDev (s.dev.answered tag 0x02#8 .ok (segmentsRecord s.dev)))) ∧
    (s.Takes (queryBody 6 index rest) ts → argument 0x07 ts = some [6#8, index] →
      exec (.queryStreams tag index rest) s = .next (s.setDev (s.dev.answered tag 0x02#8 .ok (streamsRecord s.dev))))) ∧
  (let flag := fun b : Bool => if b then [1#8] else [(0#8 : Byte)]
  let iq := fun z : IQ => leBytes 2 (z.i % 65536).toNat ++ leBytes 2 (z.q % 65536).toNat
  (∀ d : Device,
    let armed := fun (cond : Nat) (line latch : Field) (g : GoConds) => ([[leBytes 1 cond], line, [flag g.primedWait], latch,
      [leBytes 1 (allVoices.filter (fun v => decide ((d.voice v).cues ≠ [] ∧ (d.voice v).state ≠ .waiting))).length]] : List Field)
    sceneRecord d = [[leBytes 1 d.stu.scene.code], [leBytes 6 d.stu.time], [flag d.stu.frozen]] ++
      (match d.stu.scene, d.stu.go with
        | .armed, some g => (match g.cond with
          | .immediate => armed 0 [] [] g
          | .line l => armed 1 [leBytes 1 l.val] [flag g.latch] g)
        | _, _ => [[], [], [], [], []]) ++
      [[flag d.stu.cueStarted], [flag d.stu.drainedPosted]]) ∧
  (∀ v : Voice,
    let cue := fun c : Cue => leBytes 2 c.label.toNat ++ leBytes 1 c.take.val ++ leBytes 1 c.mode.code ++ (match c.verdict with
      | .skipped r => [1#8] ++ leBytes 1 r.code ++ [0#8]
      | .resident l clamped => [0#8] ++ flag clamped ++ leBytes 4 l
      | .ring _ => [0#8, 0#8] ++ (if c.length = 0 then [] else leBytes 4 c.length)
      | _ => [0#8, 0#8])
    let cursor := fun (i p : Nat) (b : List Byte) => ([leBytes 1 i ++ leBytes 4 p ++ b] : Field)
    voiceRecord v = [[leBytes 1 v.state.code],
      [leBytes 1 v.port.val ++ leBytes 1 v.conceal.code ++ leBytes 1 v.timeMode.code ++ leBytes 1 v.primeDepth ++ leBytes 1 v.resumeDepth],
      [leBytes 1 v.cues.length], v.cues.map cue, if v.started then [leBytes 4 v.pass ++ leBytes 4 v.offset] else [],
      [leBytes 1 (v.slots.filter (fun u => u.status.isSome)).length],
      (match v.cursor with
        | .atTarget i p b _ => cursor i p ([0#8] ++ leBytes 4 b.toNat)
        | .held i p (some b) => cursor i p ([0#8] ++ leBytes 4 b.toNat)
        | .held i p none => cursor i p [1#8]
        | _ => []),
      [leBytes 1 v.rest.code ++ iq v.lastOut], [leBytes 2 v.atten],
      (match v.ramp with
        | some r => [leBytes 2 r.target ++ leBytes 2 r.interval]
        | none => []),
      [leBytes 4 v.freq.toNat ++ leBytes 4 v.phase.toNat], [leBytes 2 v.absentCount ++ leBytes 2 v.corruptCount],
      [leBytes 4 v.starvedTicks]]) ∧
  (∀ (d : Device) (i : Fin 64),
    let t := d.take i
    let held := fun f : Field => if t.state = .free then [] else f
    let r := t.verify
    takeRecord d i = [[leBytes 1 t.state.code], held [leBytes 1 t.kind.code], held [leBytes 1 t.format.code], held [leBytes 2 t.format.spb],
      held (t.segments.map (fun g => leBytes 1 g.val)), held [leBytes 3 (t.segments.length * 32768)], held [leBytes 3 t.opening],
      if t.state = .filling then [leBytes 3 t.written.length ++ (match t.written.getLast? with
        | some h => leBytes 3 h ++ leBytes 2 t.lastCount
        | none => [])] else [],
      if t.state = .ready then [leBytes 3 t.blockCount ++ leBytes 4 t.length ++ leBytes 3 t.holes] else [],
      if t.state = .live ∨ t.state = .ended then [match t.ring with
        | some r => [0#8] ++ leBytes 4 r.first.toNat ++ leBytes 4 r.w.toNat
        | none => [1#8]] else [],
      (match t.tag with
        | some g => [leBytes 2 g.toNat]
        | none => []),
      held [leBytes 2 (allVoices.map (fun v => ((d.voice v).cues.filter (fun c => decide (c.take = i))).length)).sum],
      [leBytes 1 r.state.code ++ leBytes 4 r.first.toNat ++ leBytes 4 (r.first + BitVec.ofNat 32 r.size).toNat ++ leBytes 4 r.checked ++
        leBytes 4 r.absent ++ leBytes 4 r.corrupt ++ (match r.firstBad with
          | some (b, st) => [0#8] ++ leBytes 4 b.toNat ++ leBytes 1 st.code
          | none => [1#8]) ++ (if r.state = .running then leBytes 4 r.next.toNat else [])],
      [leBytes 3 d.tks.counter]]) ∧
  (∀ (d : Device) (p : Fin 4),
    let x := d.port p
    let condition := if d.pwc.power ≠ .active ∨ d.pwc.rstn = true then 0 else if x.enable = false then 1 else match d.stu.scene with
      | .running => 3
      | .paused => if x.pause = .hold then 4 else 5
      | _ => 2
    portRecord d p = [[flag x.enable ++ leBytes 1 x.headroom ++ leBytes 2 x.atten ++ leBytes 1 x.width.bits ++ leBytes 1 x.pause.code],
      [leBytes 1 condition], [iq x.last], [leBytes 4 x.clip],
      (allVoices.filter (fun v => decide ((d.voice v).port = p))).map (fun v => leBytes 1 v.val)]) ∧
  (∀ d : Device, linesRecord d =
    [allLines.map (fun i =>
      let l := d.line i
      leBytes 1 l.dir.code ++ leBytes 1 l.edgeMode.code ++ flag l.capture ++ flag l.wake ++ leBytes 1 l.sleepMode.code ++ flag l.latch ++
        flag (l.sensed (decide (d.pwc.power = .sleep))) ++ leBytes 2 l.pulse),
     [leBytes 1 d.stu.captures.length ++ flag d.stu.overrun], [leBytes 1 d.stu.markers.length],
     d.stu.markers.map (fun m => leBytes 6 m.time ++ leBytes 1 m.line.val ++ (match m.action with
       | .set => [0#8]
       | .clear => [1#8]
       | .toggle => [2#8]
       | .pulse w => [3#8] ++ leBytes 2 w))]) ∧
  (∀ d : Device,
    let e := d.smc.engine
    let next := if 4194304 ≤ e.pos.word then 4194304
      else if e.pattern = .march ∧ (e.pos.sweep % 6 = 3 ∨ e.pos.sweep % 6 = 4) then 4194303 - e.pos.word else e.pos.word
    segmentsRecord d = [
      all64.map (fun g => leBytes 1 (d.smc.segs[g]).code ++ (match all64.find? (fun t => decide (g ∈ (d.take t).segments)) with
        | some t => [0#8] ++ leBytes 1 t.val ++ leBytes 1 ((d.take t).segments.idxOf g)
        | none => [1#8])),
      [leBytes 1 e.state.code ++ (if e.state = .idle then [] else leBytes 1 e.mode.code ++ leBytes 1 e.pattern.code) ++
        (if e.state = .running ∨ e.state = .halted ∨ e.state = .stopping then
          leBytes 4 e.pass ++ leBytes 1 e.pos.seg.val ++ leBytes 1 e.pos.sweep ++ leBytes 3 next else []) ++
        (if e.state = .clearing then leBytes 1 (e.clearing.headD 0).val ++ leBytes 2 e.clearBlock else [])],
      [match e.failure with
        | some f => [0#8] ++ leBytes 1 f.seg.val ++ leBytes 4 f.offset ++ leBytes 1 f.lanes ++ leBytes 8 f.expected.toNat ++
          leBytes 8 f.observed.toNat ++ leBytes 4 f.pass
        | none => [1#8]],
      [match e.summary with
        | some x => [0#8] ++ leBytes 1 x.cause.code ++ leBytes 1 x.mode.code ++ leBytes 1 x.pattern.code ++ leBytes 4 x.passes ++
          leBytes 1 x.good ++ leBytes 1 x.failed ++ leBytes 1 x.untested ++ flag x.locked
        | none => [1#8]],
      [leBytes 1 d.smc.rate ++ leBytes 1 d.smc.debt],
      [match d.smc.injection with
        | none => [0#8]
        | some x => [1#8] ++ leBytes 1 x.take.val ++ leBytes 4 x.block.toNat ++ flag x.armed],
      [(match d.smc.port with
        | none => [0#8]
        | some .refresh => [1#8]
        | some (.fetch v _) => [2#8] ++ leBytes 1 v.val
        | some (.intake _ _) => [3#8]
        | some (.peek _) => [4#8]
        | some (.verify _ _) => [5#8]
        | some (.selftest _ _ _) => [6#8]
        | some (.clearing _) => [7#8]) ++ leBytes 1 d.smc.lastVoice.val]]) ∧
  (∀ d : Device, streamsRecord d =
    [[leBytes 1 d.siu.entries.length],
     d.siu.entries.map (fun e => leBytes 2 e.tag.toNat ++ leBytes 1 e.take.val ++ leBytes 4 e.accepted ++ leBytes 4 e.dropped),
     [leBytes 4 d.siu.unrouted], [leBytes 4 d.siu.overrun],
     [match d.siu.stage with
       | .idle => [0#8]
       | .judged j => [1#8] ++ leBytes 2 j.packet.tag.toNat ++ leBytes 4 j.packet.seq.toNat
       | .writing j => [2#8] ++ leBytes 2 j.packet.tag.toNat ++ leBytes 4 j.packet.seq.toNat]]) ∧
  [SceneState.stopped, .armed, .running, .paused].map SceneState.code = [0, 1, 2, 3] ∧
  [VoiceState.idle, .priming, .waiting, .playing, .starved].map VoiceState.code = [0, 1, 2, 3, 4] ∧
  [TakeState.free, .filling, .ready, .live, .ended].map TakeState.code = [0, 1, 2, 3, 4] ∧
  [EngineState.idle, .running, .halted, .stopping, .clearing].map EngineState.code = [0, 1, 2, 3, 4] ∧
  [VerifyState.none, .running, .done, .aborted].map VerifyState.code = [0, 1, 2, 3] ∧
  [SegState.good, .failed, .untested].map SegState.code = [0, 1, 2] ∧ [Format.iq8, .iq12, .iq16].map Format.code = [1, 2, 3] ∧
  [BlockStatus.valid, .absent, .corrupt].map BlockStatus.code = [0, 1, 2] ∧ [SkipReason.notReady, .range].map SkipReason.code = [0, 1] ∧
  [EndCause.complete, .stopped, .stoppedAfterPass].map EndCause.code = [0, 1, 2] ∧
  [TestMode.normal, .halt, .loop].map TestMode.code = [0, 1, 2] ∧ [Pattern.pseudo, .march].map Pattern.code = [0, 1] ∧
  [EdgeMode.none, .rise, .fall, .both].map EdgeMode.code = [0, 1, 2, 3] ∧ [Dir.input, .output].map Dir.code = [0, 1] ∧
  [SleepMode.hold, .release].map SleepMode.code = [0, 1] ∧ [PauseOut.hold, .zero].map PauseOut.code = [0, 1] ∧
  [Conceal.zero, .hold].map Conceal.code = [0, 1] ∧ [TimeMode.slip, .keep].map TimeMode.code = [0, 1] ∧
  [Rest.zero, .held].map Rest.code = [0, 1] ∧ [TakeKind.resident, .ring].map TakeKind.code = [0, 1] ∧
  [Width.w12, .w14, .w16].map Width.bits = [12, 14, 16] ∧
  [StartMode.follow, .atTime 0, .onLine 0].map StartMode.code = [0, 1, 2]) ∧
  (∀ (s : State) (tag : BitVec 16) (body : List Byte) (ts : List Tuple), s.Takes body ts →
    exec (.captureRead tag body) s = .next (s.setDev
      ((s.dev.setStu { s.dev.stu with captures := [], overrun := false }).answered tag 0x03#8 .ok
        [[leBytes 1 s.dev.stu.captures.length],
         s.dev.stu.captures.map (fun c => leBytes 1 c.line.val ++ leBytes 1 c.edge.code ++ leBytes 6 c.time ++ leBytes 1 c.scene.code),
         [[if s.dev.stu.overrun then 1#8 else 0#8]]])))

/-- R168: a control code outside the table of section 9.5 gives UNKNOWN and changes nothing; the body is not read.
R168, R169: a control of the table whose body is no well-formed chain gives MALFORMED and changes nothing.
R168, R170: a required argument missing or given twice gives MALFORMED, as does a chain of settings, markers, cues or memory tuples with a value
outside its set, and a SELFTEST mode or pattern outside its set; a take id above 63 or a voice number above 31 gives RANGE. Each changes
nothing. -/
def Obligations.BodiesAndArgumentsAreChecked : Prop :=
  (∀ (s : State) (tag : BitVec 16) (code : Byte) (body : List Byte), s.Listening → s.dev.Settled → body.length ≤ 1024 →
    code.toNat ∉ [0x01, 0x02, 0x03, 0x10, 0x11, 0x12, 0x13, 0x14, 0x18, 0x19, 0x20, 0x21, 0x22, 0x28, 0x29, 0x2A, 0x2B, 0x30, 0x31, 0x32,
      0x33, 0x34, 0x38, 0x39, 0x40, 0x41, 0x48, 0x4F] →
    exec (.unknownControl tag code body) s = .next (s.setDev (s.dev.answered tag code .unknown []))) ∧
  (∀ (s : State) (tag : BitVec 16) (code : Byte) (body : List Byte), s.Listening → s.dev.Settled → body.length ≤ 1024 →
    code.toNat ∈ [0x01, 0x02, 0x03, 0x10, 0x11, 0x12, 0x13, 0x14, 0x18, 0x19, 0x20, 0x21, 0x22, 0x28, 0x29, 0x2A, 0x2B, 0x30, 0x31, 0x32,
      0x33, 0x34, 0x38, 0x39, 0x40, 0x41, 0x48, 0x4F] → readChain body = none →
    exec (.controlPacket tag (code.setWidth 32) body) s = .next (s.setDev (s.dev.answered tag code .malformed []))) ∧
  (∀ (s : State) (tag : BitVec 16) (ts : List Tuple),
    let refused := fun (code : Byte) (st : Status) => (.next (s.setDev (s.dev.answered tag code st [])) : Host.Outcome State Fault Refusal)
    let once := fun code : Nat => (ts.filter (fun t => decide (t.code = code))).length = 1
    (∀ body : List Byte, s.Takes body ts →
      (¬ once 0x05 → exec (.takeOpen tag body) s = refused 0x10 .malformed) ∧
      (¬ once 0x02 → exec (.takeClose tag body) s = refused 0x11 .malformed ∧ exec (.takeDrop tag body) s = refused 0x12 .malformed ∧
        exec (.takeVerify tag body) s = refused 0x13 .malformed ∧ exec (.takePeek tag body) s = refused 0x14 .malformed ∧
        exec (.streamBind tag body) s = refused 0x18 .malformed) ∧
      (¬ once 0x03 → exec (.takePeek tag body) s = refused 0x14 .malformed) ∧
      (¬ once 0x04 → exec (.streamBind tag body) s = refused 0x18 .malformed ∧ exec (.streamUnbind tag body) s = refused 0x19 .malformed) ∧
      (¬ once 0x01 ∨ cuesOf ts = none → exec (.cueLoad tag body) s = refused 0x20 .malformed) ∧
      (¬ once 0x40 → exec (.sceneGo tag body) s = refused 0x30 .malformed) ∧
      (¬ once 0x49 → exec (.reportSet tag body) s = refused 0x39 .malformed) ∧
      (readAll voiceSettingOf ts = none → exec (.voiceSet tag body) s = refused 0x22 .malformed) ∧
      (readAll portSettingOf ts = none → exec (.portSet tag body) s = refused 0x28 .malformed) ∧
      (readAll lineSettingOf ts = none → exec (.lineSet tag body) s = refused 0x29 .malformed) ∧
      (readAll markerOf ts = none → exec (.markLoad tag body) s = refused 0x2A .malformed) ∧
      (readAll memTupleOf ts = none → exec (.memSet tag body) s = refused 0x41 .malformed) ∧
      (∀ id : Byte, argument 0x02 ts = some [id] → 64 ≤ id.toNat →
        exec (.takeClose tag body) s = refused 0x11 .range ∧ exec (.takeDrop tag body) s = refused 0x12 .range ∧
        exec (.takeVerify tag body) s = refused 0x13 .range ∧ (once 0x03 → exec (.takePeek tag body) s = refused 0x14 .range) ∧
        (once 0x04 → exec (.streamBind tag body) s = refused 0x18 .range))) ∧
    (∀ x ∈ [(0, Instr.queryScene), (1, Instr.queryVoice), (2, Instr.queryTake), (3, Instr.queryPort), (4, Instr.queryLines),
        (5, Instr.querySegments), (6, Instr.queryStreams)], ∀ (index : Byte) (rest : List Byte), s.Takes (queryBody x.1 index rest) ts →
      ¬ once 0x07 → exec (x.2 tag index rest) s = refused 0x02 .malformed) ∧
    (∀ x ∈ [(0, Instr.cueFlushPending), (1, Instr.cueFlushAll)], ∀ rest : List Byte, s.Takes (flushBody x.1 rest) ts →
      (¬ once 0x06 ∨ ¬ once 0x01 → exec (x.2 tag rest) s = refused 0x21 .malformed) ∧
      (∀ n : Byte, argument 0x06 ts = some [BitVec.ofNat 8 x.1] → argument 0x01 ts = some [n] → 32 ≤ n.toNat → s.dev.stu.frozen = false →
        exec (x.2 tag rest) s = refused 0x21 .range)) ∧
    (∀ x ∈ [(0, Instr.selftestStart), (1, Instr.selftestContinue), (2, Instr.selftestStop)], ∀ (mode pattern : Byte) (rest : List Byte),
      s.Takes (testBody x.1 mode pattern rest) ts →
      (¬ once 0x50 → exec (x.2 tag mode pattern rest) s = refused 0x40 .malformed) ∧
      (argument 0x50 ts = some [BitVec.ofNat 8 x.1, mode, pattern] → 3 ≤ mode.toNat ∨ 2 ≤ pattern.toNat →
        exec (x.2 tag mode pattern rest) s = refused 0x40 .malformed)) ∧
    (∀ x ∈ [(0, Instr.powerStandby), (1, Instr.powerSleep), (2, Instr.powerQuiet)], ∀ (quiet : BitVec 16) (rest : List Byte),
      s.Takes (powerBody x.1 quiet rest) ts → ¬ once 0x58 → exec (x.2 tag quiet rest) s = refused 0x48 .malformed))

/-- R167: whatever the control, one refused with a status from 2 to 11 changes nothing and has no result.
R15: while the scene is frozen, a well-formed VOICE_SET, PORT_SET, CUE_FLUSH, LINE_SET, MARK_LOAD or MARK_CLEAR gives FROZEN before any
other check and changes nothing.
R1, R3: whatever the control, the scene moves only as the table of R1 gives, and only SCENE_GO changes T. -/
def Obligations.RefusedControlsChangeNothing : Prop :=
  (∀ (c : CtlPkt) (d e : Device) (st : Status) (fs : List Field),
    carryOut c d = (e, some (st, fs)) → 2 ≤ st.code → e = d ∧ fs = []) ∧
  (∀ (s : State) (tag : BitVec 16) (body rest : List Byte) (ts : List Tuple), s.dev.stu.frozen = true →
    (s.Takes body ts →
      ((readAll voiceSettingOf ts).isSome →
        exec (.voiceSet tag body) s = .next (s.setDev (s.dev.answered tag 0x22#8 .frozen []))) ∧
      ((readAll portSettingOf ts).isSome →
        exec (.portSet tag body) s = .next (s.setDev (s.dev.answered tag 0x28#8 .frozen []))) ∧
      ((readAll lineSettingOf ts).isSome →
        exec (.lineSet tag body) s = .next (s.setDev (s.dev.answered tag 0x29#8 .frozen []))) ∧
      ((readAll markerOf ts).isSome →
        exec (.markLoad tag body) s = .next (s.setDev (s.dev.answered tag 0x2A#8 .frozen []))) ∧
      exec (.markClear tag body) s = .next (s.setDev (s.dev.answered tag 0x2B#8 .frozen []))) ∧
    (s.Takes (flushBody 0 rest) ts → (argument 0x01 ts).isSome → argument 0x06 ts = some [0#8] →
      exec (.cueFlushPending tag rest) s = .next (s.setDev (s.dev.answered tag 0x21#8 .frozen []))) ∧
    (s.Takes (flushBody 1 rest) ts → (argument 0x01 ts).isSome → argument 0x06 ts = some [1#8] →
      exec (.cueFlushAll tag rest) s = .next (s.setDev (s.dev.answered tag 0x21#8 .frozen [])))) ∧
  (∀ (c : CtlPkt) (d e : Device) (a : Option Answer), carryOut c d = (e, a) →
    (e.stu.scene = d.stu.scene ∨
      (c.code = 0x30#8 ∧ d.stu.scene = .stopped ∧ (e.stu.scene = .running ∨ e.stu.scene = .armed)) ∨
      (c.code = 0x31#8 ∧ d.stu.scene = .running ∧ e.stu.scene = .paused) ∨
      (c.code = 0x32#8 ∧ d.stu.scene = .paused ∧ e.stu.scene = .running) ∨
      (c.code = 0x33#8 ∧ d.stu.scene ≠ .stopped ∧ e.stu.scene = .stopped)) ∧
    (e.stu.time = d.stu.time ∨ (c.code = 0x30#8 ∧ e.stu.time = 0)))

/-! ### Takes and streams -/

/-- R118, R119, R117: an accepted TAKE_OPEN takes the k lowest-numbered free GOOD segments, the opening counter's number, the kind and the
format, and a cleared record; the counter advances, from 16,777,215 to 1. Nothing else changes. The opening, range and next block of a verify record
in NONE, all 0, are the model's choice (assumption log 25).
R118: the checks of TAKE_OPEN in their order; each refusal changes nothing. -/
def Obligations.TakeOpenAllocates : Prop :=
  (∀ (s : State) (tag : BitVec 16) (body : List Byte) (ts : List Tuple) (t : Fin 64) (kind : TakeKind) (format : Format) (k : Nat),
    s.Takes body ts → 1 ≤ k → k ≤ 64 →
    argument 0x05 ts = some [BitVec.ofNat 8 t.val, BitVec.ofNat 8 kind.code, BitVec.ofNat 8 format.code, BitVec.ofNat 8 k] →
    (s.dev.take t).state = .free → s.dev.smc.engine.state = .idle →
    let free := all64.filter (fun g => decide (∀ u : Fin 64, g ∉ (s.dev.take u).segments) && decide (s.dev.smc.segs[g] = .good))
    k ≤ free.length →
    let n := s.dev.tks.counter
    let x : Take :=
      { state := (match kind with
          | .resident => .filling
          | .ring => .live)
        kind := kind, format := format, segments := free.take k, opening := n, written := [], lastCount := 0, blockCount := 0,
        length := 0, holes := 0, tag := none, ring := none,
        verify := { state := .none, opening := 0, first := 0, size := 0, next := 0, checked := 0, absent := 0, corrupt := 0,
                    firstBad := none } }
    exec (.takeOpen tag body) s = .next (s.setDev
      ((s.dev.setTks { s.dev.tks with takes := s.dev.tks.takes.set t x, counter := if n < 16777215 then n + 1 else 1 }).answered tag 0x10#8
        .ok [[leBytes 1 t.val], [leBytes 3 n], (free.take k).map (fun g => leBytes 1 g.val), [leBytes 3 (k * 32768)]]))) ∧
  (∀ (s : State) (tag : BitVec 16) (body : List Byte) (ts : List Tuple) (id kind format k : Byte),
    s.Takes body ts → argument 0x05 ts = some [id, kind, format, k] →
    let refused := fun st => exec (.takeOpen tag body) s = .next (s.setDev (s.dev.answered tag 0x10#8 st []))
    if 2 ≤ kind.toNat ∨ format.toNat = 0 ∨ 4 ≤ format.toNat then refused .malformed
    else if h : id.toNat < 64 then
      if k.toNat = 0 ∨ 64 < k.toNat then refused .range
      else if (s.dev.take ⟨id.toNat, h⟩).state ≠ .free then refused .inUse
      else if s.dev.smc.engine.state ≠ .idle then refused .busy
      else s.dev.goodSegments.length < k.toNat → refused .noSpace
    else refused .range)

/-- R121, R129, R134: an accepted TAKE_CLOSE of a FILLING take fixes the block count, the length and the hole count from the written record,
unbinds the stream, discards the record and posts CLOSED with cause CONTROL. A packet in hand for the stream: PacketsInHand. Fields and numbers
of a detail or a result: assumption logs 12, 13.
R122, R129, R134: an accepted TAKE_CLOSE of a LIVE ring sets it ENDED, keeps its write state, unbinds the stream and posts ENDED with cause
CONTROL; the voices held on the ring go on, and the arbiter then decides once over all their requests, which is the model's choice (assumption log
19). A take that is FREE gives NO_TAKE, one READY or ENDED gives STATE. A packet in hand for the stream: PacketsInHand. Fields and numbers of a
detail or a result: assumption logs 12, 13. -/
def Obligations.TakeCloseEndsWriting : Prop :=
  (∀ (s : State) (tag : BitVec 16) (body : List Byte) (ts : List Tuple) (t : Fin 64),
    s.Takes body ts → argument 0x02 ts = some [BitVec.ofNat 8 t.val] → (s.dev.take t).state = .filling →
    s.dev.StreamsAgree → s.dev.siu.FreeOf (s.dev.take t).tag →
    let x := s.dev.take t
    let n := match x.written.getLast? with
      | some h => h + 1
      | none => 0
    let length := if n = 0 then 0 else (n - 1) * x.format.spb + x.lastCount
    let holes := n - x.written.length
    exec (.takeClose tag body) s = .next (s.setDev
      ((((s.dev.setSiu (s.dev.siu.withoutStream x.tag)).setTake t
        { x with state := .ready, blockCount := n, length := length, holes := holes, written := [], lastCount := 0, tag := none }).post
          { source := 5, kind := 0,
            detail := [[leBytes 1 t.val], [leBytes 3 x.opening], [leBytes 1 0], [leBytes 3 n], [leBytes 4 length],
              [leBytes 3 holes]] }).answered tag 0x11#8 .ok []))) ∧
  (∀ (s : State) (tag : BitVec 16) (body : List Byte) (ts : List Tuple) (t : Fin 64),
    s.Takes body ts → argument 0x02 ts = some [BitVec.ofNat 8 t.val] →
    ((s.dev.take t).state = .live → s.dev.StreamsAgree → s.dev.siu.FreeOf (s.dev.take t).tag →
      exec (.takeClose tag body) s = .next (s.setDev
        ((((((s.dev.setSiu (s.dev.siu.withoutStream (s.dev.take t).tag)).setTake t
          { s.dev.take t with state := .ended, tag := none }).post
            { source := 5, kind := 1,
              detail := [[leBytes 1 t.val], [leBytes 3 (s.dev.take t).opening], [leBytes 1 0],
                [match (s.dev.take t).ring with
                  | some r => 0#8 :: (leBytes 4 r.first.toNat ++ leBytes 4 r.w.toNat)
                  | none => [1#8]]] }).onVoices (fun x v => v.ringEnded x t)).answered tag 0x11#8 .ok []).grant)) ) ∧
    ((s.dev.take t).state = .free →
      exec (.takeClose tag body) s = .next (s.setDev (s.dev.answered tag 0x11#8 .noTake []))) ∧
    ((s.dev.take t).state = .ready ∨ (s.dev.take t).state = .ended →
      exec (.takeClose tag body) s = .next (s.setDev (s.dev.answered tag 0x11#8 .state []))))

/-- R123, R124, R161: an accepted TAKE_DROP aborts a verify of the take and posts VERIFY_DONE, unbinds the stream, clears a check-injection
record aimed at the take, and leaves the entry FREE with its verify record kept. A FREE take gives NO_TAKE, one named by a cue IN_USE.
A packet in hand for the stream: PacketsInHand. The detail of VERIFY_DONE: ReadsComplete (assumption logs 12, 13, 27). -/
def Obligations.TakeDropFrees : Prop :=
  ∀ (s : State) (tag : BitVec 16) (body : List Byte) (ts : List Tuple) (t : Fin 64),
    s.Takes body ts → argument 0x02 ts = some [BitVec.ofNat 8 t.val] →
    ((s.dev.take t).state = .free →
      exec (.takeDrop tag body) s = .next (s.setDev (s.dev.answered tag 0x12#8 .noTake []))) ∧
    ((s.dev.take t).state ≠ .free → (∃ v : Fin 32, ∃ c ∈ (s.dev.voice v).cues, c.take = t) →
      exec (.takeDrop tag body) s = .next (s.setDev (s.dev.answered tag 0x12#8 .inUse []))) ∧
    ((s.dev.take t).state ≠ .free → (∀ v : Fin 32, ∀ c ∈ (s.dev.voice v).cues, c.take ≠ t) →
      s.dev.StreamsAgree → s.dev.siu.FreeOf (s.dev.take t).tag →
      let x := s.dev.take t
      let r := if x.verify.state = .running then { x.verify with state := VerifyState.aborted } else x.verify
      let d := (((s.dev.setTks { s.dev.tks with
          takes := s.dev.tks.takes.set t (Take.free r)
          verifyStage := if x.verify.state = .running then .idle else s.dev.tks.verifyStage }).setSiu
            (s.dev.siu.withoutStream x.tag)).setSmc
              { s.dev.smc with
                injection := s.dev.smc.injection.filter (fun i => decide (i.take ≠ t)) })
      exec (.takeDrop tag body) s = .next (s.setDev
        ((if x.verify.state = .running then d.post (evVerifyDone t r .aborted) else d).answered tag 0x12#8 .ok [])))

/-- R134, R138, R141, R142: what an accepted STREAM_UNBIND, TAKE_CLOSE or TAKE_DROP does to a packet in hand of the stream it unbinds, beside
what it does with the intake IDLE: a packet in the store's write goes on, counted for no stream; one judged and not yet granted is judged
again at once, dropped as UNKNOWN_STREAM and counted in the unrouted count alone. -/
def Obligations.PacketsInHand : Prop :=
  ∀ (s : State) (tag : BitVec 16) (body : List Byte) (ts : List Tuple) (e : StreamEntry) (j : Judged) (c : Instr),
    s.Takes body ts → s.dev.StreamsAgree → e ∈ s.dev.siu.entries → j.packet.tag = e.tag →
    ((c = .streamUnbind tag body ∧ argument 0x04 ts = some (leBytes 2 e.tag.toNat)) ∨
      (argument 0x02 ts = some [BitVec.ofNat 8 e.take.val] ∧
        (c = .takeClose tag body ∨ (c = .takeDrop tag body ∧ ∀ v : Fin 32, ∀ x ∈ (s.dev.voice v).cues, x.take ≠ e.take)))) →
    ∃ u : Device, exec c (s.setDev (s.dev.setSiu { s.dev.siu with stage := .idle })) = .next (s.setDev u) ∧
      (∀ x ∈ u.siu.entries, x.tag ≠ e.tag) ∧ u.siu.stage = .idle ∧
      (s.dev.siu.stage = .writing j →
        exec c s = .next (s.setDev (u.setSiu { u.siu with stage := .writing { j with stands := false } }))) ∧
      (∀ p rest, s.dev.siu.stage = .judged j → s.dev.bli.sampleQ = p :: rest → p.tag = e.tag →
        exec c s = .next (s.setDev (((u.setBli { u.bli with
          sampleQ := rest, flow := if u.bli.flow = .hold ∧ rest.length ≤ 4 then .release else u.bli.flow }).setSiu
            { u.siu with unrouted := min 4294967295 (u.siu.unrouted + 1) }).post
              { source := 4, kind := 0, detail := [[leBytes 2 p.tag.toNat], [leBytes 4 p.seq.toNat], [leBytes 6 s.dev.stu.time]] })))

/-- R133: an accepted STREAM_BIND makes an entry with both counts at 0 and binds the take to the tag; its refusals, in their order, change
nothing.
R134: an accepted STREAM_UNBIND removes the tag's entry and clears the take's bound stream tag; the reply gives the take and the entry's
counts. A tag held by no entry gives STATE.
R142: a packet judged for writing whose stream is unbound is judged again at once, dropped as UNKNOWN_STREAM and counted in the unrouted
count alone; it leaves the queue and the intake is free. Fields and numbers of a detail or a result: assumption logs 12, 13. -/
def Obligations.StreamsAreBoundAndUnbound : Prop :=
  (∀ (s : State) (tag g : BitVec 16) (body : List Byte) (ts : List Tuple) (t : Fin 64),
    s.Takes body ts → argument 0x02 ts = some [BitVec.ofNat 8 t.val] → argument 0x04 ts = some (leBytes 2 g.toNat) →
    let x := s.dev.take t
    let refused := fun st => exec (.streamBind tag body) s = .next (s.setDev (s.dev.answered tag 0x18#8 st []))
    if ∃ e ∈ s.dev.siu.entries, e.tag = g then refused .inUse
    else if x.state = .free then refused .noTake
    else if x.state = .ready ∨ x.state = .ended then refused .state
    else if x.tag ≠ none then refused .inUse
    else
      exec (.streamBind tag body) s = .next (s.setDev
        (((s.dev.setSiu { s.dev.siu with
            entries := insertEntry { tag := g, take := t, accepted := 0, dropped := 0 } s.dev.siu.entries }).setTake t
              { x with tag := some g }).answered tag 0x18#8 .ok [[leBytes 2 g.toNat], [leBytes 1 t.val]]))) ∧
  (∀ (s : State) (tag g : BitVec 16) (body : List Byte) (ts : List Tuple),
    s.Takes body ts → argument 0x04 ts = some (leBytes 2 g.toNat) →
    ((∀ e ∈ s.dev.siu.entries, e.tag ≠ g) →
      exec (.streamUnbind tag body) s = .next (s.setDev (s.dev.answered tag 0x19#8 .state []))) ∧
    (∀ e ∈ s.dev.siu.entries, e.tag = g → (s.dev.siu.entries.map StreamEntry.tag).Nodup → s.dev.siu.FreeOf (some g) →
      exec (.streamUnbind tag body) s = .next (s.setDev
        (((s.dev.setSiu (s.dev.siu.withoutStream (some g))).setTake e.take { s.dev.take e.take with tag := none }).answered tag 0x19#8 .ok
          [[leBytes 1 e.take.val], [leBytes 4 e.accepted], [leBytes 4 e.dropped]])))) ∧
  (∀ (d : Device) (e : StreamEntry) (j : Judged) (p : SamplePkt) (rest : List SamplePkt),
    d.pwc.power = .active → d.siu.entry e.tag = some e → d.siu.stage = .judged j → j.packet.tag = e.tag →
    d.bli.sampleQ = p :: rest → p.tag = e.tag →
    (d.unbind e.tag).rejudgeIntake =
      ((d.popSample.setSiu { d.siu with
          entries := d.siu.entries.filter (fun x => decide (x.tag ≠ e.tag))
          unrouted := min 4294967295 (d.siu.unrouted + 1)
          stage := .idle }).setTake e.take { d.take e.take with tag := none }).post
        { source := 4, kind := 0, detail := [[leBytes 2 p.tag.toNat], [leBytes 4 p.seq.toNat], [leBytes 6 d.stu.time]] })

/-- R125: an accepted TAKE_VERIFY sets the take's verify record RUNNING over its range and requests the first block's read; an empty range is
DONE at once and posts VERIFY_DONE. The reply is ACCEPTED. A FREE take gives NO_TAKE, and a verify that is RUNNING gives BUSY.
The detail of VERIFY_DONE: ReadsComplete (assumption logs 12, 13, 27).
R125: the verify range of a take. That the empty range of a FILLING take with nothing written starts at block 0 is the model's choice
(assumption log 27).
R128: an accepted TAKE_PEEK requests the read of the block's place in the store and holds the Control Unit, with no reply yet. A FREE take
gives NO_TAKE, and a block number of a resident take at or above its capacity gives RANGE. -/
def Obligations.VerifyAndPeekStart : Prop :=
  (∀ (s : State) (tag : BitVec 16) (body : List Byte) (ts : List Tuple) (t : Fin 64),
    s.Takes body ts → argument 0x02 ts = some [BitVec.ofNat 8 t.val] →
    let x := s.dev.take t
    let range := x.verifyRange
    let r : Verify := { state := .running, opening := x.opening, first := range.1, size := range.2, next := range.1, checked := 0,
                        absent := 0, corrupt := 0, firstBad := none }
    (x.state = .free → exec (.takeVerify tag body) s = .next (s.setDev (s.dev.answered tag 0x13#8 .noTake []))) ∧
    (x.state ≠ .free → (∃ u : Fin 64, (s.dev.take u).verify.state = .running) →
      exec (.takeVerify tag body) s = .next (s.setDev (s.dev.answered tag 0x13#8 .busy []))) ∧
    (x.state ≠ .free → (∀ u : Fin 64, (s.dev.take u).verify.state ≠ .running) → range.2 ≠ 0 →
      exec (.takeVerify tag body) s = .next (s.setDev
        ((s.dev.setTks { s.dev.tks with takes := s.dev.tks.takes.set t { x with verify := r }, verifyTake := t,
                                        verifyStage := .waiting }).answered tag 0x13#8 .accepted []).grant)) ∧
    (x.state ≠ .free → (∀ u : Fin 64, (s.dev.take u).verify.state ≠ .running) → range.2 = 0 →
      exec (.takeVerify tag body) s = .next (s.setDev
        (((s.dev.setTks { s.dev.tks with takes := s.dev.tks.takes.set t { x with verify := { r with state := .done } },
                                         verifyStage := .idle }).post (evVerifyDone t { r with state := .done } .done)).answered tag 0x13#8
            .accepted [])))) ∧
  (∀ x : Take,
    (x.kind = .resident → x.state = .filling → x.verifyRange = (0, match x.written.getLast? with
      | some h => h + 1
      | none => 0)) ∧
    (x.kind = .resident → x.state = .ready → x.verifyRange = (0, x.blockCount)) ∧
    (x.kind = .ring → x.ring = none → x.verifyRange.2 = 0) ∧
    (∀ r, x.kind = .ring → x.ring = some r →
      let low := r.w - BitVec.ofNat 32 x.capacity
      x.verifyRange.1 = (if 0 ≤ (low - r.first).toInt then low else r.first) ∧ x.verifyRange.2 = (r.w - x.verifyRange.1).toNat)) ∧
  (∀ (s : State) (tag : BitVec 16) (body : List Byte) (ts : List Tuple) (t : Fin 64) (b : BlockNo),
    s.Takes body ts → argument 0x02 ts = some [BitVec.ofNat 8 t.val] → argument 0x03 ts = some (leBytes 4 b.toNat) →
    let x := s.dev.take t
    (x.state = .free → exec (.takePeek tag body) s = .next (s.setDev (s.dev.answered tag 0x14#8 .noTake []))) ∧
    (x.state ≠ .free → x.kind = .resident → x.segments.length * 32768 ≤ b.toNat →
      exec (.takePeek tag body) s = .next (s.setDev (s.dev.answered tag 0x14#8 .range []))) ∧
    (x.state ≠ .free → (x.kind = .ring ∨ b.toNat < x.segments.length * 32768) →
      exec (.takePeek tag body) s = .next (s.setDev
        ((s.dev.reloadQuiet.setCtu
          (.holding { tag := tag, opening := x.opening, block := b, addr := x.blockAddress b } .waiting)).grant))))

/-- R110, R57: where a block of a take lies in the store: by its index in the segment list; blocks of different indexes of a take whose
segments are distinct do not overlap, nor do blocks of two takes that share no segment, and every block lies in the 2 GiB of the store. -/
def Obligations.BlockAddresses : Prop :=
  (∀ (x : Take) (b : BlockNo), x.kind = .resident → x.blockAddress b = x.address b.toNat) ∧
  (∀ (x : Take) (b : BlockNo), x.kind = .ring → x.blockAddress b = x.address (b.toNat % (x.segments.length * 32768))) ∧
  (∀ (x : Take) (i : Nat) (g : Fin 64), x.segments[i / 32768]? = some g → x.address i = g.val * 33554432 + i % 32768 * 1024) ∧
  (∀ (x : Take) (i : Nat), i < x.segments.length * 32768 → x.address i + 1024 ≤ 2147483648) ∧
  (∀ (x : Take) (i j : Nat), x.segments.Nodup → i < x.segments.length * 32768 → j < x.segments.length * 32768 → i ≠ j →
    x.address i + 1024 ≤ x.address j ∨ x.address j + 1024 ≤ x.address i) ∧
  (∀ (x y : Take) (i j : Nat), (∀ g ∈ x.segments, g ∉ y.segments) → i < x.segments.length * 32768 → j < y.segments.length * 32768 →
    x.address i + 1024 ≤ y.address j ∨ y.address j + 1024 ≤ x.address i)

/-! ### Cues, voices, ports, lines and markers -/

/-- R32, R25: an accepted CUE_LOAD appends its cues, in chain order, to the voice's list, and the reply gives the new length. Into a list that
is not empty, with the cursor not at its end, it changes nothing but the list; otherwise the cursor goes on and the voice may request. The
refusals for a voice, take or line number, a FREE take, and more than 16 cues change nothing. That the length counts heads skipped and removed at
once is the model's choice (assumption log 45).
R25, R44, R53, R56, R57: a FOLLOW cue on a READY take, loaded into an IDLE voice's empty list, becomes the head with its effective length
fixed; the voice is PRIMING, its first slot is RESERVED for the cue's first block, and the request for that block waits at the arbiter. -/
def Obligations.CueLoadAppends : Prop :=
  (∀ (s : State) (tag : BitVec 16) (body : List Byte) (ts : List Tuple) (n : Byte) (raw : List RawCue),
    s.Takes body ts → argument 0x01 ts = some [n] → cuesOf ts = some raw →
    let refused := fun st => exec (.cueLoad tag body) s = .next (s.setDev (s.dev.answered tag 0x20#8 st []))
    if h : n.toNat < 32 then
      let v : Fin 32 := ⟨n.toNat, h⟩
      let x := s.dev.voice v
      let cues := raw.map RawCue.cue
      let reply := [[leBytes 1 (x.cues.length + raw.length)]]
      if ∃ c ∈ raw, 64 ≤ c.take ∨ ∃ l, c.line = some l ∧ 8 ≤ l then refused .range
      else if ∃ c ∈ cues, (s.dev.take c.take).state = .free then refused .noTake
      else if 16 < x.cues.length + raw.length then refused .full
      else
        (x.cues ≠ [] → (∀ i, x.cursor ≠ .atEnd i) →
          exec (.cueLoad tag body) s = .next (s.setDev
            ((s.dev.setVoice v { x with cues := x.cues ++ cues }).answered tag 0x20#8 .ok reply))) ∧
        exec (.cueLoad tag body) s = .next (s.setDev
          (((s.dev.onVoice v (fun c y => y.loaded c cues)).answered tag 0x20#8 .ok reply).grant))
    else refused .range) ∧
  (∀ (x : Ctx) (v : Voice) (c : Cue), v.cues = [] → v.slots = [] → v.req = .none → v.state = .idle → c.verdict = .undecided →
    1 ≤ v.primeDepth →
    let t := x.take c
    t.kind = .resident → t.state = .ready → c.start.toNat < t.length →
    let spb := t.format.spb
    let s := c.start.toNat
    let l := if c.length = 0 ∨ t.length < s + c.length then t.length - s else c.length
    let b := BitVec.ofNat 32 (s / spb)
    ∃ w, v.loaded x [c] = (w, []) ∧ w.state = .priming ∧
      w.cues = [{ c with verdict := .resident l (decide (c.length ≠ 0 ∧ t.length < s + c.length)) }] ∧
      w.slots = [{ cue := 0, label := c.label, pass := 1, block := b, first := s % spb, count := min (s + l) ((s / spb + 1) * spb) - s,
                   status := none, samples := [], played := 0 }] ∧
      w.req = .waiting { opening := t.opening, block := b, addr := t.address (s / spb), ring := false, format := t.format })

/-- R34, R35: CUE_FLUSH PENDING keeps the head and gives the number removed; CUE_FLUSH ALL leaves the voice IDLE with an empty list, its slots
and cursor cleared, rest output ZERO, last output (0, 0), no ramp and no starved ticks, and keeps everything else. That the play position of a voice with no
cue stands at its start is the model's own choice (assumption log 25).
R34: what CUE_FLUSH PENDING leaves of a voice: the head, its slots in their order, and a state and settings unchanged; a request is kept
exactly when its RESERVED slot is the head's. -/
def Obligations.CueFlushEmpties : Prop :=
  (∀ (s : State) (tag : BitVec 16) (rest : List Byte) (ts : List Tuple) (v : Fin 32),
    s.dev.stu.frozen = false → argument 0x01 ts = some [BitVec.ofNat 8 v.val] →
    let x := s.dev.voice v
    (s.Takes (flushBody 0 rest) ts → argument 0x06 ts = some [0#8] →
      exec (.cueFlushPending tag rest) s = .next (s.setDev
        (((s.dev.onVoice v (fun c y => y.flushPending.request c)).answered tag 0x21#8 .ok
          [[leBytes 1 (x.cues.length - 1)]]).grant))) ∧
    (s.Takes (flushBody 1 rest) ts → argument 0x06 ts = some [1#8] →
      exec (.cueFlushAll tag rest) s = .next (s.setDev
        ((s.dev.setVoice v
          { x with
            cues := [], slots := [], cursor := .cleared, req := .none, state := .idle, started := false, pass := 1, offset := 0,
            rest := .zero, lastOut := ⟨0, 0⟩, ramp := none, starvedTicks := 0 }).answered tag 0x21#8 .ok [[leBytes 1 x.cues.length]])))) ∧
  (∀ v : Voice,
    let w := v.flushPending
    w.cues = v.cues.take 1 ∧ w.slots = v.slots.filter (fun s => decide (s.cue = 0)) ∧ w.state = v.state ∧ w.started = v.started ∧
    w.pass = v.pass ∧ w.offset = v.offset ∧ w.ramp = v.ramp ∧ w.atten = v.atten ∧ w.phase = v.phase ∧ w.freq = v.freq ∧
    w.rest = v.rest ∧ w.lastOut = v.lastOut ∧ w.starvedTicks = v.starvedTicks ∧
    w.req = (if ∃ s ∈ v.slots, s.cue = 0 ∧ s.status = none then v.req else .none) ∧
    (∀ p b l, v.cursor = .atTarget 0 p b l → w.cursor = v.cursor) ∧
    (∀ c p b l, v.cursor = .atTarget (c + 1) p b l → w.cursor = .atEnd 0))

/-- R20, R21: an accepted VOICE_SET applies its settings in chain order, depths clamped to 1..8, and then each voice of which a depth was named
re-judges its state; the others change in the named settings alone. A number out of range gives RANGE. That the depths act once, after the whole
chain, and that one grant decision then stands over all the requests, are the model's choice (assumption logs 28 and 19). -/
def Obligations.VoiceSetApplies : Prop :=
  (∀ (s : State) (tag : BitVec 16) (body : List Byte) (ts : List Tuple) (ss : List VoiceSetting),
    s.Takes body ts → s.dev.stu.frozen = false → readAll voiceSettingOf ts = some ss →
    (ss.all VoiceSetting.inRange = false → exec (.voiceSet tag body) s = .next (s.setDev (s.dev.answered tag 0x22#8 .range []))) ∧
    (ss.all VoiceSetting.inRange = true →
      exec (.voiceSet tag body) s = .next (s.setDev
        (((allVoices.foldl (fun d v => if ss.any (VoiceSetting.namesDepth v) then d.onVoice v (fun c y => y.proceed c) else d)
          (ss.foldl Device.applyVoice s.dev)).answered tag 0x22#8 .ok []).grant))) ∧
    (ss.all VoiceSetting.inRange = true → (∀ v, ss.any (VoiceSetting.namesDepth v) = false) →
      exec (.voiceSet tag body) s = .next (s.setDev ((ss.foldl Device.applyVoice s.dev).answered tag 0x22#8 .ok [])))) ∧
  (∀ (d : Device) (v : Fin 32) (p : Fin 4) (c : Conceal) (m : TimeMode) (n : Nat),
    d.applyVoice ⟨v, .port p⟩ = d.setVoice v { d.voice v with port := p } ∧
    d.applyVoice ⟨v, .conceal c⟩ = d.setVoice v { d.voice v with conceal := c } ∧
    d.applyVoice ⟨v, .timeMode m⟩ = d.setVoice v { d.voice v with timeMode := m } ∧
    d.applyVoice ⟨v, .prime n⟩ = d.setVoice v { d.voice v with primeDepth := max 1 (min 8 n) } ∧
    d.applyVoice ⟨v, .resume n⟩ = d.setVoice v { d.voice v with resumeDepth := max 1 (min 8 n) })

/-- R91, R92, R94: an accepted PORT_SET applies its settings in chain order, H clamped to 5 and Ap to 1023; a changed width clears the last
delivered sample, and the clip counter is kept. A port number above 3 gives RANGE. That a chain naming W twice, away and back, is judged tuple by
tuple and so clears the sample is the model's choice (assumption log 33).
R97, R98: an accepted LINE_SET applies its settings in chain order, and each line whose sensed level is then another holds that change as
a pending edge. A line number above 7 gives RANGE. -/
def Obligations.PortAndLineSetApply : Prop :=
  ((∀ (s : State) (tag : BitVec 16) (body : List Byte) (ts : List Tuple) (ss : List PortSetting),
    s.Takes body ts → s.dev.stu.frozen = false → readAll portSettingOf ts = some ss →
    exec (.portSet tag body) s = .next (s.setDev
      (if ∃ x ∈ ss, 4 ≤ x.port then s.dev.answered tag 0x28#8 .range []
        else (ss.foldl Device.applyPort s.dev).answered tag 0x28#8 .ok []))) ∧
  (∀ (d : Device) (p : Fin 4) (b : Bool) (n : Nat) (w : Width) (u : PauseOut),
    d.applyPort ⟨p, .enable b⟩ = d.setPort p { d.port p with enable := b } ∧
    d.applyPort ⟨p, .headroom n⟩ = d.setPort p { d.port p with headroom := min 5 n } ∧
    d.applyPort ⟨p, .atten n⟩ = d.setPort p { d.port p with atten := min 1023 n } ∧
    d.applyPort ⟨p, .pause u⟩ = d.setPort p { d.port p with pause := u } ∧
    d.applyPort ⟨p, .width w⟩ = d.setPort p
      (if w = (d.port p).width then d.port p else { d.port p with width := w, last := ⟨0, 0⟩ }))) ∧
  ((∀ (s : State) (tag : BitVec 16) (body : List Byte) (ts : List Tuple) (ss : List LineSetting),
    s.Takes body ts → s.dev.stu.frozen = false → readAll lineSettingOf ts = some ss →
    let w := ss.foldl Device.applyLine s.dev
    let wire := fun (l : Line) => match l.dir with
      | .output => l.latch
      | .input => l.bench
    exec (.lineSet tag body) s = .next (s.setDev
      (if ∃ x ∈ ss, 8 ≤ x.line then s.dev.answered tag 0x29#8 .range []
        else (s.dev.setLines (Vector.ofFn (fun l => (w.line l).noticed (wire (s.dev.line l)) (wire (w.line l))))).answered tag 0x29#8
          .ok []))) ∧
  (∀ (d : Device) (l : Fin 8) (x : Dir) (m : EdgeMode) (z : SleepMode) (b : Bool),
    d.applyLine ⟨l, .dir x⟩ = d.setLine l { d.line l with dir := x } ∧
    d.applyLine ⟨l, .edgeMode m⟩ = d.setLine l { d.line l with edgeMode := m } ∧
    d.applyLine ⟨l, .capture b⟩ = d.setLine l { d.line l with capture := b } ∧
    d.applyLine ⟨l, .wake b⟩ = d.setLine l { d.line l with wake := b } ∧
    d.applyLine ⟨l, .sleepMode z⟩ = d.setLine l { d.line l with sleepMode := z } ∧
    d.applyLine ⟨l, .latch b⟩ = d.setLine l { d.line l with latch := b }))

/-- R105: an accepted MARK_LOAD inserts its entries one by one in chain order and gives the entry count; a line above 7 or a width of 0 gives
RANGE, and more than 16 entries FULL.
R105: an entry in range of a MARK_LOAD is inserted as it is.
R105: an entry is placed after every entry whose time is equal to or less than its own and before the first with a greater time; so a
table in time order stays in time order, and the entries it held keep their order.
R108: MARK_CLEAR empties the marker table, replies with the number of entries removed and touches nothing else, pulses and latches
included. -/
def Obligations.MarkersStayOrdered : Prop :=
  (∀ (s : State) (tag : BitVec 16) (body : List Byte) (ts : List Tuple) (ms : List RawMarker),
    s.Takes body ts → s.dev.stu.frozen = false → readAll markerOf ts = some ms →
    let table := ms.foldl loadMarker s.dev.stu.markers
    exec (.markLoad tag body) s = .next (s.setDev
      (if ∃ m ∈ ms, 8 ≤ m.line ∨ m.action = .pulse 0 then s.dev.answered tag 0x2A#8 .range []
        else if 16 < s.dev.stu.markers.length + ms.length then s.dev.answered tag 0x2A#8 .full []
        else (s.dev.setStu { s.dev.stu with markers := table }).answered tag 0x2A#8 .ok
          [[leBytes 1 (s.dev.stu.markers.length + ms.length)]]))) ∧
  (∀ (table : List Marker) (time : Nat) (l : Fin 8) (action : MarkAction),
    loadMarker table { time := time, line := l.val, action := action } = insertMarker { time := time, line := l, action := action } table) ∧
  (∀ (m : Marker) (table : List Marker), table.Pairwise (fun x y => x.time ≤ y.time) →
    insertMarker m table = table.filter (fun x => decide (x.time ≤ m.time)) ++ m :: table.filter (fun x => decide (m.time < x.time)) ∧
    (insertMarker m table).Pairwise (fun x y => x.time ≤ y.time)) ∧
  (∀ (s : State) (tag : BitVec 16) (body : List Byte) (ts : List Tuple), s.Takes body ts → s.dev.stu.frozen = false →
    exec (.markClear tag body) s = .next (s.setDev
      ((s.dev.setStu { s.dev.stu with markers := [] }).answered tag 0x2B#8 .ok [[leBytes 1 s.dev.stu.markers.length]])))

/-! ### The scene -/

/-- R1, R5, R6, R17: an accepted SCENE_GO sets T to 0, clears the counters of R5 and the DRAINED record, and goes RUNNING for IMMEDIATE without
PRIMED_WAIT and otherwise ARMED with its conditions recorded and the GO line latch clear; STATE_CHANGE is posted, and the reply gives the
state entered. No voice's state and no cue list changes. Fields and numbers of a detail or a result: assumption logs 12, 13.
R5: the refusals of SCENE_GO in their order: a start condition that is neither IMMEDIATE nor LINE, a scene not STOPPED, a line above 7, and
a line whose edge mode is NONE. Each changes nothing. -/
def Obligations.SceneGoStarts : Prop :=
  (∀ (s : State) (tag : BitVec 16) (body : List Byte) (ts : List Tuple) (kind n : Byte),
    s.Takes body ts → argument 0x40 ts = some [kind, n] → s.dev.stu.scene = .stopped →
    let primed := flagged 0x41 ts
    let d := (s.dev.setVoices (s.dev.voices.map (fun v => { v with absentCount := 0, corruptCount := 0, concealReported := false }))).setPorts
      (s.dev.ports.map (fun p => { p with clip := 0 }))
    let started := fun (after : SceneState) (go : Option GoConds) =>
      exec (.sceneGo tag body) s = .next (s.setDev
        (((d.setStu { s.dev.stu with scene := after, time := 0, go := go, cueStarted := false, drainedPosted := false }).post
          { source := 0, kind := 0, detail := [[[0#8]], [leBytes 1 after.code], [leBytes 6 0]] }).answered tag 0x30#8 .ok
            [[leBytes 1 after.code]]))
    (kind = 0#8 → primed = false → started .running none) ∧
    (kind = 0#8 → primed = true → started .armed (some { cond := .immediate, primedWait := true, latch := false })) ∧
    (∀ l : Fin 8, kind = 1#8 → n.toNat = l.val → (s.dev.line l).edgeMode ≠ .none →
      started .armed (some { cond := .line l, primedWait := primed, latch := false }))) ∧
  (∀ (s : State) (tag : BitVec 16) (body : List Byte) (ts : List Tuple) (kind n : Byte),
    s.Takes body ts → argument 0x40 ts = some [kind, n] →
    let refused := fun st => exec (.sceneGo tag body) s = .next (s.setDev (s.dev.answered tag 0x30#8 st []))
    if 2 ≤ kind.toNat then refused .malformed
    else if s.dev.stu.scene ≠ .stopped then refused .state
    else kind = 1#8 → (8 ≤ n.toNat ∨ ∃ l : Fin 8, n.toNat = l.val ∧ (s.dev.line l).edgeMode = .none) → refused .range)

/-- R10, R11, R14, R17: SCENE_PAUSE from RUNNING, SCENE_RESUME from PAUSED and SCENE_FREEZE outside STOPPED have their one effect, keep T, and
reply OK; in every other state each gives STATE and changes nothing. Fields and numbers of a detail or a result: assumption logs 12, 13.
R12, R13, R17, R97: SCENE_STOP, in every scene state, makes the scene STOPPED and keeps T and the capture list; it discards the GO
conditions, the DRAINED record, the freeze and the markers, empties every voice, and ends each pulse with its latch at 0, whose change of
the wire is an edge. STATE_CHANGE is posted unless the scene was STOPPED. That an emptied voice's play position stands at its start is the model's
own choice (assumption log 25). Fields and numbers of a detail or a result: assumption logs 12, 13. -/
def Obligations.SceneMovesAndStops : Prop :=
  (∀ (s : State) (tag : BitVec 16) (body : List Byte) (ts : List Tuple), s.Takes body ts →
    let moved := fun (before after : SceneState) => (s.dev.setStu { s.dev.stu with scene := after }).post
      { source := 0, kind := 0, detail := [[leBytes 1 before.code], [leBytes 1 after.code], [leBytes 6 s.dev.stu.time]] }
    exec (.scenePause tag body) s = .next (s.setDev
      (if s.dev.stu.scene = .running then (moved .running .paused).answered tag 0x31#8 .ok []
        else s.dev.answered tag 0x31#8 .state [])) ∧
    exec (.sceneResume tag body) s = .next (s.setDev
      (if s.dev.stu.scene = .paused then (moved .paused .running).answered tag 0x32#8 .ok []
        else s.dev.answered tag 0x32#8 .state [])) ∧
    exec (.sceneFreeze tag body) s = .next (s.setDev
      (if s.dev.stu.scene = .stopped then s.dev.answered tag 0x34#8 .state []
        else (s.dev.setStu { s.dev.stu with frozen := true }).answered tag 0x34#8 .ok []))) ∧
  (∀ (s : State) (tag : BitVec 16) (body : List Byte) (ts : List Tuple), s.Takes body ts →
    let wire := fun (l : Line) => match l.dir with
      | .output => l.latch
      | .input => l.bench
    let ended := fun (l : Line) => if l.pulse = 0 then l else { l with pulse := 0, latch := false }
    let emptied := fun (v : Voice) =>
      { v with
        cues := [], slots := [], cursor := .cleared, req := .none, state := .idle, started := false, pass := 1, offset := 0,
        rest := .zero, lastOut := ⟨0, 0⟩, ramp := none, starvedTicks := 0 }
    let d := ((s.dev.setLines (Vector.ofFn (fun l => (ended (s.dev.line l)).noticed (wire (s.dev.line l)) (wire (ended (s.dev.line l)))))).setVoices
      (s.dev.voices.map emptied)).setStu
        { s.dev.stu with scene := .stopped, frozen := false, go := none, cueStarted := false, drainedPosted := false, markers := [] }
    let e := if s.dev.stu.scene = .stopped then d
      else d.post
        { source := 0, kind := 0, detail := [[leBytes 1 s.dev.stu.scene.code], [[0#8]], [leBytes 6 s.dev.stu.time]] }
    exec (.sceneStop tag body) s = .next (s.setDev (e.answered tag 0x33#8 .ok [[leBytes 6 s.dev.stu.time]])))

/-! ### Notices, reports, self-test, memory, power and reset controls -/

/-- R176, R177: an accepted NOTICE_SET applies its tuples in chain order, the bits above a source's last kind stored as clear, changes no
queued entry, and replies with each named source's settings; a source above 42 or a level above 3 gives RANGE. That a source named twice has an
item for each naming is the model's choice (assumption log 37).
R177: each item of NOTICE_SET's reply is a source number, its enabled-kind set and its level.
R181: REPORT_SET with interval 0 turns reports off and discards a pending report; any other interval is clamped to 4,096..16,777,216 and a
pending report is kept. The reply gives the interval as it stands.
R161, R162: an accepted MEM_SET applies its tuples in chain order and replies with the rate and the check-injection record as they stand;
an INJECT of a take id above 63 gives RANGE, of a FREE take NO_TAKE, of a block beyond a resident take's capacity RANGE, in this order over
the whole chain. The armed flag's byte, 1 or 0, is the model's choice (assumption log 32). -/
def Obligations.NoticeReportAndMemSetApply : Prop :=
  ((∀ (s : State) (tag : BitVec 16) (body : List Byte) (ts : List Tuple) (ss : List SourceTuple),
    s.Takes body ts → readAll sourceTupleOf ts = some ss →
    let n := ss.foldl Ntu.applySource s.dev.ntu
    exec (.noticeSet tag body) s = .next (s.setDev
      (if ∃ x ∈ ss, 43 ≤ x.source ∨ 4 ≤ x.level then s.dev.answered tag 0x38#8 .range []
        else (s.dev.setNtu n).answered tag 0x38#8 .ok [ss.map n.sourceBytes]))) ∧
  (∀ (n : Ntu) (i : Fin 43) (kinds : BitVec 16) (level : Nat),
    n.applySource ⟨i, kinds, level⟩ = { n with settings := n.settings.set i ⟨storedKinds i kinds, level⟩ } ∧
    (∀ k, (storedKinds i kinds).getLsbD k = (kinds.getLsbD k && decide (k < kindCount i))))) ∧
  (∀ (n : Ntu) (i : Fin 43) (kinds : BitVec 16) (level : Nat),
    n.sourceBytes { source := i.val, kinds := kinds, level := level } =
      leBytes 1 i.val ++ leBytes 2 (n.settings[i]).kinds.toNat ++ leBytes 1 (n.settings[i]).level) ∧
  (∀ (s : State) (tag : BitVec 16) (body : List Byte) (ts : List Tuple) (n : BitVec 32),
    s.Takes body ts → argument 0x49 ts = some (leBytes 4 n.toNat) →
    exec (.reportSet tag body) s = .next (s.setDev
      (if n = 0 then (s.dev.setNtu { s.dev.ntu with interval := 0, report := none }).answered tag 0x39#8 .ok [[leBytes 4 0]]
        else (s.dev.setNtu { s.dev.ntu with interval := max 4096 (min 16777216 n.toNat) }).answered tag 0x39#8 .ok
          [[leBytes 4 (max 4096 (min 16777216 n.toNat))]]))) ∧
  (∀ (s : State) (tag : BitVec 16) (body : List Byte) (ts : List Tuple) (ms : List MemTuple),
    s.Takes body ts → readAll memTupleOf ts = some ms →
    let refused := fun st => exec (.memSet tag body) s = .next (s.setDev (s.dev.answered tag 0x41#8 st []))
    let noId := ∃ m ∈ ms, ∃ t b, m = .inject t b ∧ 64 ≤ t
    let freeTake := ∃ m ∈ ms, ∃ (t : Fin 64) (b : BlockNo), m = .inject t b ∧ (s.dev.take t).state = .free
    let beyond := ∃ m ∈ ms, ∃ (t : Fin 64) (b : BlockNo), m = .inject t b ∧ (s.dev.take t).kind = .resident ∧
      (s.dev.take t).segments.length * 32768 ≤ b.toNat
    (noId → refused .range) ∧ (¬ noId → freeTake → refused .noTake) ∧ (¬ noId → ¬ freeTake → beyond → refused .range) ∧
    (¬ noId → ¬ freeTake → ¬ beyond →
      let rate := ms.foldl (fun r m => match m with
        | .rate x => x
        | _ => r) s.dev.smc.rate
      let injection := ms.foldl (fun i m => match m with
        | .inject t b => if h : t < 64 then some { take := ⟨t, h⟩, block := b, armed := true } else i
        | .injectOff => none
        | .rate _ => i) s.dev.smc.injection
      exec (.memSet tag body) s = .next (s.setDev
        ((s.dev.setSmc { s.dev.smc with rate := rate, injection := injection }).answered tag 0x41#8 .ok
          [[leBytes 1 rate], [match injection with
            | none => [0#8]
            | some x => 1#8 :: (leBytes 1 x.take.val ++ leBytes 4 x.block.toNat ++ [if x.armed then 1#8 else 0#8])]]))))

/-- R151, R153: an accepted SELFTEST START makes every segment UNTESTED, clears the failure record and the written set, records mode and
pattern, and goes RUNNING at the first word of pass 1; its first step waits at the arbiter, and the reply is ACCEPTED. The end summary of
the run before is kept. A take not FREE gives IN_USE, a scene not STOPPED STATE, an engine not IDLE BUSY, in this order.
R157: SELFTEST CONTINUE in HALTED clears and unlocks the failure record and goes RUNNING with a step waiting, at the next word after the one
that mismatched, the write it owes first; at the end of a sweep it goes on as R154 gives, at once when it owes no write, which is the model's own
inference (assumption log 31). In every other engine state it gives STATE.
R158: SELFTEST STOP makes a RUNNING LOOP run STOPPING, leaves a STOPPING one, and ends any other RUNNING or HALTED run at once with cause
STOPPED: a run that has written goes CLEARING over its written segments with the first clearing write waiting, and one that has written
nothing is IDLE at once, which is the model's own choice (assumption log 31). IDLE and CLEARING give STATE. -/
def Obligations.SelftestControlsAct : Prop :=
  (∀ (s : State) (tag : BitVec 16) (mode pattern : Byte) (rest : List Byte) (ts : List Tuple) (m : TestMode) (p : Pattern),
    s.Takes (testBody 0 mode pattern rest) ts → argument 0x50 ts = some [0#8, mode, pattern] →
    mode.toNat = m.code → pattern.toNat = p.code →
    let refused := fun st => exec (.selftestStart tag mode pattern rest) s = .next (s.setDev (s.dev.answered tag 0x40#8 st []))
    if ∃ t : Fin 64, (s.dev.take t).state ≠ .free then refused .inUse
    else if s.dev.stu.scene ≠ .stopped then refused .state
    else if s.dev.smc.engine.state ≠ .idle then refused .busy
    else
      exec (.selftestStart tag mode pattern rest) s = .next (s.setDev
        (((s.dev.setSmc { s.dev.smc with
            segs := Vector.replicate 64 .untested
            engine := { s.dev.smc.engine with
              state := .running, mode := m, pattern := p, pass := 1, pos := { seg := 0, sweep := 0, word := 0, owed := false },
              mismatch := false, passesDone := 0, written := [], failure := none, stage := .waiting, clearing := [],
              clearBlock := 0 } }).answered tag 0x40#8 .accepted []).grant))) ∧
  (∀ (s : State) (tag : BitVec 16) (mode pattern : Byte) (rest : List Byte) (ts : List Tuple),
    s.Takes (testBody 1 mode pattern rest) ts → argument 0x50 ts = some [1#8, mode, pattern] → mode.toNat < 3 → pattern.toNat < 2 →
    let e := s.dev.smc.engine
    let d := s.dev.setSmc { s.dev.smc with engine := { e with state := .running, failure := none, stage := .waiting } }
    (e.state ≠ .halted →
      exec (.selftestContinue tag mode pattern rest) s = .next (s.setDev (s.dev.answered tag 0x40#8 .state []))) ∧
    (e.state = .halted → (e.pos.owed = true ∨ e.pos.word < 4194304) →
      exec (.selftestContinue tag mode pattern rest) s = .next (s.setDev ((d.answered tag 0x40#8 .ok []).grant))) ∧
    (e.state = .halted → e.pos.owed = false → 4194304 ≤ e.pos.word →
      exec (.selftestContinue tag mode pattern rest) s = .next (s.setDev
        (((d.advanceTest e.pos.word).answered tag 0x40#8 .ok []).grant)))) ∧
  (∀ (s : State) (tag : BitVec 16) (mode pattern : Byte) (rest : List Byte) (ts : List Tuple),
    s.Takes (testBody 2 mode pattern rest) ts → argument 0x50 ts = some [2#8, mode, pattern] → mode.toNat < 3 → pattern.toNat < 2 →
    let e := s.dev.smc.engine
    let left := fun d => exec (.selftestStop tag mode pattern rest) s = .next (s.setDev d)
    (e.state = .idle ∨ e.state = .clearing → left (s.dev.answered tag 0x40#8 .state [])) ∧
    (e.state = .stopping → left (s.dev.answered tag 0x40#8 .ok [])) ∧
    (e.state = .running → e.mode = .loop →
      left ((s.dev.setSmc { s.dev.smc with engine := { e with state := .stopping } }).answered tag 0x40#8 .ok [])) ∧
    (e.state = .halted ∨ (e.state = .running ∧ e.mode ≠ .loop) → e.written ≠ [] →
      left (((s.dev.setSmc { s.dev.smc with
        engine := { e with state := .clearing, stage := .waiting, endCause := .stopped, clearing := e.written,
                           clearBlock := 0 } }).answered tag 0x40#8 .ok []).grant)) ∧
    (e.state = .halted ∨ (e.state = .running ∧ e.mode ≠ .loop) → e.written = [] →
      let ended := { e with state := .idle, stage := .idle, endCause := .stopped, clearing := [], clearBlock := 0 }
      let x := ({ s.dev.smc with engine := ended } : Smc).summarise
      left (((s.dev.setSmc { s.dev.smc with engine := { ended with summary := some x } }).post (evSelftestDone x)).answered tag 0x40#8
        .ok [])))

/-! ### The Bench Link -/

/-- R165, R185, R190: a CONTROL packet that passes the checks reloads the quiet timer and joins the tail of the control queue, with the low
byte of its word as its code; into a queue of 4 it is discarded and CONTROL_OVERRUN is posted. A Control Unit that may take it and has none
before it carries it out. In STANDBY the packet also wakes the part, in SLEEP and under RSTN it is lost. Fields and numbers of a detail or a
result: assumption logs 12, 13.
R165, R185 (assumption log 1): a row that is a control is the arrival of that control's CONTROL packet. -/
def Obligations.ControlPacketArrives : Prop :=
  (∀ (s : State) (tag : BitVec 16) (word : BitVec 32) (body : List Byte), body.length ≤ 1024 →
    let left := fun d => exec (.controlPacket tag word body) s = .next (s.setDev d)
    let q := s.dev.bli.controlQ
    let c : CtlPkt := { tag := tag, code := BitVec.ofNat 8 (word.toNat % 256), body := body }
    let reloaded := s.dev.setPwc { s.dev.pwc with quietLeft := s.dev.pwc.quietTime }
    let heard :=
      if q.length < 4 then reloaded.setBli { s.dev.bli with controlQ := q ++ [c] }
      else reloaded.post { source := 2, kind := 2, detail := [[leBytes 2 tag.toNat], [[c.code]]] }
    (s.dev.pwc.rstn = true ∨ s.dev.pwc.power = .sleep → left s.dev) ∧
    (s.dev.pwc.rstn = false → s.dev.pwc.power = .active ∨ s.dev.pwc.power = .waking → s.dev.mayTake = false → left heard) ∧
    (s.dev.pwc.rstn = false → s.dev.pwc.power = .active → s.dev.mayTake = true → q = [] →
      left (match carryOut c reloaded with
        | (d, some a) => (d.setBli { d.bli with
            replyQ := d.bli.replyQ ++ [{ tag := tag, code := c.code, status := a.1, body := resultChain a.2 }] }).grant
        | (d, none) => d.grant)) ∧
    (s.dev.pwc.rstn = false → s.dev.pwc.power = .standby →
      left (heard.setPwc { heard.pwc with power := .waking, wakeCause := some .link, left := some .standby }))) ∧
  (∀ (i : Instr) (tag : BitVec 16) (code : Byte) (body : List Byte) (s : State), i.control = some (tag, code, body) →
    exec i s = exec (.controlPacket tag (code.setWidth 32) body) s)

/-- R144, R185, R186, R190: a SAMPLE packet that passes the checks reloads the quiet timer and joins the tail of the sample queue, and the
flow state becomes HOLD as the queue comes to 12; into a queue of 16 it is discarded, counted and OVERRUN is posted. In STANDBY it also
wakes the part, in SLEEP and under RSTN it is lost. Fields and numbers of a detail or a result: assumption logs 12, 13.
R99, R185, R190: a WAKE packet is discarded in ACTIVE and WAKING and wakes the part from STANDBY and SLEEP, where each line that is not
blocked leaves its sleep behaviour. A packet that fails a check posts CRC or FRAMING and has no further effect; in SLEEP and under RSTN it
is lost. Every packet heard outside SLEEP reloads the quiet timer. That the reasons of FRAMING are numbered 0 to 3 in the order of R185 is the
model's inference (assumption log 13), and so are the fields (log 12).
R184, R185: the checks of the link in their order: CRC, LENGTH, KIND, SAMPLE_SIZE and SIZE; and how a packet's bytes give its fields. One too
short for a header and a CRC counts as one whose CRC is wrong, which is the model's own (assumption log 23).
R185: of well-formed commands, only a BAD_PACKET is the arrival of a packet that a check of the link discards. -/
def Obligations.OtherPacketsArrive : Prop :=
  (∀ (s : State) (tag : BitVec 16) (flags : Byte) (seq : BitVec 32) (count : BitVec 16) (body : List Byte) (f : Format),
    formatOf (flags.toNat / 16 % 4) = some f → body.length = count.toNat * f.bps → body.length ≤ 1008 →
    (s.dev.bli.controlQ = [] ∨ s.dev.mayTake = false) →
    let left := fun d => exec (.samplePacket tag flags seq count body) s = .next (s.setDev d)
    let q := s.dev.bli.sampleQ
    let reloaded := s.dev.setPwc { s.dev.pwc with quietLeft := s.dev.pwc.quietTime }
    let heard :=
      if q.length < 16 then
        reloaded.setBli { s.dev.bli with
          sampleQ := q ++ [{ tag := tag, seq := seq, count := count.toNat, format := f, last := flags.getLsbD 0, data := body }]
          flow := if s.dev.bli.flow = .release ∧ q.length = 11 then .hold else s.dev.bli.flow }
      else
        (reloaded.setSiu { s.dev.siu with overrun := min 4294967295 (s.dev.siu.overrun + 1) }).post
          { source := 4, kind := 5, detail := [[leBytes 2 tag.toNat], [leBytes 4 seq.toNat], [leBytes 6 s.dev.stu.time]] }
    (s.dev.pwc.rstn = true ∨ s.dev.pwc.power = .sleep → left s.dev) ∧
    (s.dev.pwc.rstn = false → s.dev.pwc.power = .active ∨ s.dev.pwc.power = .waking → left heard) ∧
    (s.dev.pwc.rstn = false → s.dev.pwc.power = .standby →
      left (heard.setPwc { heard.pwc with power := .waking, wakeCause := some .link, left := some .standby }))) ∧
  ((∀ s : State, (s.dev.bli.controlQ = [] ∨ s.dev.mayTake = false) →
    let left := fun d => exec .wakePacket s = .next (s.setDev d)
    let reloaded := s.dev.setPwc { s.dev.pwc with quietLeft := s.dev.pwc.quietTime }
    (s.dev.pwc.rstn = true → left s.dev) ∧
    (s.dev.pwc.rstn = false → s.dev.pwc.power = .active ∨ s.dev.pwc.power = .waking → left reloaded) ∧
    (s.dev.pwc.rstn = false → s.dev.pwc.power = .standby →
      left (reloaded.setPwc { reloaded.pwc with power := .waking, wakeCause := some .link, left := some .standby })) ∧
    (s.dev.pwc.rstn = false → s.dev.pwc.power = .sleep →
      left ((s.dev.setPwc { s.dev.pwc with power := .waking, wakeCause := some .link, left := some .sleep }).setLines
        (s.dev.lines.map (fun l =>
          if l.sleepMode = .release ∧ l.wake = false then l else l.noticed (l.sensed true) (l.sensed false)))))) ∧
  (∀ (s : State) (kind : Byte) (rest : List Byte) (f : LinkFault), (packetOf kind rest).fault = some f →
    let p := packetOf kind rest
    let left := fun d => exec (.badPacket kind rest) s = .next (s.setDev d)
    let reloaded := s.dev.setPwc { s.dev.pwc with quietLeft := s.dev.pwc.quietTime }
    (s.dev.pwc.rstn = true ∨ s.dev.pwc.power = .sleep → left s.dev) ∧
    (s.dev.pwc.rstn = false → s.dev.pwc.power ≠ .sleep →
      (f = .crc → left (reloaded.post { source := 2, kind := 0, detail := [[[kind]], [leBytes 6 s.dev.stu.time]] })) ∧
      (f ≠ .crc →
        let reason := match f with
          | .kind => 1#8
          | .sampleSize => 2#8
          | .size => 3#8
          | _ => 0#8
        left (reloaded.post { source := 2, kind := 1, detail := [[[reason]], [[kind]], [leBytes 2 p.len]] }))))) ∧
  ((∀ p : Packet,
    let fits := ∃ f : Format, p.flags.toNat / 16 % 4 = f.code ∧ p.body.length = p.count * f.bps
    let most := if p.kind = 1#8 then 1008 else if p.kind = 3#8 then 0 else 1024
    (p.crcRight = false → p.fault = some .crc) ∧
    (p.crcRight = true →
      (p.len ≠ p.body.length → p.fault = some .length) ∧
      (p.len = p.body.length →
        (p.kind ≠ 1#8 → p.kind ≠ 2#8 → p.kind ≠ 3#8 → p.fault = some .kind) ∧
        (p.kind = 1#8 → ¬ fits → p.fault = some .sampleSize) ∧
        (p.kind = 1#8 ∧ fits ∨ p.kind = 2#8 ∨ p.kind = 3#8 →
          (most < p.body.length → p.fault = some .size) ∧ (p.body.length ≤ most → p.fault = none))))) ∧
  (∀ (kind : Byte) (rest : List Byte), rest.length < 15 → (packetOf kind rest).fault = some .crc) ∧
  (∀ (kind flags : Byte) (len tag count : BitVec 16) (word crc : BitVec 32) (body : List Byte),
    let head := flags :: (leBytes 2 len.toNat ++ leBytes 2 tag.toNat ++ leBytes 4 word.toNat ++ leBytes 2 count.toNat)
    packetOf kind (head ++ body ++ leBytes 4 crc.toNat) =
      { kind := kind, flags := flags, len := len.toNat, route := tag, word := word, count := count.toNat, body := body,
        crcRight := decide (crc32 (kind :: (head ++ body)) = crc) })) ∧
  (∀ i : Instr, wellFormed i = true → (i.isBadPacket = true ↔ ∃ kind rest, i = .badPacket kind rest))

/-- R175, R179, R186, R187: while the transmitter runs, a step of it sends first the symbol of the flow state when that is not the last one
sent, and a REPLY step then sends the oldest REPLY, which leaves the queue; the last REPLY of a CLOSED Control Unit is the closing one.
SLEEP and the warm reset follow that closing reply; at SLEEP entry a line that is not blocked takes on its sleep behaviour, and the lowest one that
hands its edge wakes the part at once. The model's own: a step with nothing to send or with the transmitter stopped leaves the state (assumption
log 3), SLEEP_ENTRY and RESET_REPLY_SENT are steps of their own (log 7), and the waking at SLEEP entry (log 20). -/
def Obligations.RepliesAreSent : Prop :=
  ∀ s : State,
    let d := s.dev
    let runs := d.pwc.rstn = false ∧ d.pwc.power ≠ .sleep ∧ ¬ (d.pwc.power = .active ∧ ∃ why, d.ctu = .closed why true)
    (runs → exec .flowSymbolSend s = .next (s.setDev (d.setBli { d.bli with lastSymbol := some d.bli.flow }))) ∧
    (¬ runs → exec .flowSymbolSend s = .next s) ∧
    (d.bli.replyQ = [] ∨ ¬ runs → exec .replySend s = .next s) ∧
    (∀ r rest, d.bli.replyQ = r :: rest → runs → ∃ e,
      e = (d.setBli { d.bli with replyQ := rest, lastSymbol := some d.bli.flow, sent := some (.reply r) }).setCtu
        (match d.ctu with
          | .closed why sent => .closed why (sent || rest.isEmpty)
          | c => c) ∧
      exec .replySend s = .next (s.setDev e.runCtu) ∧ (e.bli.controlQ = [] ∨ e.mayTake = false → e.runCtu = e)) ∧
    (d.ctu ≠ .closed .sleep true ∨ d.pwc.power ≠ .active → exec .sleepEntry s = .next s) ∧
    (d.ctu = .closed .sleep true → d.pwc.power = .active →
      (∀ l : Fin 8, ((d.line l).sleepMode = .release ∧ (d.line l).wake = false) ∨ (d.line l).sensed true = (d.line l).sensed false) →
      exec .sleepEntry s = .next (s.setDev ((d.setSmc { d.smc with debt := 0, timerOn := false }).setPwc
        { d.pwc with power := .sleep, quietLeft := d.pwc.quietTime }))) ∧
    (d.ctu = .closed .sleep true → d.pwc.power = .active →
      let blocked := fun z : Line => z.sleepMode = .release ∧ z.wake = false
      let falls := fun z : Line => if blocked z then z else z.noticed (z.sensed false) (z.sensed true)
      let hands := fun l : Fin 8 => ¬ blocked (d.line l) ∧ (d.line l).hands ((d.line l).sensed false) ((d.line l).sensed true) = true
      let asleep := (((d.setSmc { d.smc with debt := 0, timerOn := false }).setPwc
        { d.pwc with power := .sleep, quietLeft := d.pwc.quietTime })).setLines (d.lines.map falls)
      ((∀ l, ¬ hands l) → exec .sleepEntry s = .next (s.setDev asleep)) ∧
      (∀ l, hands l → (∀ k < l, ¬ hands k) →
        exec .sleepEntry s = .next (s.setDev ((asleep.setPwc
          { asleep.pwc with power := .waking, wakeCause := some (.line l), left := some .sleep }).setLines
            (asleep.lines.map (fun z => if blocked z then z else z.noticed (z.sensed true) (z.sensed false))))))) ∧
    (d.ctu ≠ .closed .reset true → exec .resetReplySent s = .next s) ∧
    (d.ctu = .closed .reset true → exec .resetReplySent s = .next (s.setDev (d.warmReset .resetControl)))

/-- R61, R179, R180, R182: with no REPLY to send, a NOTICE step sends the entry of the highest level, of equal levels the one of the lowest
source, and removes it, and a voice source's conceal-reported flag is cleared; with no entry either, a REPORT step sends the pending report
and discards it. A flow symbol that is due goes first. A step that has nothing it may send leaves the state, which is the model's own (assumption
log 3). -/
def Obligations.NoticesAndReportsAreSent : Prop :=
  ∀ s : State,
    let d := s.dev
    let runs := d.pwc.rstn = false ∧ d.pwc.power ≠ .sleep ∧ ¬ (d.pwc.power = .active ∧ ∃ why, d.ctu = .closed why true)
    let sent := fun p => d.setBli { d.bli with lastSymbol := some d.bli.flow, sent := some p }
    (¬ runs ∨ d.bli.replyQ ≠ [] → exec .noticeSend s = .next s ∧ exec .reportSend s = .next s) ∧
    ((∀ i : Fin 43, d.ntu.queue[i] = none) → exec .noticeSend s = .next s) ∧
    (∀ (i : Fin 43) (x : Entry), runs → d.bli.replyQ = [] → d.ntu.queue[i] = some x → x.level ≤ 3 →
      (∀ (j : Fin 43) (y : Entry), d.ntu.queue[j] = some y → y.level < x.level ∨ (y.level = x.level ∧ i ≤ j)) →
      exec .reportSend s = .next s ∧
      exec .noticeSend s = .next (s.setDev
        (((sent (.notice i (resultChain ([[leBytes 2 x.kinds.toNat], [leBytes 1 x.count], [leBytes 1 x.firstKind],
            [leBytes 6 x.firstTime]] ++ x.detail)))).setNtu { d.ntu with queue := d.ntu.queue.set i none }).setVoices
              (Vector.ofFn (fun v : Fin 32 =>
                if i.val = 11 + v.val then { d.voice v with concealReported := false } else d.voice v))))) ∧
    (runs → d.bli.replyQ = [] → (∀ i : Fin 43, d.ntu.queue[i] = none) →
      exec .reportSend s = .next (s.setDev
        (match d.ntu.report with
          | some body => (sent (.report body)).setNtu { d.ntu with report := none }
          | none => d)))

/-- R176, R178: an event of a kind that its source has not enabled is lost; an enabled one makes the source's entry with the level, kind, T
and detail of this event, or joins its kind to the entry that stands, whose count grows to at most 255. No other entry changes. The part
posts an event with T as it stands at that moment. -/
def Obligations.EventsCoalesceBySource : Prop :=
  ∀ (n : Ntu) (time : Nat) (e : Event),
    let enabled := (n.settings[e.source]).kinds.getLsbD e.kind
    let m := n.post time e
    (∀ d : Device, d.post e = d.setNtu (d.ntu.post d.stu.time e)) ∧
    m.settings = n.settings ∧ m.interval = n.interval ∧ m.report = n.report ∧
    (∀ i : Fin 43, i ≠ e.source → m.queue[i] = n.queue[i]) ∧
    (enabled = false → m = n) ∧
    (enabled = true → n.queue[e.source] = none →
      ∃ x, m.queue[e.source] = some x ∧ x.count = 1 ∧ x.level = (n.settings[e.source]).level ∧ x.firstKind = e.kind ∧
        x.firstTime = time ∧ x.detail = e.detail ∧ ∀ k, x.kinds.getLsbD k = decide (k = e.kind ∧ k < 16)) ∧
    (∀ x, enabled = true → n.queue[e.source] = some x →
      ∃ y, m.queue[e.source] = some y ∧ y.count = min 255 (x.count + 1) ∧ y.level = x.level ∧ y.firstKind = x.firstKind ∧
        y.firstTime = x.firstTime ∧ y.detail = x.detail ∧
        ∀ k, y.kinds.getLsbD k = (x.kinds.getLsbD k || decide (k = e.kind ∧ k < 16)))

/-! ### Ticks and bench lines -/

/-- R4, R7, R8, R102: a tick takes every pending edge. One edge of a line on which the capture is on makes one record, in ascending line order
and in the order of the line's two edges, with the T and the kind of the tick; records beyond 32 are discarded and set the overrun flag. An
ARMED tick at which the GO conditions hold enters RUNNING and clears the GO conditions. SCENE_TICK does so first; a tick that is not RUNNING then
delivers held or zero samples and changes no voice. -/
def Obligations.TicksTakeEdges : Prop :=
  ∀ d : Device, d.stu.captures.length ≤ 32 →
    let fired := fun l : Fin 8 => ∃ e ∈ (d.line l).edges, e.fits (d.line l).edgeMode = true
    let goes := d.stu.scene = .armed ∧ ∃ g, d.stu.go = some g ∧
      (g.cond = .immediate ∨ ∃ l, g.cond = .line l ∧ (g.latch = true ∨ fired l)) ∧
      (g.primedWait = true → ∀ v : Fin 32, (d.voice v).cues = [] ∨ (d.voice v).state = .waiting)
    let kind := d.tickKind (d.firedLines d.pendingEdges)
    let records := allLines.flatMap (fun l =>
      if (d.line l).capture then (d.line l).edges.map (fun e => Capture.mk l e d.stu.time kind) else [])
    let e := d.openTick
    (∀ l, e.line l = { d.line l with edges := [] }) ∧
    e.stu.captures = (d.stu.captures ++ records).take 32 ∧
    e.stu.overrun = (d.stu.overrun || decide (32 < d.stu.captures.length + records.length)) ∧
    (goes → kind = .running ∧ e.stu.scene = .running ∧ e.stu.go = none) ∧
    (¬ goes → kind = d.stu.scene ∧ e.stu.scene = d.stu.scene ∧
      e.stu.go = if d.stu.scene = .armed then d.stu.go.map (GoConds.latched (d.firedLines d.pendingEdges)) else d.stu.go) ∧
    e.stu.time = d.stu.time ∧ e.voices = d.voices ∧ e.ports = d.ports ∧ e.tks = d.tks ∧ e.siu = d.siu ∧ e.smc = d.smc ∧
    e.bli = d.bli ∧ e.ctu = d.ctu ∧ e.pwc = d.pwc ∧
    (∀ s : State, s.dev = d → d.pwc.power = .active → d.pwc.rstn = false →
      ∃ f, exec .sceneTick s = .next (s.setDev f) ∧
        f.stu.captures = (d.stu.captures ++ records).take 32 ∧
        f.stu.overrun = (d.stu.overrun || decide (32 < d.stu.captures.length + records.length)) ∧
        f.stu.scene = kind ∧ f.stu.go = e.stu.go ∧
        (kind ≠ .running → f.stu.time = d.stu.time ∧ (∀ l, f.line l = { d.line l with edges := [] }) ∧
          (∀ p : Fin 4, f.port p = if (d.port p).enable = true ∧ kind = .paused ∧ (d.port p).pause = .hold then d.port p
            else { d.port p with last := ⟨0, 0⟩ }) ∧
          (d.Settled → f.voices = d.voices)))

/-- R3, R29, R93, R94: a tick that is not a RUNNING tick, with no edge to take, changes no voice, no line and not T: each port delivers its last
pair when it pauses with HOLD, and (0, 0) otherwise. A period without a tick delivers (0, 0) from every port. That a SCENE_TICK outside ACTIVE
or under RSTN is such a period, and that SCLK_PERIOD_NO_TICK is one in every state, are the model's choice (assumption log 5). -/
def Obligations.StillTicksDeliver : Prop :=
  (∀ s : State, s.dev.Settled → (∀ l : Fin 8, (s.dev.line l).edges = []) → s.dev.pwc.power = .active → s.dev.pwc.rstn = false →
      s.dev.tickKind [] ≠ .running →
        exec .sceneTick s = .next (s.setDev (s.dev.setPorts (s.dev.ports.map (fun p =>
          if p.enable = true ∧ s.dev.stu.scene = .paused ∧ p.pause = .hold then p else { p with last := ⟨0, 0⟩ }))))) ∧
    (∀ s : State,
      let silent := s.dev.setPorts (s.dev.ports.map (fun p => { p with last := ⟨0, 0⟩ }))
      exec .sclkPeriodNoTick s = .next (s.setDev silent) ∧
      (s.dev.pwc.power ≠ .active ∨ s.dev.pwc.rstn = true → exec .sceneTick s = .next (s.setDev silent)))

/-- R2, R3, R73, R85 to R89, R93, R94, R106, R107, R181: a RUNNING tick. T advances by one; each voice becomes what its own turn makes of it,
but for a request that the arbiter then grants; each enabled port delivers the scaled, rounded and saturated sum of the pairs its voices
hand, and counts a clip; each line counts its pulse down and then takes the actions of its due markers in table order, a change of its wire being
an edge; due markers leave the table; and a report that falls due replaces a pending one. Each grant decision stands at the end (assumption log 19). -/
def Obligations.RunningTickPlays : Prop :=
  ∀ s : State, s.dev.runsNext = true →
    let fired := s.dev.firedLines s.dev.pendingEdges
    let turn := fun v : Fin 32 => (s.dev.voice v).tick { takes := s.dev.tks.takes, time := s.dev.stu.time, src := srcVoice v } .running fired
    let sum := fun (p : Fin 4) (part : IQ → Int) =>
      ((allVoices.filter (fun v => decide ((s.dev.voice v).port = p))).map (fun v => part (turn v).out)).sum
    ∃ e, exec .sceneTick s = .next (s.setDev e) ∧
      e.stu.scene = .running ∧ e.stu.time = min 281474976710655 (s.dev.stu.time + 1) ∧ e.stu.frozen = s.dev.stu.frozen ∧
      e.stu.cueStarted = (s.dev.stu.cueStarted || allVoices.any (fun v => (turn v).started)) ∧
      e.stu.markers = s.dev.stu.markers.filter (fun m => decide (s.dev.stu.time < m.time)) ∧
      (∀ v, e.voice v = (turn v).voice ∨
        ∃ r, (turn v).voice.req = .waiting r ∧ e.voice v = { (turn v).voice with req := .granted r }) ∧
      (∀ p : Fin 4,
        let x := s.dev.port p
        let scaled := fun acc : Int => (acc * factor x.atten + (2 ^ (14 + x.headroom) : Nat)) / (2 ^ (15 + x.headroom) : Nat)
        let rounded := fun y : Int => match x.width with
          | .w16 => y
          | .w14 => (y + 2) / 4
          | .w12 => (y + 8) / 16
        let mix := fun acc : Int => satBits x.width.bits (rounded (sat16 (scaled acc)))
        let clips := fun acc : Int => sat16 (scaled acc) ≠ scaled acc ∨ mix acc ≠ rounded (sat16 (scaled acc))
        e.port p =
          if x.enable = true then
            { x with
              last := ⟨mix (sum p IQ.i), mix (sum p IQ.q)⟩
              clip := if clips (sum p IQ.i) ∨ clips (sum p IQ.q) then min 4294967295 (x.clip + 1) else x.clip }
          else { x with last := ⟨0, 0⟩ }) ∧
      (∀ l,
        let x := s.dev.line l
        let counted : Line := { x with pulse := x.pulse - 1, latch := if x.pulse = 1 then false else x.latch }
        let due := s.dev.stu.markers.filter (fun m => decide (m.line = l ∧ m.time ≤ s.dev.stu.time))
        let y : Line := due.foldl (fun z m => match m.action with
          | .set => { z with latch := true }
          | .clear => { z with latch := false }
          | .toggle => { z with latch := !z.latch }
          | .pulse w => { z with latch := true, pulse := w }) counted
        e.line l = { y with edges := if x.dir = .output ∧ x.latch ≠ y.latch then [if y.latch then .rise else .fall] else [] }) ∧
      e.ntu.report = (if s.dev.ntu.interval ≠ 0 ∧ 0 < s.dev.stu.time ∧ s.dev.stu.time % s.dev.ntu.interval = 0 then
        some (resultChain (reportFields s.dev.stu.time e)) else s.dev.ntu.report) ∧
      e.tks.takes = s.dev.tks.takes ∧ e.siu.entries = s.dev.siu.entries ∧ e.pwc = s.dev.pwc ∧ e.bli.replyQ = s.dev.bli.replyQ

/-- R16, R17, R47, R71, R90, R103, R178: the events that a RUNNING tick posts, in their order and all with its T: STATE_CHANGE when the scene was
ARMED, CAPTURE_PENDING for the first record of an empty list, DRAINED when a cue has started and every voice is IDLE as the tick arrives, the
voices' events in voice order, and CLIP of each port that clips, with its counter as it then stands. Nothing else changes the Notice Unit but a
report. Fields of a detail: assumption logs 12, 13; of CLIP: 40. -/
def Obligations.RunningTicksPost : Prop :=
  ∀ s : State, s.dev.runsNext = true →
    let d := s.dev
    let time := leBytes 6 d.stu.time
    let fired := d.firedLines d.pendingEdges
    let turn := fun v : Fin 32 => (d.voice v).tick { takes := d.tks.takes, time := d.stu.time, src := srcVoice v } .running fired
    let sum := fun (p : Fin 4) (part : IQ → Int) =>
      ((allVoices.filter (fun v => decide ((d.voice v).port = p))).map (fun v => part (turn v).out)).sum
    let went : List Event := if d.stu.scene = .armed then [{ source := 0, kind := 0, detail := [[[1#8]], [[2#8]], [time]] }] else []
    let records := allLines.flatMap (fun l => if (d.line l).capture then (d.line l).edges.map (fun e => (l, e)) else [])
    let captured : List Event := match d.stu.captures, records with
      | [], (l, e) :: _ => [{ source := 6, kind := 0, detail := [[leBytes 1 l.val ++ leBytes 1 e.code ++ time ++ [2#8]]] }]
      | _, _ => []
    let drains := d.stu.cueStarted = true ∧ d.stu.drainedPosted = false ∧ ∀ v : Fin 32, (d.voice v).state = .idle
    let drained : List Event := if drains then [{ source := 0, kind := 1, detail := [[time]] }] else []
    let clip := fun p : Fin 4 =>
      let x := d.port p
      let stage := fun (part : IQ → Int) => (mixComponent x.width x.atten x.headroom (sum p part)).2
      let item := fun (n : Byte) (st : Option ClipStage) => match st with
        | some .port => [[n, 0#8]]
        | some .dac => [[n, 1#8]]
        | none => ([] : List (List Byte))
      if x.enable = true ∧ (stage IQ.i ≠ none ∨ stage IQ.q ≠ none) then
        [({ source := ⟨7 + p.val, by omega⟩, kind := 0, detail :=
          [[time], item 0#8 (stage IQ.i) ++ item 1#8 (stage IQ.q), [leBytes 4 (min 4294967295 (x.clip + 1))]] } : Event)]
      else []
    let events := went ++ captured ++ drained ++ allVoices.flatMap (fun v => (turn v).events) ++ [0, 1, 2, 3].flatMap clip
    ∃ e, exec .sceneTick s = .next (s.setDev e) ∧
      e.ntu = { events.foldl (fun n ev => n.post d.stu.time ev) d.ntu with report := e.ntu.report } ∧
      e.stu.drainedPosted = (d.stu.drainedPosted || decide drains)

/-- R83, R107, R181 (assumption logs 3 and 4): the end of a pulse, a ramp's step and a due report are what a scene tick does when one is due,
and leave the state when none is. At such a tick the pulse counter and, with no marker due on the line, the latch come to 0; the ramp's code
moves one toward its target; and the report is formed.
R182: a report's fields: T, RUNNING, a record for each voice and one for each LIVE ring; a voice's head label while it has a cue, and once the
head has begun its take and the block of its next sample, that of its oldest slot or of the cursor (fields of a record: assumption logs 12, 13). -/
def Obligations.DueTicksAct : Prop :=
  (∀ s : State,
    (∀ l : Fin 8,
      (s.dev.pulseDue l = false → exec (.pulseEnd l) s = .next s) ∧
      (s.dev.pulseDue l = true → (∀ m ∈ s.dev.stu.markers, m.line = l → s.dev.stu.time < m.time) →
        ∃ e, exec (.pulseEnd l) s = .next (s.setDev e) ∧ exec .sceneTick s = .next (s.setDev e) ∧ (e.line l).pulse = 0 ∧
          (e.line l).latch = false)) ∧
    (∀ (v : Fin 32) (c : Cue) (cs : List Cue) (r : Ramp), (s.dev.voice v).cues = c :: cs → (s.dev.voice v).state = .playing →
      (s.dev.voice v).started = true → (s.dev.voice v).headReady = true → (s.dev.voice v).ramp = some r → s.dev.runsNext = true →
      (r.counter + 1 < r.interval → exec (.rampStep v) s = .next s) ∧
      (r.interval ≤ r.counter + 1 →
        ∃ e, exec (.rampStep v) s = .next (s.setDev e) ∧ exec .sceneTick s = .next (s.setDev e) ∧
          (e.voice v).atten =
            if (s.dev.voice v).atten < r.target then (s.dev.voice v).atten + 1 else (s.dev.voice v).atten - 1)) ∧
    (s.dev.reportNext = false → exec .reportDue s = .next s) ∧
    (s.dev.reportNext = true →
      ∃ e, exec .reportDue s = .next (s.setDev e) ∧ exec .sceneTick s = .next (s.setDev e) ∧
        e.ntu.report = some (resultChain (reportFields s.dev.stu.time e)))) ∧
  ((∀ (time : Nat) (d : Device),
    reportFields time d = [[leBytes 6 time], [[2#8]], allVoices.map (fun i => reportVoice i (d.voice i)),
      (all64.filter (fun t => decide ((d.take t).state = .live))).map (fun t => leBytes 1 t.val ++ match (d.take t).ring with
        | some r => 0#8 :: leBytes 4 r.w.toNat
        | none => [1#8])]) ∧
  (∀ (i : Fin 32) (v : Voice),
    let state := match v.state with
      | .idle => 0#8
      | .priming => 1#8
      | .waiting => 2#8
      | .playing => 3#8
      | .starved => 4#8
    let record := fun middle : List Byte =>
      leBytes 1 i.val ++ [state] ++ middle ++ leBytes 1 (v.slots.filter (fun u => decide (u.status ≠ none))).length
    let own := v.slots.filter (fun u => decide (u.cue = 0))
    (v.cues = [] → reportVoice i v = record []) ∧
    (∀ c cs, v.cues = c :: cs → v.started = false → reportVoice i v = record (leBytes 2 c.label.toNat)) ∧
    (∀ c cs, v.cues = c :: cs → v.started = true →
      let at' := fun b : BlockNo => record (leBytes 2 c.label.toNat ++ leBytes 1 c.take.val ++ leBytes 4 b.toNat)
      (∀ u us, own = u :: us → reportVoice i v = at' u.block) ∧
      (∀ k p b least, own = [] → v.cursor = .atTarget k p b least → reportVoice i v = at' b) ∧
      (∀ k p b, own = [] → v.cursor = .held k p (some b) → reportVoice i v = at' b))))

/-- R4, R97, R99, R100, R190: the bench drives a level on a line. A change of the line's sensed level is held pending unless one of its
direction is; in STANDBY and SLEEP a change that matches the edge mode of a wake-on line begins WAKING with cause LINE, and on leaving SLEEP
each line that is not blocked leaves its sleep behaviour. While RSTN is asserted the level alone changes (assumption log 21).
R4, R97, R99: what a line senses: an output its latch and an input the bench's level; in SLEEP a HOLD line the same, and a RELEASE line, which
drives nothing, the bench's level with wake on and 0 without. A change of the level is held pending once for each direction. -/
def Obligations.BenchEdgesAreHeld : Prop :=
  (∀ (s : State) (l : Fin 8) (level : Bool),
    let x := s.dev.line l
    let asleep := decide (s.dev.pwc.power = .sleep)
    let y := { x with bench := level }
    let before := x.sensed asleep
    let after := y.sensed asleep
    let edge : Option Edge := if before = after then none else if after = true then some .rise else some .fall
    let held := match edge with
      | none => y
      | some e => if e ∈ x.edges then y else { y with edges := x.edges ++ [e] }
    let d := s.dev.setLine l held
    let hands := x.wake = true ∧ ∃ e, edge = some e ∧ (x.edgeMode = .both ∨ (x.edgeMode = .rise ∧ e = .rise) ∨ (x.edgeMode = .fall ∧ e = .fall))
    let left := fun e => exec (.benchLineEdge l level) s = .next (s.setDev e)
    (s.dev.pwc.rstn = true → left (s.dev.setLine l y)) ∧
    (s.dev.pwc.rstn = false → s.dev.pwc.power = .active ∨ s.dev.pwc.power = .waking ∨ ¬ hands → left d) ∧
    (s.dev.pwc.rstn = false → s.dev.pwc.power = .standby → hands →
      left (d.setPwc { s.dev.pwc with power := .waking, wakeCause := some (.line l), left := some .standby })) ∧
    (s.dev.pwc.rstn = false → s.dev.pwc.power = .sleep → hands →
      left ((d.setPwc { s.dev.pwc with power := .waking, wakeCause := some (.line l), left := some .sleep }).setLines
        (d.lines.map (fun z => if z.sleepMode = .release ∧ z.wake = false then z else z.noticed (z.sensed true) (z.sensed false)))))) ∧
  (∀ l : Line,
    (l.dir = .output → l.sensed false = l.latch) ∧ (l.dir = .input → l.sensed false = l.bench) ∧
    (l.sleepMode = .hold → l.sensed true = l.sensed false) ∧
    (l.sleepMode = .release → l.wake = true → l.sensed true = l.bench) ∧
    (l.sleepMode = .release → l.wake = false → l.sensed true = false) ∧
    (∀ level, l.noticed level level = l) ∧
    (l.noticed false true = if Edge.rise ∈ l.edges then l else { l with edges := l.edges ++ [.rise] }) ∧
    (l.noticed true false = if Edge.fall ∈ l.edges then l else { l with edges := l.edges ++ [.fall] }))

/-! ### Voices and the signal path -/

/-- R22, R23, R56: a voice's tick is this turn and then its next request; with no cue it hands its rest output, (0, 0) under ZERO and its last
output under HELD. That a RING_LAPPED of that request comes last of the tick's events is the model's choice (assumption log 44).
R24, R27, R31, R42, R51, R65, R66, R73, R74, R83: a voice's turn at a RUNNING tick. A WAITING voice whose time has not come, and a PRIMING
one, hand their rest output and stay. A PLAYING voice, its cue begun, plays the oldest filled slot's next sample, rotated and scaled for a VALID
block and concealed otherwise; phase, ramp, position and played count go on by one, a slot played out is EMPTY, and a head with nothing left to
play ends. With no filled slot of its head it hands its conceal output, counts a starved tick and is STARVED. The model's own: the fields of
STARVED's detail (assumption logs 12, 13) and the low 32 bits of a ring offset (log 14). -/
def Obligations.VoicesPlayOrStarve : Prop :=
  (∀ (x : Ctx) (fired : List (Fin 8)) (v : Voice),
    let p := v.runningTick x fired
    let q := p.voice.request x
    v.tick x .running fired = { voice := q.1, out := p.out, events := p.events ++ q.2, started := p.started } ∧
    (v.cues = [] → v.rest = .zero → v.runningTick x fired = { voice := v, out := ⟨0, 0⟩, events := [], started := false }) ∧
    (v.cues = [] → v.rest = .held → v.runningTick x fired = { voice := v, out := v.lastOut, events := [], started := false })) ∧
  (∀ (x : Ctx) (fired : List (Fin 8)) (v : Voice) (c : Cue) (cs : List Cue), v.cues = c :: cs →
    let conceal := match v.conceal with
      | .zero => (⟨0, 0⟩ : IQ)
      | .hold => v.lastOut
    let rest := match v.rest with
      | .zero => (⟨0, 0⟩ : IQ)
      | .held => v.lastOut
    (∀ t, v.state = .waiting → c.mode = .atTime t → x.time < t → v.runningTick x fired = ⟨v, rest, [], false⟩) ∧
    (v.state = .priming → v.runningTick x fired = ⟨v, rest, [], false⟩) ∧
    (∀ (u : Slot) (us : List Slot) (st : BlockStatus), v.state = .playing → v.started = true →
      v.slots = u :: us → u.cue = 0 → u.status = some st → (st = .valid → u.played < u.samples.length) →
      let out := if st = .valid then voiceOutput (u.samples.getD u.played ⟨0, 0⟩) v.phase v.atten else conceal
      let counted : Nat × Option Ramp := match v.ramp with
        | none => (v.atten, none)
        | some r =>
          if r.counter + 1 < r.interval then (v.atten, some { r with counter := r.counter + 1 })
          else
            let a := if v.atten < r.target then v.atten + 1 else v.atten - 1
            (a, if a = r.target then none else some { r with counter := 0 })
      let slots := if u.played + 1 < u.count then { u with played := u.played + 1 } :: us else us
      let w : Voice := { v with
        lastOut := out, phase := v.phase + v.freq, atten := counted.1, ramp := counted.2, slots := slots
        req := if ∃ s ∈ slots, s.status = none then v.req else .none }
      let fetched := match v.cursor with
        | .atTarget i _ _ _ => decide (0 < i)
        | .held i _ _ => decide (0 < i)
        | _ => true
      let spent := fetched = true ∧ ∀ s ∈ slots, s.cue ≠ 0
      (spent →
        let e := w.endCue x c v.pass .complete
        v.runningTick x fired = ⟨e.1, out, e.2, false⟩) ∧
      (¬ spent →
        (∀ l k, c.verdict = .resident l k → v.runningTick x fired =
          ⟨{ w with
              pass := if v.offset + 1 < l then v.pass else min 4294967295 (v.pass + 1)
              offset := if v.offset + 1 < l then v.offset + 1 else 0 }, out, [], false⟩) ∧
        (∀ b, c.verdict = .ring b → v.runningTick x fired = ⟨{ w with offset := v.offset + 1 }, out, [], false⟩))) ∧
    (v.started = true → (v.state = .playing ∨ v.state = .starved) →
      ((v.state = .starved) ∨ v.slots = [] ∨ (∃ u us, v.slots = u :: us ∧ (u.cue ≠ 0 ∨ u.status = none))) →
      let w := { v with state := VoiceState.starved, starvedTicks := min 4294967295 (v.starvedTicks + 1), lastOut := conceal }
      v.runningTick x fired = ⟨w, conceal, if v.state = .starved then [] else
        [{ source := x.src, kind := 3, detail := [[leBytes 2 c.label.toNat], [leBytes 1 c.take.val], [leBytes 6 x.time],
            [leBytes 4 v.pass ++ leBytes 4 v.offset], [leBytes 1 (v.slots.filter (fun u => u.status.isSome)).length]] }], false⟩))

/-- R27, R37 to R41, R44, R47: cue starts at a RUNNING tick. A WAITING head starts by its condition: at once (FOLLOW), at its time, late, or at a matching
edge of its line; a PLAYING voice whose head has not begun starts it without a pause. A start makes the start actions and then is the tick of a
begun head, its events CUE_START (and LATE_START) after those of a cue that ends and before STARVED. A late start under KEEP first skips; one that
skips to the cue's end hands the rest output and makes no start action (assumption log 17). Fields of a detail: logs 12, 13, 32. -/
def Obligations.CuesStart : Prop :=
  ∀ (x : Ctx) (fired : List (Fin 8)) (v : Voice) (c : Cue) (cs : List Cue), v.cues = c :: cs →
    let flag := fun b : Bool => if b then [1#8] else [(0#8 : Byte)]
    let head := [[leBytes 2 c.label.toNat], [leBytes 1 c.take.val], [leBytes 6 x.time]]
    let clamped := match c.verdict with
      | .resident _ k => k
      | _ => false
    let begun : Voice → Voice := fun u =>
      let entry := c.entry.getD u.atten
      { u with
        state := VoiceState.playing
        atten := (match c.ramp with
          | some (g, 0) => g
          | _ => entry)
        ramp := (match c.ramp with
          | none => u.ramp
          | some (g, n) => if n = 0 ∨ entry = g then none else some ⟨g, n, 0⟩)
        freq := c.freq
        phase := (match c.phase with
          | none => u.phase
          | some q => BitVec.ofNat 32 (q.toNat * 65536))
        starvedTicks := 0
        started := true }
    let start := fun (lateStart : List Event) (late : Bool) (u : Voice) =>
      let p : Played := (begun u).runningTick x fired
      let own : List Event := lateStart ++ (if c.notifyStart then
        [{ source := x.src, kind := 0, detail := head ++ [[leBytes 4 u.pass], [flag clamped], [flag late]] }] else [])
      ({ voice := p.voice, out := p.out, events := if p.voice.state = .starved then own ++ p.events else p.events ++ own,
         started := true } : Played)
    let rest := match v.rest with
      | .zero => (⟨0, 0⟩ : IQ)
      | .held => v.lastOut
    (v.state = .playing → v.started = false → v.runningTick x fired = start [] false v) ∧
    (v.state = .waiting →
      (c.mode = .follow → v.runningTick x fired = start [] false v) ∧
      (∀ l, c.mode = .onLine l →
        v.runningTick x fired = if l ∈ fired then start [] false v else ⟨v, rest, [], false⟩) ∧
      (∀ t, c.mode = .atTime t →
        let lateStart : Event := { source := x.src, kind := 2, detail := head ++ [[leBytes 6 t], [leBytes 6 (x.time - t)],
          [leBytes 1 v.timeMode.code]] }
        (x.time < t → v.runningTick x fired = ⟨v, rest, [], false⟩) ∧
        (x.time = t → v.runningTick x fired = start [] false v) ∧
        (t < x.time → v.timeMode = .slip → v.runningTick x fired = start [lateStart] true v) ∧
        (t < x.time → v.timeMode = .keep →
          (∀ made w, v.skip x c (x.time - t) = .moved made w → v.runningTick x fired = start [lateStart] true w) ∧
          (∀ made, v.skip x c (x.time - t) = .ended made →
            let passes := match c.verdict with
              | .resident _ _ => c.count
              | _ => 1
            let e := v.endCue x c passes .skippedToEnd
            v.runningTick x fired = ⟨e.1, rest, lateStart :: e.2, false⟩))))

/-- R42, R43, R44, R46, R47, R55: the end of a head cue: it leaves the list with its slots, the ramp is cleared, its end action selects the rest
output, and CUE_END is posted if its flag is set. With no cue left the voice is IDLE. A next cue already decided becomes the head: PLAYING with
its first slot FILLED under FOLLOW, WAITING when primed under another mode, and otherwise PRIMING; one marked skipped leaves at once with
CUE_SKIPPED. A cursor still on the ended cue moves on to the next: a playable resident one is decided and primes, one that is not READY or starts
beyond its take is skipped. Fields of a detail: assumption logs 12, 13. -/
def Obligations.CuesEnd : Prop :=
  ∀ (x : Ctx) (v : Voice) (c : Cue) (cs : List Cue) (passes : Nat) (how : EndHow), v.cues = c :: cs →
    let ended : List Event := if c.notifyEnd then
      [{ source := x.src, kind := 1, detail := [[leBytes 2 c.label.toNat], [leBytes 1 c.take.val], [leBytes 6 x.time], [leBytes 4 passes],
        [[match how with
          | .complete => 0#8
          | .skippedToEnd => 1#8]]] }] else []
    let skipped := fun (n : Cue) (r : SkipReason) => ({ source := x.src, kind := 6, detail :=
      [[leBytes 2 n.label.toNat], [leBytes 1 n.take.val], [leBytes 1 r.code], [leBytes 6 x.time]] } : Event)
    let kept := (v.slots.filter (fun u => decide (u.cue ≠ 0))).map (fun u => { u with cue := u.cue - 1 })
    let left := fun (cues : List Cue) (cursor : Cursor) (state : VoiceState) =>
      { v with
        ramp := none, rest := c.endAction, slots := kept, req := if ∃ u ∈ kept, u.status = none then v.req else .none
        cues := cues, started := false, pass := 1, offset := 0, cursor := cursor, state := state }
    let after := v.endCue x c passes how
    (cs = [] → after = (left [] .cleared .idle, ended)) ∧
    (∀ (n : Cue) (more : List Cue) (cursor : Cursor), cs = n :: more →
      ((∃ i p b l, v.cursor = .atTarget (i + 1) p b l ∧ cursor = .atTarget i p b l) ∨
        (∃ i p b, v.cursor = .held (i + 1) p b ∧ cursor = .held i p b) ∨ (∃ i, v.cursor = .atEnd (i + 1) ∧ cursor = .atEnd i)) →
      let fetched := match cursor with
        | .atTarget i _ _ _ => decide (0 < i)
        | .held i _ _ => decide (0 < i)
        | _ => true
      let ready := ∃ u us, kept = u :: us ∧ u.cue = 0 ∧ u.status ≠ none
      let primed := v.primeDepth ≤ (kept.filter (fun u => u.status.isSome)).length ∨
        (fetched = true ∧ ∀ u ∈ kept, u.cue = 0 → u.status ≠ none)
      ((∀ r, n.verdict ≠ .skipped r) →
        (n.mode = .follow → (ready → after = (left cs cursor .playing, ended)) ∧ (¬ ready → after = (left cs cursor .priming, ended))) ∧
        (n.mode ≠ .follow → (primed → after = (left cs cursor .waiting, ended)) ∧ (¬ primed → after = (left cs cursor .priming, ended)))) ∧
      (∀ r, n.verdict = .skipped r →
        let onward := (left cs cursor v.state).endCue x { n with notifyEnd := false } passes how
        after = (onward.1, ended ++ skipped n r :: onward.2))) ∧
    (∀ (n : Cue) (more : List Cue), cs = n :: more → n.verdict = .undecided → (x.take n).kind = .resident →
      (v.cursor = .cleared ∨ (∃ p b l, v.cursor = .atTarget 0 p b l) ∨ (∃ p b, v.cursor = .held 0 p b) ∨ v.cursor = .atEnd 0) →
      (∀ u ∈ v.slots, u.cue = 0) →
      let t := x.take n
      (t.state = .ready → n.start.toNat < t.length → 1 ≤ v.primeDepth →
        let cut := n.length ≠ 0 ∧ t.length < n.start.toNat + n.length
        let l := if n.length = 0 ∨ cut then t.length - n.start.toNat else n.length
        after = (left ({ n with verdict := .resident l (decide cut) } :: more)
          (.atTarget 0 1 (BitVec.ofNat 32 (n.start.toNat / t.format.spb)) 0) .priming, ended)) ∧
      (more = [] → (t.state ≠ .ready ∨ t.length ≤ n.start.toNat) →
        let r := if t.state = .ready then SkipReason.range else .notReady
        after = ({ left [] .cleared .idle with rest := n.endAction }, ended ++ [skipped n r])))

/-- R45, R54, R56, R57, R62 to R64: ring cues. A ring cue loaded into an empty list waits while nothing is written, and is skipped when the ring is
ENDED so. Its start is w less its lead, or the first block. A request on a ring target is made for it, or after a lap for w - C with RING_LAPPED;
the cursor goes on, to the next block below w, HELD at w, or at the end. The ring's writes fix a waiting start and free a HELD target below w; its
end passes what is HELD. The model's own: the details' fields (assumption logs 12, 13). -/
def Obligations.RingCuesWalk : Prop :=
  (∀ (x : Ctx) (v : Voice) (c : Cue), v.cues = [] → v.slots = [] → v.req = .none → v.state = .idle → c.verdict = .undecided →
    1 ≤ v.primeDepth → (x.take c).kind = .ring → (x.take c).ring = none →
    ((x.take c).state = .live → v.loaded x [c] =
      ({ v with cues := [{ c with verdict := .ringWaiting }], cursor := .held 0 1 none, assigned := 0, state := .priming }, [])) ∧
    ((x.take c).state = .ended → v.loaded x [c] =
      ({ v with cursor := .cleared, rest := c.endAction, started := false, pass := 1, offset := 0 },
        [{ source := x.src, kind := 6, detail := [[leBytes 2 c.label.toNat], [leBytes 1 c.take.val], [[1#8]], [leBytes 6 x.time]] }]))) ∧
  (∀ (t : Take) (c : Cue) (r : RingState), t.kind = .ring → t.ring = some r →
    let b := r.w - BitVec.ofNat 32 (max 1 (min (t.segments.length * 32768 - 1) c.start.toNat))
    judgeCue t c = .ring (if 0 ≤ (b - r.first).toInt then b else r.first)) ∧
  (∀ (x : Ctx) (v : Voice) (c : Cue) (i p : Nat) (b s : BlockNo) (least : Nat) (r : RingState),
    v.state ≠ .idle → v.slots.length < 8 → v.req = .none → v.cursor = .atTarget i p b least → v.cues[i]? = some c →
    c.verdict = .ring s → (x.take c).kind = .ring → (x.take c).ring = some r →
    let t := x.take c
    let spb := t.format.spb
    let low := r.w - BitVec.ofNat 32 (t.segments.length * 32768)
    let lapped := (b - low).toInt < 0
    let b' := if lapped then low else b
    let first := if lapped then 0 else least
    let count := if c.length = 0 then spb - first else min (spb - first) (c.length - v.assigned)
    let asked : Voice := { v with
      slots := v.slots ++ [{ cue := i, label := c.label, pass := p, block := b', first := first, count := count, status := none,
                             samples := [], played := 0 }]
      req := .waiting { opening := t.opening, block := b', addr := t.address (b'.toNat % (t.segments.length * 32768)), ring := true,
                        format := t.format }
      assigned := v.assigned + count }
    let events : List Event := if lapped then [{ source := x.src, kind := 7, detail :=
      [[leBytes 2 c.label.toNat], [leBytes 1 c.take.val], [leBytes 4 b.toNat], [leBytes 4 low.toNat], [leBytes 4 (low - b).toNat]] }] else []
    let more := c.length = 0 ∨ v.assigned + count < c.length
    (more → (b' + 1 - r.w).toInt < 0 → v.request x = ({ asked with cursor := .atTarget i 1 (b' + 1) 0 }, events)) ∧
    (more → 0 ≤ (b' + 1 - r.w).toInt → t.state ≠ .ended → v.request x = ({ asked with cursor := .held i 1 (some (b' + 1)) }, events)) ∧
    (v.cues.length = i + 1 → ¬ more ∨ (0 ≤ (b' + 1 - r.w).toInt ∧ t.state = .ended) →
      v.request x = ({ asked with cursor := .atEnd i }, events))) ∧
  (∀ (x : Ctx) (t : Fin 64) (v : Voice),
    ((∀ i p ob, v.cursor ≠ .held i p ob) → v.ringWritten x t = (v, []) ∧ v.ringEnded x t = (v, [])) ∧
    (∀ i p ob c, v.cursor = .held i p ob → v.cues[i]? = some c →
      (c.take ≠ t → v.ringWritten x t = (v, []) ∧ v.ringEnded x t = (v, [])) ∧
      (∀ r, c.take = t → (x.takes[t]).ring = some r →
        (∀ b, ob = some b → v.ringWritten x t =
          if (b - r.w).toInt < 0 then { v with cursor := .atTarget i p b 0 }.request x else (v, [])) ∧
        (ob = none →
          let b := r.w - BitVec.ofNat 32 (max 1 (min ((x.takes[t]).segments.length * 32768 - 1) c.start.toNat))
          let s := if 0 ≤ (b - r.first).toInt then b else r.first
          v.ringWritten x t =
            { v with cues := v.cues.set i { c with verdict := .ring s }, cursor := .atTarget i p s 0 }.request x)) ∧
      (c.take = t → v.cues.length = i + 1 →
        (∀ b, ob = some b → v.ringEnded x t = { v with cursor := .atEnd i }.proceed x) ∧
        (ob = none → 0 < i → v.ringEnded x t =
          { v with cues := v.cues.set i { c with verdict := .skipped .range }, cursor := .atEnd i }.request x) ∧
        (ob = none → i = 0 → v.slots = [] → v.ringEnded x t =
          ({ v with cues := [], cursor := .cleared, req := .none, state := .idle, rest := c.endAction, started := false, pass := 1, offset := 0 },
            [{ source := x.src, kind := 6, detail :=
              [[leBytes 2 c.label.toNat], [leBytes 1 c.take.val], [[1#8]], [leBytes 6 x.time]] }])))))

/-- R26, R39, R67 to R70, R71: a voice re-judges its state: PRIMING becomes WAITING when primed; STARVED recovers when it may, at once under
SLIP, and under KEEP after a skip of the starved ticks, which ends the cue, resumes it or leaves it STARVED without an event (assumption log 18);
a head with nothing left to play ends. A skip passes over samples in the head's slots: a resident cue by passes and offset, its cursor set when
the skip goes beyond the slots; a ring cue at most to what has been written. A voice that goes on re-judges its state and then may request. The
model's own: a ring skip counts the samples in the slots and from the cursor to w (log 15), and a head left with nothing to play ends COMPLETE at any
re-judgement (log 29). The events of a request come last outside a completion too (log 44). -/
def Obligations.VoicesRecover : Prop :=
  (∀ (x : Ctx) (v : Voice), v.proceed x =
    ((((v.rejudge x).1).request x).1, (v.rejudge x).2 ++ (((v.rejudge x).1).request x).2)) ∧
  (∀ (x : Ctx) (v : Voice) (c : Cue) (cs : List Cue), v.cues = c :: cs →
    let filled := fun u : Voice => (u.slots.filter (fun w => w.status.isSome)).length
    let fetched := fun u : Voice => match u.cursor with
      | .atTarget i _ _ _ => decide (0 < i)
      | .held i _ _ => decide (0 < i)
      | _ => true
    let whole := fun u : Voice => fetched u = true ∧ ∀ w ∈ u.slots, w.cue = 0 → w.status ≠ none
    let spent := fetched v = true ∧ ∀ w ∈ v.slots, w.cue ≠ 0
    let ready := fun u : Voice => ∃ w ws, u.slots = w :: ws ∧ w.cue = 0 ∧ w.status ≠ none
    let resumes := fun u : Voice => u.resumeDepth ≤ filled u ∨ whole u
    let resumed := fun (made : Nat) => ({ source := x.src, kind := 4, detail := [[leBytes 2 c.label.toNat], [leBytes 4 v.starvedTicks],
      [leBytes 1 v.timeMode.code], [leBytes 4 made]] } : Event)
    let passes := match c.verdict with
      | .resident _ _ => c.count
      | _ => 1
    (v.state = .priming → (v.primeDepth ≤ filled v ∨ whole v → v.rejudge x = ({ v with state := .waiting }, [])) ∧
      (¬ (v.primeDepth ≤ filled v ∨ whole v) → v.rejudge x = (v, []))) ∧
    (v.state = .waiting → v.rejudge x = (v, [])) ∧
    (v.state = .playing → (v.started = true → spent → v.rejudge x = v.endCue x c v.pass .complete) ∧
      (v.started = false ∨ ¬ spent → v.rejudge x = (v, []))) ∧
    (v.state = .starved →
      (spent → v.rejudge x = v.endCue x c v.pass .complete) ∧ (¬ spent → ¬ resumes v → v.rejudge x = (v, [])) ∧
      (¬ spent → resumes v → v.timeMode = .slip → v.rejudge x = ({ v with state := .playing, starvedTicks := 0 }, [resumed 0])) ∧
      (¬ spent → resumes v → v.timeMode = .keep →
        (∀ made, v.skip x c v.starvedTicks = .ended made →
          let e := { v with starvedTicks := 0 }.endCue x c passes .skippedToEnd
          v.rejudge x = (e.1, resumed made :: e.2)) ∧
        (∀ made w, v.skip x c v.starvedTicks = .moved made w →
          (ready w → resumes w → v.rejudge x = ({ w with state := .playing, starvedTicks := 0 }, [resumed made])) ∧
          (¬ (ready w ∧ resumes w) → v.rejudge x = ({ w with starvedTicks := 0 }, [])))))) ∧
  (∀ (d : Nat) (gone others : List Slot), (∀ w ∈ gone, w.cue = 0) →
    let left := (gone.map (fun w => w.count - w.played)).sum
    left ≤ d →
    ((∀ w ∈ others, w.cue ≠ 0) → passOver d (gone ++ others) = others) ∧
    (∀ u, u.cue = 0 → d - left < u.count - u.played →
      passOver d (gone ++ u :: others) = { u with played := u.played + (d - left) } :: others)) ∧
  (∀ (x : Ctx) (v : Voice) (c : Cue) (d l : Nat) (k : Bool), c.verdict = .resident l k → 1 ≤ l →
    let spb := (x.take c).format.spb
    let q := v.offset + d
    let place := c.start.toNat + q % l
    let slots := passOver d v.slots
    let pass := min 4294967295 (v.pass + q / l)
    let w := { v with pass := pass, offset := q % l, slots := slots, req := if ∃ u ∈ slots, u.status = none then v.req else .none }
    if c.count ≠ 0 ∧ c.count < v.pass + q / l then v.skip x c d = .ended ((c.count - v.pass) * l + (l - v.offset))
    else if ∃ u ∈ slots, u.cue = 0 then v.skip x c d = .moved d w
    else v.skip x c d = .moved d { w with cursor := .atTarget 0 pass (BitVec.ofNat 32 (place / spb)) (place % spb) }) ∧
  (∀ (x : Ctx) (v : Voice) (c : Cue) (d : Nat) (b : BlockNo) (r : RingState), c.verdict = .ring b → (x.take c).ring = some r →
    let spb := (x.take c).format.spb
    let inSlots := ((v.slots.filter (fun u => decide (u.cue = 0))).map (fun u => u.count - u.played)).sum
    let beyond := match v.cursor with
      | .atTarget 0 _ b least => (r.w - b).toNat * spb - least
      | _ => 0
    let some' := c.length - v.offset
    let k := min d (inSlots + beyond)
    let slots := passOver k v.slots
    let w := { v with offset := v.offset + k, slots := slots, req := if ∃ u ∈ slots, u.status = none then v.req else .none }
    if c.length ≠ 0 ∧ some' ≤ d ∧ some' ≤ inSlots + beyond then v.skip x c d = .ended some'
    else if inSlots + beyond ≤ d ∧ (x.take c).state = .ended then v.skip x c d = .ended (inSlots + beyond)
    else if ∃ u ∈ slots, u.cue = 0 then v.skip x c d = .moved k w
    else match v.cursor with
      | .atTarget 0 p b least =>
        let n := least + (k - inSlots)
        let b' := b + BitVec.ofNat 32 (n / spb)
        v.skip x c d = .moved k { w with
          assigned := v.offset + k, cursor := if (b' - r.w).toInt < 0 then .atTarget 0 p b' (n % spb) else .held 0 p (some b') }
      | _ => v.skip x c d = .moved k w)

/-- R82, R83: a ramp from code A to target G with step interval n ends after exactly |G - A| times n counted samples with A at G, and until then
it runs; with n = 0, A is at G at once, and with A at G no ramp runs. -/
def Obligations.RampsReachTargets : Prop :=
  ∀ (v : Voice) (g n : Nat),
    let samples := (max v.atten g - min v.atten g) * n
    v.ramp = none → (Voice.countRamp^[samples]) (v.beginRamp g n) = { v with atten := g } ∧
      ∀ k < samples,
        let w := (Voice.countRamp^[k]) (v.beginRamp g n)
        (∃ r, w.ramp = some r ∧ r.target = g) ∧ min v.atten g ≤ w.atten ∧ w.atten ≤ max v.atten g ∧
          max v.atten w.atten - min v.atten w.atten = k / n

/-- R80: every attenuation factor is 32768 times ten to the minus A/160, rounded; it never rises with A, passes full level at 0 without loss,
and is 0 from code 771 on, where it mutes fully. A voice and a port scale by the same table.
R78: at the four table indexes on the axes the rotation is f of one component, which takes a value at or beyond half scale one step toward
zero and leaves every other, and does not saturate. -/
def Obligations.FactorsAndAxisRotations : Prop :=
  ((∀ a : Nat, a ≤ 1023 → factor a = round (32768 * (10 : ℝ) ^ (-(a : ℝ) / 160))) ∧
  (∀ a b : Nat, a ≤ b → factor b ≤ factor a) ∧
  factor 0 = 32768 ∧ factor 1 = 32300 ∧ factor 8 = 29205 ∧ factor 24 = 23198 ∧ factor 48 = 16423 ∧ factor 80 = 10362 ∧
  factor 160 = 3277 ∧ factor 320 = 328 ∧ factor 480 = 33 ∧ factor 640 = 3 ∧ factor 770 = 1 ∧
  (∀ a : Nat, 771 ≤ a → factor a = 0 ∧ ∀ x : Int, -32768 ≤ x → x ≤ 32767 → (x * factor a + 16384) / 32768 = 0) ∧
  (∀ x : Int, (x * factor 0 + 16384) / 32768 = x) ∧
  (∀ (x : IQ) (p : BitVec 32) (a : Nat),
    let r := rotate x (p.toNat / 1048576)
    voiceOutput x p a = ⟨(r.i * factor a + 16384) / 32768, (r.q * factor a + 16384) / 32768⟩) ∧
  (∀ (a h : Nat) (acc : Int), portScaled a h acc = (acc * factor a + (2 ^ (14 + h) : Nat)) / (2 ^ (15 + h) : Nat))) ∧
  (let f := fun x : Int => (x * 32767 + 16384) / 32768
  (∀ i q : Int, -32768 ≤ i → i ≤ 32767 → -32768 ≤ q → q ≤ 32767 →
    rotate ⟨i, q⟩ 0 = ⟨f i, f q⟩ ∧ rotate ⟨i, q⟩ 1024 = ⟨f (-q), f i⟩ ∧ rotate ⟨i, q⟩ 2048 = ⟨f (-i), f (-q)⟩ ∧
    rotate ⟨i, q⟩ 3072 = ⟨f q, f (-i)⟩ ∧
    f i = if 16385 ≤ i then i - 1 else if i ≤ -16384 then i + 1 else i) ∧
  f 32767 = 32766 ∧ f 32768 = 32767 ∧ f 16385 = 16384 ∧ f (-16384) = -16383 ∧ f (-32768) = -32767)

/-- R87: a scaled component y is rounded to the DAC width in force and clamped to its range, which only the largest values pass, by one step;
at 16 bits nothing is clamped. R86: with headroom 5 the scaling of a sum of 32 handed values never saturates, and with Ap = 0 and H = 0 it
passes the sum, which is then saturated. A port's mix is the two components so made, at the width, the code and the headroom in force. -/
def Obligations.MixesFitTheWidth : Prop :=
  (∀ (p : Port) (sum : IQ),
    (p.mix sum).out = ⟨(mixComponent p.width p.atten p.headroom sum.i).1, (mixComponent p.width p.atten p.headroom sum.q).1⟩) ∧
  (∀ (w : Width) (a h : Nat) (acc : Int),
    let m := mixComponent w a h acc
    let y := max (-32768) (min 32767 (portScaled a h acc))
    m.1 = (match w with
      | .w16 => y
      | .w14 => max (-8192) (min 8191 ((y + 2) / 4))
      | .w12 => max (-2048) (min 2047 ((y + 8) / 16))) ∧
    (w.bits < 16 → m.1 = max (-((2 : Int) ^ (w.bits - 1))) (min ((2 : Int) ^ (w.bits - 1) - 1)
      ((y + (2 : Int) ^ (15 - w.bits)) / (2 : Int) ^ (16 - w.bits)))) ∧
    (-(2 ^ (w.bits - 1) : Nat) : Int) ≤ m.1 ∧ m.1 ≤ (2 ^ (w.bits - 1) : Nat) - 1 ∧
    (m.2 = some .port ↔ y ≠ portScaled a h acc) ∧
    (m.2 = some .dac ↔ y = portScaled a h acc ∧ ((w = .w14 ∧ 32766 ≤ y) ∨ (w = .w12 ∧ 32760 ≤ y))) ∧
    portScaled 0 0 acc = acc ∧
    (-1048576 ≤ acc → acc ≤ 1048544 → h = 5 → y = portScaled a h acc)) ∧
  (∀ y : Int, y ≤ 32767 →
    (32766 ≤ y → (y + 2) / 4 = 8192) ∧ (32760 ≤ y → (y + 8) / 16 = 2048)) ∧
  ((32765 : Int) + 2) / 4 = 8191 ∧ ((32759 : Int) + 8) / 16 = 2047 ∧ ((-32768 : Int) + 2) / 4 = -8192 ∧ ((-32768 : Int) + 8) / 16 = -2048

/-! ### The store -/

/-- R147, R148: a grant decision takes the first level at which a request waits: refresh at a debt of 8, an urgent voice fetch, the intake's
write, a normal voice fetch, refresh at a debt of 1 to 7, then peek, verify and self-test. Of the voices of a level it takes the first after
the last-voice record, counting modulo 32, and records it. Nothing is granted while the port is occupied, outside ACTIVE or while the DRAM
is re-initialised.
R126, R128, R135, R143, R154, R158, R161: what a grant puts at the free port: an intake's block at its address, its check inverted when an
armed injection matches, which is then disarmed, as the packet leaves the sample queue; a peek's or a verify's read; a self-test step, whose
segment is then written; and a clearing write at its block. -/
def Obligations.ArbiterOrder : Prop :=
  (∀ d : Device,
    let waits := fun v : Fin 32 => ∃ r, (d.voice v).req = .waiting r
    let urgent := fun v : Fin 32 => ((d.voice v).state = .playing ∨ (d.voice v).state = .starved) ∧
      ((d.voice v).slots.filter (fun u => u.status.isSome)).length < 2
    let distance := fun v : Fin 32 => (v.val + 31 - d.smc.lastVoice.val) % 32
    let firstOf := fun (level : Fin 32 → Prop) (v : Fin 32) => waits v ∧ level v ∧ ∀ u, waits u → level u → distance v ≤ distance u
    let intake := ∃ j, d.siu.stage = .judged j
    let peek := ∃ p, d.ctu = .holding p .waiting
    (d.smc.debt = 8 → d.choose = some .refresh) ∧
    (d.smc.debt ≠ 8 → ∀ v, firstOf urgent v → d.choose = some (.fetch v)) ∧
    (d.smc.debt ≠ 8 → (∀ v, waits v → ¬ urgent v) → intake → d.choose = some .intake) ∧
    (d.smc.debt ≠ 8 → (∀ v, waits v → ¬ urgent v) → ¬ intake → ∀ v, firstOf (fun u => ¬ urgent u) v → d.choose = some (.fetch v)) ∧
    (d.smc.debt ≠ 8 → (∀ v, ¬ waits v) → ¬ intake →
      (d.smc.debt ≠ 0 → d.choose = some .refresh) ∧
      (d.smc.debt = 0 → peek → d.choose = some .peek) ∧
      (d.smc.debt = 0 → ¬ peek → d.tks.verifyStage = .waiting → d.choose = some .verify) ∧
      (d.smc.debt = 0 → ¬ peek → d.tks.verifyStage ≠ .waiting → d.smc.engine.stage = .waiting → d.choose = some .selftest) ∧
      (d.smc.debt = 0 → ¬ peek → d.tks.verifyStage ≠ .waiting → d.smc.engine.stage ≠ .waiting → d.choose = none)) ∧
    (d.smc.port ≠ none ∨ d.pwc.power ≠ .active ∨ d.smc.reinit = true → d.grant = d) ∧
    (d.smc.port = none → d.pwc.power = .active → d.smc.reinit = false → ∀ v r, d.choose = some (.fetch v) →
      (d.voice v).req = .waiting r →
      d.grant = (d.setVoice v { d.voice v with req := .granted r }).setSmc
        { d.smc with port := some (.fetch v r), lastVoice := v }) ∧
    (d.smc.port = none → d.pwc.power = .active → d.smc.reinit = false → d.choose = some .refresh →
      d.grant = d.setSmc { d.smc with port := some .refresh, debt := d.smc.debt - 1 })) ∧
  (∀ d : Device, d.smc.port = none → d.pwc.power = .active → d.smc.reinit = false →
    let e := d.smc.engine
    (∀ j, d.choose = some .intake → d.siu.stage = .judged j →
      let hit := match d.smc.injection with
        | some i => i.armed && decide (i.take = j.take ∧ i.block = j.packet.seq)
        | none => false
      let check := crc16 j.packet.data
      let image : BlockImage :=
        { number := j.packet.seq, opening := j.opening, format := j.packet.format, last := j.packet.last, count := j.packet.count,
          check := if hit then ~~~check else check, data := j.packet.data }
      d.grant = ((d.setBli { d.bli with
        sampleQ := d.bli.sampleQ.tail
        flow := if d.bli.flow = .hold ∧ d.bli.sampleQ.tail.length ≤ 4 then .release else d.bli.flow }).setSiu
          { d.siu with stage := .writing j }).setSmc { d.smc with
            port := some (.intake j.addr image)
            injection := if hit then d.smc.injection.map (fun i => { i with armed := false }) else d.smc.injection }) ∧
    (∀ p, d.choose = some .peek → d.ctu = .holding p .waiting →
      d.grant = (d.setCtu (.holding p .granted)).setSmc { d.smc with port := some (.peek p.addr) }) ∧
    (d.choose = some .verify →
      let t := d.tks.verifyTake
      d.grant = (d.setTks { d.tks with verifyStage := .granted }).setSmc
        { d.smc with port := some (.verify t ((d.take t).blockAddress (d.take t).verify.next)) }) ∧
    (d.choose = some .selftest → e.state ≠ .clearing →
      d.grant = d.setSmc { d.smc with
        port := some (.selftest e.pattern e.pass e.pos)
        engine := { e with stage := .granted, written := if e.pos.seg ∈ e.written then e.written else e.written ++ [e.pos.seg] } }) ∧
    (∀ g rest, d.choose = some .selftest → e.state = .clearing → e.clearing = g :: rest →
      d.grant = d.setSmc { d.smc with
        port := some (.clearing (g.val * 33554432 + e.clearBlock * 1024)), engine := { e with stage := .granted } }))

/-- R58 to R61, R147: a completed voice read whose request stands fills the voice's RESERVED slot: VALID as judged, CORRUPT when a resident
block's count does not cover the slot, and with as many samples as a short ring block has; ABSENT and CORRUPT are counted, with a CONCEAL
event unless one was reported. The voice re-judges its state and may request, the port is released and the arbiter decides.
A completion whose request was released is discarded. The model's own: one with no voice read in flight leaves the state (assumption log 3), the
samples a short ring block does not have are taken back from the assigned count (log 16), a slot left with no sample to play is EMPTY at once (log
29), the fields and numbers of CONCEAL's detail (logs 12, 13), and the order of the completion, the release and the decision (log 19). -/
def Obligations.FetchesFillSlots : Prop :=
  (∀ (s : State) (v : Fin 32) (r : FetchReq), s.dev.smc.port = some (.fetch v r) →
    let b := readBlock s.mem r.addr
    ((s.dev.voice v).req = .granted r →
      exec .fetchComplete s = .next (s.setDev (((s.dev.onVoice v (fun x y =>
        y.completed x ((s.dev.ntu.settings[srcVoice v]).kinds.getLsbD 5) r b)).setSmc { s.dev.smc with port := none }).grant))) ∧
    ((s.dev.voice v).req ≠ .granted r →
      exec .fetchComplete s = .next (s.setDev ((s.dev.setSmc { s.dev.smc with port := none }).grant)))) ∧
  (∀ s : State, (∀ v r, s.dev.smc.port ≠ some (.fetch v r)) → exec .fetchComplete s = .next s) ∧
  (∀ (x : Ctx) (enabled : Bool) (r : FetchReq) (b : Block) (v : Voice) (pre post : List Slot) (u : Slot),
    v.slots = pre ++ u :: post → u.status = none → (∀ w ∈ pre ++ post, w.status ≠ none ∧ w.played < w.count) →
    let judged := b.judge r.opening r.block
    let st := if judged = .valid ∧ r.ring = false ∧ b.count < u.first + u.count then .corrupt else judged
    let n := if r.ring = true ∧ st = .valid then min u.count (b.count - u.first) else u.count
    let filled : Slot := { u with
      status := some st, count := n, samples := if st = .valid then expandSamples r.format b.payload u.first n else [] }
    let w := (v.fill x enabled r b).1
    w.slots = (if u.played < n then pre ++ filled :: post else pre ++ post) ∧
    w.assigned = (if v.cursor.cue = some u.cue then v.assigned - (u.count - n) else v.assigned) ∧
    w.req = .none ∧ w.state = v.state ∧ w.cues = v.cues ∧ w.cursor = v.cursor ∧
    w.absentCount = (if st = .absent then min 65535 (v.absentCount + 1) else v.absentCount) ∧
    w.corruptCount = (if st = .corrupt then min 65535 (v.corruptCount + 1) else v.corruptCount) ∧
    w.concealReported = (v.concealReported || (decide (st ≠ .valid) && enabled)) ∧
    (st = .valid ∨ v.concealReported = true → (v.fill x enabled r b).2 = []) ∧
    (∀ c, st ≠ .valid → v.concealReported = false → v.cues[u.cue]? = some c → (v.fill x enabled r b).2 =
      [{ source := x.src, kind := 5, detail := [[leBytes 2 u.label.toNat], [leBytes 1 c.take.val], [leBytes 4 u.block.toNat],
        [[if st = .absent then 1#8 else 2#8]], [leBytes 2 w.absentCount ++ leBytes 2 w.corruptCount]] }]) ∧
    v.completed x enabled r b = ((w.proceed x).1, (v.fill x enabled r b).2 ++ (w.proceed x).2))

/-- R132, R135 to R137, R140, R144, R145: the free intake judges the packet at the head of the sample queue: one of no stream, of the wrong
format or count, beyond a resident take's capacity or more than the capacity behind a ring's w leaves the queue, counted and reported; every
other waits with a write requested, under the place it was judged for. The arbiter then decides. The model's own: with an intake not free, an
empty queue or a part not ACTIVE nothing is judged (assumption log 3), and format and count are one field of FORMAT's detail (log 12). -/
def Obligations.IntakeJudgesPackets : Prop :=
  ∀ s : State,
    let d := s.dev
    let left := fun e : Device => exec .intakeJudgement s = .next (s.setDev e.grant)
    (d.siu.stage ≠ .idle ∨ d.bli.sampleQ = [] ∨ d.pwc.power ≠ .active → left d) ∧
    (∀ (p : SamplePkt) (rest : List SamplePkt), d.siu.stage = .idle → d.bli.sampleQ = p :: rest → d.pwc.power = .active →
      let popped := d.setBli { d.bli with
        sampleQ := rest, flow := if d.bli.flow = .hold ∧ rest.length ≤ 4 then .release else d.bli.flow }
      let head := [[leBytes 2 p.tag.toNat], [leBytes 4 p.seq.toNat]]
      let dropped := fun (e : StreamEntry) (kind : Nat) (more : List Field) =>
        left ((popped.setSiu { d.siu with
          entries := d.siu.entries.map (fun x => if x.tag = e.tag then { x with dropped := min 4294967295 (x.dropped + 1) } else x) }).post
            { source := 4, kind := kind, detail := head ++ more })
      ((∀ x ∈ d.siu.entries, x.tag ≠ p.tag) →
        left ((popped.setSiu { d.siu with unrouted := min 4294967295 (d.siu.unrouted + 1) }).post
          { source := 4, kind := 0, detail := head ++ [[leBytes 6 d.stu.time]] })) ∧
      (∀ e : StreamEntry, d.siu.entry p.tag = some e →
        let t := d.take e.take
        let accepted := fun placing => left (d.setSiu { d.siu with
          stage := .judged { packet := p, take := e.take, opening := t.opening, addr := t.blockAddress p.seq, placing := placing,
                             stands := true } })
        let good := p.format = t.format ∧ 1 ≤ p.count ∧ p.count ≤ t.format.spb ∧ (p.last = true ∨ p.count = t.format.spb)
        (¬ good → dropped e 1 [[leBytes 1 e.take.val], [leBytes 1 p.format.code ++ leBytes 2 p.count], [leBytes 1 t.format.code]]) ∧
        (good → t.kind = .resident → t.segments.length * 32768 ≤ p.seq.toNat →
          dropped e 2 [[leBytes 1 e.take.val], [leBytes 3 (t.segments.length * 32768)]]) ∧
        (good → t.kind = .resident → p.seq.toNat < t.segments.length * 32768 → accepted .resident) ∧
        (good → t.kind = .ring → t.ring = none → accepted .first) ∧
        (∀ r, good → t.kind = .ring → t.ring = some r →
          (0 ≤ (p.seq - r.w).toInt → accepted (.ahead (p.seq - r.w).toInt.toNat)) ∧
          ((p.seq - r.w).toInt < 0 → (r.w - p.seq).toNat ≤ t.segments.length * 32768 → accepted .late) ∧
          ((p.seq - r.w).toInt < 0 → t.segments.length * 32768 < (r.w - p.seq).toNat →
            dropped e 3 [[leBytes 1 e.take.val], [leBytes 4 r.w.toNat]]))))

/-- R120, R121, R122, R138, R139, R141: a completed intake write stands in the store. Its judgement in hand is counted in the stream's entry, and
a take still open under the judged opening records it: a resident one its block, and for the highest block the count; a ring its first block
and w, with SEQ_GAP for a gap, and its readers go on. A LAST packet then closes or ends the take. The port is released and the arbiter
decides. A write whose judgement a reset has taken changes the store alone. The intake judges its next packet in a step of its own (assumption log
35).
R121, R122, R129, R134, R145: SEQ_GAP gives the tag, the take, w before, the block number and how far w moves. A take closed or ended, by LAST
or by a control, has its length fixed, loses its stream and posts CLOSED or ENDED with that cause. Fields and numbers of a detail or a result:
assumption logs 12, 13. -/
def Obligations.IntakeWritesComplete : Prop :=
  (∀ (s : State) (a : Nat) (image : BlockImage), s.dev.smc.port = some (.intake a image) →
    let m := memStore s.mem a (imageBytes image)
    let left := fun e : Device =>
      exec .intakeWriteComplete s = .next ((s.setDev ((e.setSmc { e.smc with port := none }).grant)).setMem m)
    ((∀ j, s.dev.siu.stage ≠ .writing j) → left s.dev) ∧
    (∀ j, s.dev.siu.stage = .writing j →
      let t := s.dev.take j.take
      let openStill := t.opening = j.opening ∧ (t.state = .filling ∨ t.state = .live)
      let counted := fun (stands : Bool) (e : Device) => e.setSiu { e.siu with
        stage := .idle
        entries := if stands then
            s.dev.siu.entries.map (fun x => if x.tag = j.packet.tag then { x with accepted := min 4294967295 (x.accepted + 1) } else x)
          else s.dev.siu.entries }
      (¬ openStill → left (counted j.stands s.dev)) ∧
      (openStill → t.kind = .resident →
        let x := { t with
          written := insertBlock j.packet.seq.toNat t.written
          lastCount := (match t.written.getLast? with
            | none => j.packet.count
            | some h => if h ≤ j.packet.seq.toNat then j.packet.count else t.lastCount) }
        let e := counted j.stands (s.dev.setTake j.take x)
        left (if j.packet.last = true then e.closeResident j.take .last else e)) ∧
      (openStill → t.kind = .ring →
        let after : RingState := match t.ring, j.placing with
          | none, _ => ⟨j.packet.seq, j.packet.seq + 1⟩
          | some r, .late => r
          | some r, _ => { r with w := j.packet.seq + 1 }
        let gap := match t.ring, j.placing with
          | some r, .ahead n => if n = 0 then [] else [evSeqGap j r.w n]
          | _, _ => []
        let e := counted j.stands (((s.dev.setTake j.take { t with ring := some after }).postAll gap).onVoices
          (fun c v => v.ringWritten c j.take))
        left (if j.packet.last = true then e.endRing j.take .last else e)))) ∧
  ((∀ (j : Judged) (w : BlockNo) (n : Nat), evSeqGap j w n = { source := 4, kind := 4, detail :=
    [[leBytes 2 j.packet.tag.toNat], [leBytes 1 j.take.val], [leBytes 4 w.toNat], [leBytes 4 j.packet.seq.toNat], [leBytes 4 n]] }) ∧
  (∀ (d : Device) (t : Fin 64) (cause : CloseCause), d.StreamsAgree → d.siu.stage = .idle →
    let x := d.take t
    let by' := match cause with
      | .control => 0#8
      | .last => 1#8
    let n := match x.written.getLast? with
      | some h => h + 1
      | none => 0
    let length := if n = 0 then 0 else (n - 1) * x.format.spb + x.lastCount
    let holes := n - x.written.length
    let gone := d.setSiu (d.siu.withoutStream x.tag)
    d.closeResident t cause = (gone.setTake t
        { x with state := .ready, blockCount := n, length := length, holes := holes, written := [], lastCount := 0, tag := none }).post
      { source := 5, kind := 0, detail :=
        [[leBytes 1 t.val], [leBytes 3 x.opening], [[by']], [leBytes 3 n], [leBytes 4 length], [leBytes 3 holes]] } ∧
    d.endRing t cause = ((gone.setTake t { x with state := .ended, tag := none }).post
      { source := 5, kind := 1, detail := [[leBytes 1 t.val], [leBytes 3 x.opening], [[by']], [match x.ring with
        | some r => 0#8 :: (leBytes 4 r.first.toNat ++ leBytes 4 r.w.toNat)
        | none => [1#8]]] }).onVoices (fun c v => v.ringEnded c t)))

/-- R126, R127, R128: a completed verify read is judged and counted, the first bad block kept; the next block of the range is requested, and
after the last the verify is DONE and posts VERIFY_DONE. A completed peek read is answered with the block as it stands in the store, and the
Control Unit is FREE. A completion nobody waits for is discarded. The model's own: with no such read in flight a completion leaves the state
(assumption log 3), the Control Unit takes its next control after the arbiter's decision (log 19), and the flags of the peek reply have the bytes 1
and 0 (log 32).
R129: VERIFY_DONE gives the take, the result, the range, the counts and the first bad block or none (the model's fields, numbers and range:
assumption logs 12, 13, 27). -/
def Obligations.ReadsComplete : Prop :=
  (∀ s : State,
    let d := s.dev
    let freed := fun e : Device => (e.setSmc { e.smc with port := none }).grant
    ((∀ t a, d.smc.port ≠ some (.verify t a)) → exec .verifyReadComplete s = .next s) ∧
    ((∀ a, d.smc.port ≠ some (.peek a)) → exec .peekReadComplete s = .next s) ∧
    (∀ t a, d.smc.port = some (.verify t a) → d.tks.verifyStage ≠ .granted →
      exec .verifyReadComplete s = .next (s.setDev (freed d))) ∧
    (∀ t a, d.smc.port = some (.verify t a) → d.tks.verifyStage = .granted →
      let u := d.tks.verifyTake
      let r := (d.take u).verify
      let st := (readBlock s.mem a).judge r.opening r.next
      let r' : Verify := { r with
        checked := min 4294967295 (r.checked + 1)
        absent := if st = .absent then min 4294967295 (r.absent + 1) else r.absent
        corrupt := if st = .corrupt then min 4294967295 (r.corrupt + 1) else r.corrupt
        firstBad := if r.firstBad = none ∧ st ≠ .valid then some (r.next, st) else r.firstBad
        next := r.next + 1 }
      let after := fun (x : Verify) (stage : Stage) =>
        d.setTks { d.tks with takes := d.tks.takes.set u { d.take u with verify := x }, verifyStage := stage }
      (r'.checked < r.size → exec .verifyReadComplete s = .next (s.setDev (freed (after r' .waiting)))) ∧
      (r.size ≤ r'.checked → exec .verifyReadComplete s = .next (s.setDev
        (freed ((after { r' with state := .done } .idle).post (evVerifyDone u { r' with state := .done } .done)))))) ∧
    (∀ a, d.smc.port = some (.peek a) → (∀ p, d.ctu ≠ .holding p .granted) →
      exec .peekReadComplete s = .next (s.setDev (freed d).runCtu)) ∧
    (∀ a p, d.smc.port = some (.peek a) → d.ctu = .holding p .granted →
      let b := readBlock s.mem a
      let reply : Reply := { tag := p.tag, code := 0x14#8, status := .ok, body := resultChain
                              [[leBytes 3 b.opening], [leBytes 4 b.number.toNat], [leBytes 2 b.count], [leBytes 1 b.format], [[if b.last then 1#8 else 0#8]],
          [leBytes 2 b.check.toNat], [[if b.opening = p.opening ∧ b.number = p.block then 1#8 else 0#8]],
          [[if b.checkRight then 1#8 else 0#8]], [b.payload]] }
      exec .peekReadComplete s = .next (s.setDev
        (freed ((d.setBli { d.bli with replyQ := d.bli.replyQ ++ [reply] }).setCtu .free)).runCtu))) ∧
  (∀ (t : Fin 64) (r : Verify) (how : VerifyEnd),
    let result := match how with
      | .done => 0#8
      | .aborted => 1#8
    let bad := match r.firstBad with
      | some (b, st) => 0#8 :: (leBytes 4 b.toNat ++ match st with
        | .valid => [0#8]
        | .absent => [1#8]
        | .corrupt => [2#8])
      | none => [1#8]
    evVerifyDone t r how = { source := 5, kind := 2, detail :=
      [[leBytes 1 t.val], [[result]], [leBytes 4 r.first.toNat ++ leBytes 4 (r.first + BitVec.ofNat 32 r.size).toNat],
        [leBytes 4 r.checked ++ leBytes 4 r.absent ++ leBytes 4 r.corrupt], [bad]] })

/-- R154 to R157, R160: a completed step of the self-test engine. It first makes the write it owes; its words of the sweep or element, the MARCH
elements 3 and 4 of a round in descending order, are compared with what they expect and written with what they give, and the engine goes on. The first
word that differs marks its segment and fills an unlocked failure record; unless the mode is HALT and the record was unlocked, the step goes on
to its end. In that case it stops there, the write of that word still owed if it has one, and posts SELFTEST_HALT. Misread words are the
command's operand (assumption log 11), and the mismatch flag is kept in every pass (log 31). The model's own too: which words a step covers after
CONTINUE, the rest of its block, or none when it owes a write at a block's end (log 26), and the fields of SELFTEST_HALT (log 12).
R151, R154, R156, R158: where the engine stands once a sweep's words are done up to a place. It goes on in the sweep, or to the next sweep or
element. At the end of a segment's work the first pass grades it FAILED after a mismatch and GOOD otherwise, and the next segment follows. After
the last segment the pass is done: a running LOOP begins its next pass, a STOPPING one and every other mode end the run, which clears the
segments written. That the number of passes done saturates is the model's choice (assumption log 42). -/
def Obligations.SelftestGoesOn : Prop :=
  (∀ (s : State) (upsets : List (Nat × BitVec 64)),
    s.dev.smc.port = some (.selftest s.dev.smc.engine.pattern s.dev.smc.engine.pass s.dev.smc.engine.pos) →
    let e := s.dev.smc.engine
    let from' := e.pos.word
    e.stage = .granted → e.state = .running ∨ e.state = .stopping → from' ≤ 4194304 → (e.pos.owed = true → 1 ≤ from') →
    let n := if e.pos.owed = true ∧ from' % 128 = 0 then 0 else min (128 - from' % 128) (4194304 - from')
    let word := fun k : Nat =>
      if e.pattern = .march ∧ (e.pos.sweep % 6 = 3 ∨ e.pos.sweep % 6 = 4) then 4194303 - k else k
    let index := fun k : Nat => e.pos.seg.val * 4194304 + word k
    let b0 := if e.pos.sweep < 6 then 0x0000000000000000#64 else 0x5555555555555555#64
    let expected := fun k : Nat => match e.pattern with
      | .pseudo => if e.pos.sweep = 0 then none else some (pseudoWord (index k) e.pass)
      | .march => if e.pos.sweep % 6 = 0 then none else some (if e.pos.sweep % 6 = 2 ∨ e.pos.sweep % 6 = 4 then ~~~b0 else b0)
    let written := fun k : Nat => match e.pattern with
      | .pseudo => if e.pos.sweep = 0 then some (pseudoWord (index k) e.pass) else none
      | .march =>
        if e.pos.sweep % 6 = 5 then none else some (if e.pos.sweep % 6 = 1 ∨ e.pos.sweep % 6 = 3 then ~~~b0 else b0)
    let seen := fun k : Nat => memWord s.mem (8 * index k) ^^^ upsetAt upsets (k - from')
    let right := fun k : Nat => ∀ x, expected k = some x → seen k = x
    let makes := fun (m : List Host.Cell) (to' : Nat) =>
      let done := fun k : Nat => (from' ≤ k ∧ k < to') ∨ (e.pos.owed = true ∧ k + 1 = from')
      (∀ k x, done k → written k = some x → memWord m (8 * index k) = x) ∧
      (∀ a, (∀ k, done k → written k ≠ none → a < 8 * index k ∨ 8 * index k + 8 ≤ a) → memRead m a = memRead s.mem a)
    let left := fun (d : Device) (to' : Nat) => ∃ m, makes m to' ∧
      exec (.selftestStepComplete upsets) s = .next ((s.setDev ((d.setSmc { d.smc with port := none }).grant)).setMem m)
    ((∀ k, from' ≤ k → k < from' + n → right k) → left (s.dev.advanceTest (from' + n)) (from' + n)) ∧
    (∀ k x, from' ≤ k → k < from' + n → (∀ i, from' ≤ i → i < k → right i) → expected k = some x → seen k ≠ x →
      let f : Failure := { seg := e.pos.seg, offset := 8 * word k, lanes := laneMask x (seen k), expected := x, observed := seen k,
                           pass := e.pass }
      let marked := { s.dev.smc with
        segs := if e.pass ≠ 1 ∧ s.dev.smc.segs[e.pos.seg] = SegState.good then s.dev.smc.segs.set e.pos.seg .failed else s.dev.smc.segs
        engine := { e with mismatch := true, failure := some (e.failure.getD f) } }
      (e.mode ≠ .halt ∨ e.failure ≠ none → left ((s.dev.setSmc marked).advanceTest (from' + n)) (from' + n)) ∧
      (e.mode = .halt → e.failure = none →
        left ((s.dev.setSmc { marked with engine := { marked.engine with
          state := .halted, stage := .idle, pos := { e.pos with word := k + 1, owed := (written k).isSome } } }).post
            { source := 1, kind := 1,
              detail := [[leBytes 1 f.seg.val], [leBytes 4 f.offset], [leBytes 1 f.lanes], [leBytes 8 f.expected.toNat],
                [leBytes 8 f.observed.toNat], [leBytes 4 f.pass]] }) k))) ∧
  (∀ (d : Device) (word : Nat),
    let c := d.smc
    let e := c.engine
    let last := match e.pattern with
      | .pseudo => 1
      | .march => 11
    let graded := if e.pass = 1 then c.segs.set e.pos.seg (if e.mismatch then .failed else .good) else c.segs
    let passed := min 4294967295 (e.passesDone + 1)
    let ends := fun cause : EndCause => d.advanceTest word = d.setSmc { c with
      segs := graded
      engine := { e with
        mismatch := false, passesDone := passed, state := .clearing, stage := .waiting, endCause := cause, clearing := e.written,
        clearBlock := 0 } }
    (word < 4194304 → d.advanceTest word =
      d.setSmc { c with engine := { e with pos := { e.pos with word := word, owed := false }, stage := .waiting } }) ∧
    (4194304 ≤ word → e.pos.sweep < last → d.advanceTest word =
      d.setSmc { c with engine := { e with pos := { e.pos with sweep := e.pos.sweep + 1, word := 0, owed := false }, stage := .waiting } }) ∧
    (4194304 ≤ word → last ≤ e.pos.sweep →
      (∀ g : Fin 64, g.val = e.pos.seg.val + 1 → d.advanceTest word = d.setSmc { c with
        segs := graded
        engine := { e with mismatch := false, pos := { seg := g, sweep := 0, word := 0, owed := false }, stage := .waiting } }) ∧
      (e.pos.seg = 63 →
        (e.mode = .loop → e.state = .running → d.advanceTest word = d.setSmc { c with
          segs := graded
          engine := { e with
            mismatch := false, passesDone := passed, pass := min 4294967295 (e.pass + 1),
            pos := { seg := 0, sweep := 0, word := 0, owed := false }, stage := .waiting } }) ∧
        (e.mode = .loop → e.state ≠ .running → e.written ≠ [] → ends .stoppedAfterPass) ∧
        (e.mode ≠ .loop → e.written ≠ [] → ends .complete))))

/-- R154 to R156, R163: a completed step of PSEUDO writes its 128 words in the first sweep, and in the second finds every word as it was written
or marks the segment, fills an unlocked failure record with the first word that differs and, in HALT, stops at it and posts SELFTEST_HALT.
Bytes outside the step's words keep their values. The model's own: with no step in flight the state stays (assumption log 3), misread words are the
command's operand (log 11), and the mismatch flag is set in every pass (log 31).
R158, R160: a self-test step in flight whose run has ended or was abandoned makes all its writes, the owed one among them, and no comparison:
the engine, the segments and the failure record stay. Which words it covers: assumption log 26.
R158: a completed clearing write leaves its block of the store at zero; the next block of the segment, or the next written segment's first
block, is requested, and after the last the engine is IDLE with its end summary recorded and SELFTEST_DONE posted. The model's own: with no clearing write in flight the
state stays (assumption log 3), the segment counts are one field of the detail (log 12), and a locked record has the flag byte 1 (log 32). -/
def Obligations.SelftestAndClearingComplete : Prop :=
  ((∀ (s : State) (upsets : List (Nat × BitVec 64)), (∀ pt p pos, s.dev.smc.port ≠ some (.selftest pt p pos)) →
    exec (.selftestStepComplete upsets) s = .next s) ∧
  (∀ (s : State) (upsets : List (Nat × BitVec 64)), s.dev.smc.port =
      some (.selftest s.dev.smc.engine.pattern s.dev.smc.engine.pass s.dev.smc.engine.pos) →
    let e := s.dev.smc.engine
    let first := e.pos.seg.val * 4194304 + e.pos.word
    e.stage = .granted → e.state = .running ∨ e.state = .stopping → e.pattern = .pseudo → e.pos.owed = false →
    e.pos.word % 128 = 0 → e.pos.word + 128 < 4194304 →
    let freed := fun x : Smc => (s.dev.setSmc { x with port := none }).grant
    let onward := { s.dev.smc with engine := { e with pos := { e.pos with word := e.pos.word + 128 }, stage := .waiting } }
    (e.pos.sweep = 0 → ∃ m,
      exec (.selftestStepComplete upsets) s = .next ((s.setDev (freed onward)).setMem m) ∧
      (∀ i < 128, memWord m (8 * (first + i)) = pseudoWord (first + i) e.pass) ∧
      (∀ a, a < 8 * first ∨ 8 * (first + 128) ≤ a → memRead m a = memRead s.mem a)) ∧
    (e.pos.sweep = 1 →
      (∀ i < 128, memWord s.mem (8 * (first + i)) ^^^ upsetAt upsets i = pseudoWord (first + i) e.pass) →
      exec (.selftestStepComplete upsets) s = .next (s.setDev (freed onward))) ∧
    (∀ k < 128, e.pos.sweep = 1 → e.mode = .halt → e.failure = none →
      (∀ i < k, memWord s.mem (8 * (first + i)) ^^^ upsetAt upsets i = pseudoWord (first + i) e.pass) →
      let seen := memWord s.mem (8 * (first + k)) ^^^ upsetAt upsets k
      let wanted := pseudoWord (first + k) e.pass
      seen ≠ wanted →
      let f : Failure := { seg := e.pos.seg, offset := 8 * (e.pos.word + k), lanes := laneMask wanted seen, expected := wanted,
                           observed := seen, pass := e.pass }
      let halted := { s.dev.smc with
        segs := if e.pass ≠ 1 ∧ s.dev.smc.segs[e.pos.seg] = SegState.good then s.dev.smc.segs.set e.pos.seg .failed else s.dev.smc.segs
        engine := { e with
          state := .halted, stage := .idle, pos := { e.pos with word := e.pos.word + k + 1 }, mismatch := true, failure := some f } }
      exec (.selftestStepComplete upsets) s = .next (s.setDev
        (((s.dev.setSmc { halted with port := none }).post
          { source := 1, kind := 1,
            detail := [[leBytes 1 f.seg.val], [leBytes 4 f.offset], [leBytes 1 f.lanes], [leBytes 8 f.expected.toNat],
              [leBytes 8 f.observed.toNat], [leBytes 4 f.pass]] }).grant))))) ∧
  (∀ (s : State) (upsets : List (Nat × BitVec 64)) (pattern : Pattern) (pass : Nat) (pos : TestPos),
    s.dev.smc.port = some (.selftest pattern pass pos) →
    s.dev.smc.engine.stage ≠ .granted ∨ (s.dev.smc.engine.state ≠ .running ∧ s.dev.smc.engine.state ≠ .stopping) →
    pos.word ≤ 4194304 → (pos.owed = true → 1 ≤ pos.word) →
    let n := if pos.owed = true ∧ pos.word % 128 = 0 then 0 else min (128 - pos.word % 128) (4194304 - pos.word)
    let index := fun k : Nat => pos.seg.val * 4194304 +
      if pattern = .march ∧ (pos.sweep % 6 = 3 ∨ pos.sweep % 6 = 4) then 4194303 - k else k
    let b0 := if pos.sweep < 6 then 0x0000000000000000#64 else 0x5555555555555555#64
    let written := fun k : Nat => match pattern with
      | .pseudo => if pos.sweep = 0 then some (pseudoWord (index k) pass) else none
      | .march => if pos.sweep % 6 = 5 then none else some (if pos.sweep % 6 = 1 ∨ pos.sweep % 6 = 3 then ~~~b0 else b0)
    let done := fun k : Nat => (pos.word ≤ k ∧ k < pos.word + n) ∨ (pos.owed = true ∧ k + 1 = pos.word)
    ∃ m, exec (.selftestStepComplete upsets) s =
        .next ((s.setDev ((s.dev.setSmc { s.dev.smc with port := none }).grant)).setMem m) ∧
      (∀ k x, done k → written k = some x → memWord m (8 * index k) = x) ∧
      (∀ a, (∀ k, done k → written k ≠ none → a < 8 * index k ∨ 8 * index k + 8 ≤ a) → memRead m a = memRead s.mem a)) ∧
  ((∀ s : State, (∀ a, s.dev.smc.port ≠ some (.clearing a)) → exec .clearingWriteComplete s = .next s) ∧
  (∀ (s : State) (a : Nat), s.dev.smc.port = some (.clearing a) →
    let e := s.dev.smc.engine
    let m := memStore s.mem a (List.replicate 1024 0#8)
    let left := fun x : Device => exec .clearingWriteComplete s = .next ((s.setDev ((x.setSmc { x.smc with port := none }).grant)).setMem m)
    (∀ x, memRead m x = if a ≤ x ∧ x < a + 1024 then 0 else memRead s.mem x) ∧
    (e.state ≠ .clearing ∨ e.stage ≠ .granted → left s.dev) ∧
    (e.state = .clearing → e.stage = .granted →
      (e.clearBlock + 1 < 32768 →
        left (s.dev.setSmc { s.dev.smc with engine := { e with clearBlock := e.clearBlock + 1, stage := .waiting } })) ∧
      (∀ g h rest, 32768 ≤ e.clearBlock + 1 → e.clearing = g :: h :: rest →
        left (s.dev.setSmc { s.dev.smc with engine := { e with clearing := h :: rest, clearBlock := 0, stage := .waiting } })) ∧
      (∀ g, 32768 ≤ e.clearBlock + 1 → e.clearing = [g] →
        let count := fun k : SegState => (all64.filter (fun i => decide (s.dev.smc.segs[i] = k))).length
        let x : EndSummary :=
          { cause := e.endCause, mode := e.mode, pattern := e.pattern, passes := e.passesDone, good := count .good,
            failed := count .failed, untested := count .untested, locked := e.failure.isSome }
        left ((s.dev.setSmc { s.dev.smc with engine := { e with state := .idle, stage := .idle, summary := some x } }).post
          { source := 1, kind := 0,
            detail := [[leBytes 1 x.cause.code], [leBytes 1 x.mode.code], [leBytes 1 x.pattern.code], [leBytes 4 x.passes],
              [leBytes 1 x.good ++ leBytes 1 x.failed ++ leBytes 1 x.untested], [[if x.locked then 1#8 else 0#8]]] })))))

/-! ### Power and resets -/

/-- R150, R188, R189: POWER STANDBY makes the power state STANDBY at once, with the refresh debt 0 and the interval timer stopped; POWER SLEEP
closes the Control Unit; POWER QUIET sets the quiet time and reloads the timer. A scene not STOPPED gives STATE, a RUNNING verify or an
engine not IDLE gives BUSY, for STANDBY and SLEEP.
R175: RESET is accepted in every scene state and closes the Control Unit; its REPLY OK joins the reply queue and nothing else changes
yet.
R149, R163: an interval that elapses while the timer runs raises the refresh debt by one, and at a debt of 8 posts REFRESH_LATE instead, but
under RSTN (assumption log 21); a refresh that completes releases the port. Each is followed by a grant decision. With the timer stopped, or no
refresh in flight, each leaves the state (log 3). Fields and numbers of a detail or a result: assumption logs 12, 13.
R149, R150, R189, R190: the end of a WAKING part's self-refresh exit makes it ACTIVE with the timer running at a debt of 0, opens a Control
Unit closed by POWER SLEEP, posts WOKE with the cause and the state left, and resumes grants and controls; the quiet timer's expiry makes
the part STANDBY; the end of the re-initialisation lets the arbiter grant and, in ACTIVE, starts the interval timer. The model's own: elsewhere each leaves
the state (assumption log 3), the power state's number in WOKE (log 13), and a re-initialisation that ends outside ACTIVE or waits for RSTN (logs
22, 21). -/
def Obligations.PowerAndRefreshMove : Prop :=
  (∀ (s : State) (tag quiet : BitVec 16) (rest : List Byte) (ts : List Tuple),
    let q := leBytes 2 quiet.toNat
    let busy := (∃ t : Fin 64, (s.dev.take t).verify.state = .running) ∨ s.dev.smc.engine.state ≠ .idle
    (s.Takes (powerBody 0 quiet rest) ts → argument 0x58 ts = some (0#8 :: q) →
      (s.dev.stu.scene ≠ .stopped →
        exec (.powerStandby tag quiet rest) s = .next (s.setDev (s.dev.answered tag 0x48#8 .state []))) ∧
      (s.dev.stu.scene = .stopped → busy →
        exec (.powerStandby tag quiet rest) s = .next (s.setDev (s.dev.answered tag 0x48#8 .busy []))) ∧
      (s.dev.stu.scene = .stopped → ¬ busy →
        exec (.powerStandby tag quiet rest) s = .next (s.setDev
          (((s.dev.setSmc { s.dev.smc with debt := 0, timerOn := false }).setPwc
            { s.dev.pwc with power := .standby }).answered tag 0x48#8 .ok [])))) ∧
    (s.Takes (powerBody 1 quiet rest) ts → argument 0x58 ts = some (1#8 :: q) →
      (s.dev.stu.scene ≠ .stopped →
        exec (.powerSleep tag quiet rest) s = .next (s.setDev (s.dev.answered tag 0x48#8 .state []))) ∧
      (s.dev.stu.scene = .stopped → busy →
        exec (.powerSleep tag quiet rest) s = .next (s.setDev (s.dev.answered tag 0x48#8 .busy []))) ∧
      (s.dev.stu.scene = .stopped → ¬ busy →
        exec (.powerSleep tag quiet rest) s = .next (s.setDev
          ((s.dev.setCtu (.closed .sleep false)).answered tag 0x48#8 .ok [])))) ∧
    (s.Takes (powerBody 2 quiet rest) ts → argument 0x58 ts = some (2#8 :: q) →
      exec (.powerQuiet tag quiet rest) s = .next (s.setDev
        ((s.dev.setPwc { s.dev.pwc with quietTime := quiet.toNat, quietLeft := quiet.toNat }).answered tag 0x48#8 .ok [[q]])))) ∧
  (∀ (s : State) (tag : BitVec 16) (body : List Byte) (ts : List Tuple), s.Takes body ts →
    exec (.reset tag body) s = .next (s.setDev ((s.dev.setCtu (.closed .reset false)).answered tag 0x4F#8 .ok []))) ∧
  (∀ s : State,
    let c := s.dev.smc
    (c.timerOn = false → exec .refreshInterval s = .next s) ∧
    (c.timerOn = true → c.debt < 8 → exec .refreshInterval s = .next (s.setDev (s.dev.setSmc { c with debt := c.debt + 1 }).grant)) ∧
    (c.timerOn = true → c.debt = 8 → s.dev.pwc.rstn = true → exec .refreshInterval s = .next (s.setDev s.dev.grant)) ∧
    (c.timerOn = true → c.debt = 8 → s.dev.pwc.rstn = false → exec .refreshInterval s = .next (s.setDev
      (s.dev.post { source := 1, kind := 2, detail := [[leBytes 1 c.rate], [leBytes 6 s.dev.stu.time]] }).grant)) ∧
    (c.port ≠ some .refresh → exec .refreshComplete s = .next s) ∧
    (c.port = some .refresh → exec .refreshComplete s = .next (s.setDev (s.dev.setSmc { c with port := none }).grant))) ∧
  (∀ s : State,
    let d := s.dev
    let runs := d.pwc.quietTime ≠ 0 ∧ d.pwc.power = .active ∧ d.stu.scene = .stopped ∧ (∀ v : Fin 32, (d.voice v).state = .idle) ∧
      (∀ t : Fin 64, (d.take t).verify.state ≠ .running) ∧ d.smc.engine.state = .idle ∧ (∀ why sent, d.ctu ≠ .closed why sent) ∧
      d.pwc.rstn = false
    (d.pwc.power ≠ .waking ∨ d.pwc.rstn = true → exec .selfRefreshExitEnd s = .next s) ∧
    (∀ cause before, d.pwc.power = .waking → d.pwc.rstn = false → d.pwc.wakeCause = some cause → d.pwc.left = some before →
      let woke : Event := { source := 3, kind := 0, detail :=
        [[match cause with
          | .link => [0#8]
          | .line l => 1#8 :: leBytes 1 l.val
          | .reset => [2#8]], [leBytes 1 before.code], [leBytes 6 d.stu.time]] }
      let e := ((d.setPwc { d.pwc with power := .active }).setSmc { d.smc with timerOn := true, debt := 0 }).setCtu
        (match d.ctu with
          | .closed .sleep _ => .free
          | c => c)
      exec .selfRefreshExitEnd s = .next (s.setDev (e.post woke).grant.runCtu)) ∧
    (¬ runs → exec .quietTimerExpiry s = .next s) ∧
    (runs → exec .quietTimerExpiry s = .next (s.setDev ((d.setSmc { d.smc with debt := 0, timerOn := false }).setPwc
        { d.pwc with power := .standby, quietLeft := d.pwc.quietTime }))) ∧
    (d.smc.reinit = false ∨ d.pwc.rstn = true → exec .dramReinitEnd s = .next s) ∧
    (d.smc.reinit = true → d.pwc.rstn = false → exec .dramReinitEnd s = .next (s.setDev
      (d.setSmc { d.smc with reinit := false, timerOn := decide (d.pwc.power = .active) }).grant)))

/-- R19, R20, R49, R91, R96, R165, R176, R183, R186: what every reset, and RSTN while asserted, leaves of the scene, the voices, the ports, the
lines, the streams, the link, the Control Unit and the notices, whose queue is empty. The model's own choices are what RSTN sets while
asserted (assumption log 21), the play position, assigned count and last sent packet (log 25), the kept bench levels (log 10), the intake IDLE
with a write in flight (log 36), and a period of SCLK that is no tick outside ACTIVE and under RSTN and keeps the scene so (log 5). The queue of
commands stays.
R117, R127, R131, R147 to R151, R159 to R161, R191: a cold reset frees every take, sets the opening counter to 1, makes every segment
UNTESTED and starts NORMAL PSEUDO with the DRAM to be re-initialised, in ACTIVE. A power-on with RSTN asserted holds the part until the release,
which is then a cold reset whatever FULLN is. A warm reset keeps the store, the openings, the segments,
the refresh rate and the takes, which it unbinds, aborting a verify; it stops the self-test; it stays ACTIVE or goes WAKING with cause RESET.
Each records its cause. The model's own: an empty store after power-on and a cold reset (assumption log 9), what RSTN holds (log 21), a
re-initialisation kept by a warm reset (log 22), and a release of RSTN in every state (log 31). That a cold reset leaves no burst at the store
port is the model's choice (log 43). -/
def Obligations.ResetsLeaveDefaults : Prop :=
  (∀ (s : State) (c : Instr), (c = .powerOn ∨ c = .coldReset ∨ c = .warmReset ∨ c = .rstnAssert ∨
      (c = .resetReplySent ∧ s.dev.ctu = .closed .reset true)) →
    ∃ t, exec c s = .next t ∧ t.pending = s.pending ∧
      t.dev.stu = { scene := .stopped, time := 0, frozen := false, go := none, cueStarted := false, drainedPosted := false, captures := [],
                    overrun := false, markers := [] } ∧
      (∀ v : Fin 32, t.dev.voice v =
        { port := ⟨v.val % 4, by omega⟩, conceal := .zero, timeMode := .slip, primeDepth := 4, resumeDepth := 2, state := .idle, cues := [],
          slots := [], cursor := .cleared, req := .none, assigned := 0, started := false, pass := 1, offset := 0, phase := 0, freq := 0,
          atten := 0, ramp := none, rest := .zero, lastOut := ⟨0, 0⟩, absentCount := 0, corruptCount := 0, concealReported := false,
          starvedTicks := 0 }) ∧
      (∀ p : Fin 4, t.dev.port p =
        { enable := true, headroom := 2, atten := 0, width := .w16, pause := .hold, clip := 0, last := ⟨0, 0⟩ }) ∧
      (∀ l : Fin 8, t.dev.line l =
        { dir := .input, edgeMode := .none, capture := false, wake := false, sleepMode := .release, latch := false, pulse := 0, edges := [],
          bench := (s.dev.line l).bench }) ∧
      t.dev.siu = { entries := [], unrouted := 0, overrun := 0, stage := .idle } ∧
      t.dev.bli = { sampleQ := [], controlQ := [], replyQ := [], flow := .release, lastSymbol := none, sent := none } ∧
      t.dev.ctu = .free ∧ t.dev.ntu.interval = 0 ∧ t.dev.ntu.report = none ∧ (∀ i : Fin 43, t.dev.ntu.queue[i] = none) ∧
      (∀ i : Fin 43, (t.dev.ntu.settings[i]).level = (if i.val < 4 ∨ i.val = 5 then 3 else 0) ∧
        ∀ k, (t.dev.ntu.settings[i]).kinds.getLsbD k = decide ((i.val < 4 ∨ i.val = 5) ∧ k < kindCount i)) ∧
      t.dev.pwc.quietTime = 0 ∧
      (t.dev.pwc.power ≠ .active ∨ t.dev.pwc.rstn = true → ∃ u, exec .sceneTick t = .next u ∧ u.dev.stu = t.dev.stu)) ∧
  ((∀ (s : State) (c : Instr) (cause : ResetCause) (held : Bool),
      ((c = .powerOn ∧ cause = .powerOn ∧ held = s.dev.pwc.rstn) ∨
        (c = .coldReset ∧ cause = (if s.dev.pwc.powerHeld then .powerOn else .resetLineCold) ∧ held = false) ∨
        (c = .warmReset ∧ s.dev.pwc.powerHeld = true ∧ cause = .powerOn ∧ held = false)) →
    ∃ t, exec c s = .next t ∧ t.mem = [] ∧ t.dev.tks.counter = 1 ∧
      (∀ i : Fin 64, t.dev.take i = Take.free
        { state := .none, opening := 0, first := 0, size := 0, next := 0, checked := 0, absent := 0, corrupt := 0, firstBad := none }) ∧
      (∀ i : Fin 64, t.dev.smc.segs[i] = .untested) ∧ t.dev.smc.port = none ∧ t.dev.smc.lastVoice = 31 ∧ t.dev.smc.debt = 0 ∧
      t.dev.smc.rate = 1 ∧ t.dev.smc.timerOn = false ∧ t.dev.smc.reinit = true ∧ t.dev.smc.injection = none ∧
      t.dev.smc.engine.state = .running ∧ t.dev.smc.engine.mode = .normal ∧ t.dev.smc.engine.pattern = .pseudo ∧
      t.dev.smc.engine.pass = 1 ∧ t.dev.smc.engine.pos = { seg := 0, sweep := 0, word := 0, owed := false } ∧
      t.dev.smc.engine.stage = .waiting ∧ t.dev.smc.engine.failure = none ∧ t.dev.smc.engine.summary = none ∧
      t.dev.pwc.power = .active ∧ t.dev.pwc.resetCause = cause ∧ t.dev.pwc.rstn = held ∧ t.dev.pwc.powerHeld = held ∧
      (held = true → exec .dramReinitEnd t = .next t)) ∧
  (∀ (s : State) (c : Instr) (cause : ResetCause), ((c = .warmReset ∧ s.dev.pwc.powerHeld = false ∧ cause = .resetLineWarm) ∨
      (c = .resetReplySent ∧ s.dev.ctu = .closed .reset true ∧ cause = .resetControl)) →
    ∃ t, exec c s = .next t ∧ t.mem = s.mem ∧ t.dev.tks.counter = s.dev.tks.counter ∧
      (∀ i : Fin 64, t.dev.take i = { s.dev.take i with
        tag := none
        verify := if (s.dev.take i).verify.state = .running then { (s.dev.take i).verify with state := .aborted }
          else (s.dev.take i).verify }) ∧
      t.dev.tks.verifyStage = .idle ∧ t.dev.smc.segs = s.dev.smc.segs ∧ t.dev.smc.lastVoice = 31 ∧ t.dev.smc.rate = s.dev.smc.rate ∧
      t.dev.smc.timerOn = s.dev.smc.timerOn ∧ t.dev.smc.reinit = s.dev.smc.reinit ∧ t.dev.smc.injection = none ∧
      t.dev.smc.engine = { s.dev.smc.engine with state := .idle, stage := .idle } ∧
      ((t.dev.smc.port = s.dev.smc.port ∧ t.dev.smc.debt = s.dev.smc.debt) ∨
        (s.dev.smc.port = none ∧ s.dev.pwc.power = .active ∧ s.dev.smc.debt ≠ 0 ∧ t.dev.smc.port = some .refresh ∧
          t.dev.smc.debt = s.dev.smc.debt - 1)) ∧
      t.dev.pwc.resetCause = cause ∧ t.dev.pwc.rstn = false ∧
      (s.dev.pwc.power = .active → t.dev.pwc.power = .active) ∧
      (s.dev.pwc.power ≠ .active → t.dev.pwc.power = .waking ∧ t.dev.pwc.wakeCause = some .reset ∧
        t.dev.pwc.left = some s.dev.pwc.power)))

/-! ### Safe states -/

/-- The machine right after power-on is safe. -/
def Obligations.ResetStateIsSafe : Prop := State.reset.Safe

/-- The store's canonical form, addresses strictly rising and no zero byte listed, is kept by every step. The form is the model's own, and so
is the zero that an unlisted byte reads as (assumption log 9). -/
def Obligations.StoreStaysCanonical : Prop :=
  ∀ s t : State, memWf s.mem = true → step s = .next t → memWf t.mem = true

/-- R165, R185, R186: every step keeps the queues of the link within their capacities, room for the reply that a HOLDING Control Unit owes, and
the flow state in agreement with the sample queue. -/
def Obligations.LinkQueuesStayFit : Prop :=
  ∀ s t : State, s.dev.LinkFits → step s = .next t → t.dev.LinkFits

/-- R2, R14, R102, R105, R149, R150: every step keeps T a 48-bit count, the freeze within a scene that is not STOPPED, the capture list and the
marker table within their capacities, and the refresh debt within 0..8, at 0 outside ACTIVE.
R154, R158, R190: a WAKING part has a recorded cause and the state it left; a CLEARING engine has a segment left to clear, and a run whose step
is granted has written one. -/
def Obligations.SceneAndRefreshStayFit : Prop :=
  ((∀ s t : State, s.dev.SceneFits → step s = .next t → t.dev.SceneFits) ∧
  (∀ s t : State, s.dev.RefreshFits → step s = .next t → t.dev.RefreshFits)) ∧
  ((∀ s t : State, s.dev.WakingHasCause → step s = .next t → t.dev.WakingHasCause) ∧
  (∀ s t : State, s.dev.smc.engine.RunFits → step s = .next t → t.dev.smc.engine.RunFits))

/-- R22, R25, R43: a voice is IDLE exactly when its cue list is empty, whatever the step.
R30, R32, R79, R83: every step keeps each cue list within 16 cues and each attenuation code, ramp target and cue's code within 0..1023. -/
def Obligations.VoiceRegistersStayFit : Prop :=
  (∀ s t : State, s.dev.IdleExactlyWhenEmpty → step s = .next t → t.dev.IdleExactlyWhenEmpty) ∧
  ((∀ s t : State, s.dev.CueListsFit → step s = .next t → t.dev.CueListsFit) ∧
  (∀ s t : State, s.dev.CodesFit → step s = .next t → t.dev.CodesFit))

/-- R32, R123, R131: a take that any cue names is never FREE: no step drops it, and a cold reset empties the lists with the directory. -/
def Obligations.CuedTakesStayHeld : Prop :=
  ∀ s t : State, s.dev.CuedTakesHeld → step s = .next t → t.dev.CuedTakesHeld

/-- R115, R119, R124: no step puts a segment in two takes' lists, nor twice in one. -/
def Obligations.SegmentsStayOwnedOnce : Prop :=
  ∀ s t : State, s.dev.SegmentsOwnedOnce → step s = .next t → t.dev.SegmentsOwnedOnce

/-- R132 to R134: every step keeps the stream table and the take directory in agreement. -/
def Obligations.StreamsStayInAgreement : Prop :=
  ∀ s t : State, s.dev.StreamsAgree → step s = .next t → t.dev.StreamsAgree

/-- R147: after every step, a store port that could serve a waiting request is serving one. -/
def Obligations.StorePortNeverIdles : Prop :=
  ∀ s t : State, s.dev.Settled → step s = .next t → t.dev.Settled
end

