-- ==== Sys2Proof/Laws/State.lean ====
section
/-! SUPPORT. One lemma per field per named update of the device and of the state, and the reads of a line, a voice, a port and a take after
each update of one. -/

namespace Sys2Proof.Machine

/-! ### The update of `bli` -/

@[simp] theorem Device.setBli_bli (d : Device) (x : Bli) : (d.setBli x).bli = x := rfl
@[simp] theorem Device.setBli_ctu (d : Device) (x : Bli) : (d.setBli x).ctu = d.ctu := rfl
@[simp] theorem Device.setBli_stu (d : Device) (x : Bli) : (d.setBli x).stu = d.stu := rfl
@[simp] theorem Device.setBli_lines (d : Device) (x : Bli) : (d.setBli x).lines = d.lines := rfl
@[simp] theorem Device.setBli_voices (d : Device) (x : Bli) : (d.setBli x).voices = d.voices := rfl
@[simp] theorem Device.setBli_ports (d : Device) (x : Bli) : (d.setBli x).ports = d.ports := rfl
@[simp] theorem Device.setBli_tks (d : Device) (x : Bli) : (d.setBli x).tks = d.tks := rfl
@[simp] theorem Device.setBli_siu (d : Device) (x : Bli) : (d.setBli x).siu = d.siu := rfl
@[simp] theorem Device.setBli_smc (d : Device) (x : Bli) : (d.setBli x).smc = d.smc := rfl
@[simp] theorem Device.setBli_ntu (d : Device) (x : Bli) : (d.setBli x).ntu = d.ntu := rfl
@[simp] theorem Device.setBli_pwc (d : Device) (x : Bli) : (d.setBli x).pwc = d.pwc := rfl
theorem Device.setBli_self (d : Device) : d.setBli d.bli = d := rfl
theorem Device.setBli_setBli (d : Device) (x y : Bli) : (d.setBli x).setBli y = d.setBli y := rfl

/-! ### The update of `ctu` -/

@[simp] theorem Device.setCtu_bli (d : Device) (x : Ctu) : (d.setCtu x).bli = d.bli := rfl
@[simp] theorem Device.setCtu_ctu (d : Device) (x : Ctu) : (d.setCtu x).ctu = x := rfl
@[simp] theorem Device.setCtu_stu (d : Device) (x : Ctu) : (d.setCtu x).stu = d.stu := rfl
@[simp] theorem Device.setCtu_lines (d : Device) (x : Ctu) : (d.setCtu x).lines = d.lines := rfl
@[simp] theorem Device.setCtu_voices (d : Device) (x : Ctu) : (d.setCtu x).voices = d.voices := rfl
@[simp] theorem Device.setCtu_ports (d : Device) (x : Ctu) : (d.setCtu x).ports = d.ports := rfl
@[simp] theorem Device.setCtu_tks (d : Device) (x : Ctu) : (d.setCtu x).tks = d.tks := rfl
@[simp] theorem Device.setCtu_siu (d : Device) (x : Ctu) : (d.setCtu x).siu = d.siu := rfl
@[simp] theorem Device.setCtu_smc (d : Device) (x : Ctu) : (d.setCtu x).smc = d.smc := rfl
@[simp] theorem Device.setCtu_ntu (d : Device) (x : Ctu) : (d.setCtu x).ntu = d.ntu := rfl
@[simp] theorem Device.setCtu_pwc (d : Device) (x : Ctu) : (d.setCtu x).pwc = d.pwc := rfl
theorem Device.setCtu_self (d : Device) : d.setCtu d.ctu = d := rfl
theorem Device.setCtu_setCtu (d : Device) (x y : Ctu) : (d.setCtu x).setCtu y = d.setCtu y := rfl

/-! ### The update of `stu` -/

@[simp] theorem Device.setStu_bli (d : Device) (x : Stu) : (d.setStu x).bli = d.bli := rfl
@[simp] theorem Device.setStu_ctu (d : Device) (x : Stu) : (d.setStu x).ctu = d.ctu := rfl
@[simp] theorem Device.setStu_stu (d : Device) (x : Stu) : (d.setStu x).stu = x := rfl
@[simp] theorem Device.setStu_lines (d : Device) (x : Stu) : (d.setStu x).lines = d.lines := rfl
@[simp] theorem Device.setStu_voices (d : Device) (x : Stu) : (d.setStu x).voices = d.voices := rfl
@[simp] theorem Device.setStu_ports (d : Device) (x : Stu) : (d.setStu x).ports = d.ports := rfl
@[simp] theorem Device.setStu_tks (d : Device) (x : Stu) : (d.setStu x).tks = d.tks := rfl
@[simp] theorem Device.setStu_siu (d : Device) (x : Stu) : (d.setStu x).siu = d.siu := rfl
@[simp] theorem Device.setStu_smc (d : Device) (x : Stu) : (d.setStu x).smc = d.smc := rfl
@[simp] theorem Device.setStu_ntu (d : Device) (x : Stu) : (d.setStu x).ntu = d.ntu := rfl
@[simp] theorem Device.setStu_pwc (d : Device) (x : Stu) : (d.setStu x).pwc = d.pwc := rfl
theorem Device.setStu_self (d : Device) : d.setStu d.stu = d := rfl
theorem Device.setStu_setStu (d : Device) (x y : Stu) : (d.setStu x).setStu y = d.setStu y := rfl

/-! ### The update of `lines` -/

@[simp] theorem Device.setLines_bli (d : Device) (x : Vector Line 8) : (d.setLines x).bli = d.bli := rfl
@[simp] theorem Device.setLines_ctu (d : Device) (x : Vector Line 8) : (d.setLines x).ctu = d.ctu := rfl
@[simp] theorem Device.setLines_stu (d : Device) (x : Vector Line 8) : (d.setLines x).stu = d.stu := rfl
@[simp] theorem Device.setLines_lines (d : Device) (x : Vector Line 8) : (d.setLines x).lines = x := rfl
@[simp] theorem Device.setLines_voices (d : Device) (x : Vector Line 8) : (d.setLines x).voices = d.voices := rfl
@[simp] theorem Device.setLines_ports (d : Device) (x : Vector Line 8) : (d.setLines x).ports = d.ports := rfl
@[simp] theorem Device.setLines_tks (d : Device) (x : Vector Line 8) : (d.setLines x).tks = d.tks := rfl
@[simp] theorem Device.setLines_siu (d : Device) (x : Vector Line 8) : (d.setLines x).siu = d.siu := rfl
@[simp] theorem Device.setLines_smc (d : Device) (x : Vector Line 8) : (d.setLines x).smc = d.smc := rfl
@[simp] theorem Device.setLines_ntu (d : Device) (x : Vector Line 8) : (d.setLines x).ntu = d.ntu := rfl
@[simp] theorem Device.setLines_pwc (d : Device) (x : Vector Line 8) : (d.setLines x).pwc = d.pwc := rfl
theorem Device.setLines_self (d : Device) : d.setLines d.lines = d := rfl
theorem Device.setLines_setLines (d : Device) (x y : Vector Line 8) : (d.setLines x).setLines y = d.setLines y := rfl

/-! ### The update of `voices` -/

@[simp] theorem Device.setVoices_bli (d : Device) (x : Vector Voice 32) : (d.setVoices x).bli = d.bli := rfl
@[simp] theorem Device.setVoices_ctu (d : Device) (x : Vector Voice 32) : (d.setVoices x).ctu = d.ctu := rfl
@[simp] theorem Device.setVoices_stu (d : Device) (x : Vector Voice 32) : (d.setVoices x).stu = d.stu := rfl
@[simp] theorem Device.setVoices_lines (d : Device) (x : Vector Voice 32) : (d.setVoices x).lines = d.lines := rfl
@[simp] theorem Device.setVoices_voices (d : Device) (x : Vector Voice 32) : (d.setVoices x).voices = x := rfl
@[simp] theorem Device.setVoices_ports (d : Device) (x : Vector Voice 32) : (d.setVoices x).ports = d.ports := rfl
@[simp] theorem Device.setVoices_tks (d : Device) (x : Vector Voice 32) : (d.setVoices x).tks = d.tks := rfl
@[simp] theorem Device.setVoices_siu (d : Device) (x : Vector Voice 32) : (d.setVoices x).siu = d.siu := rfl
@[simp] theorem Device.setVoices_smc (d : Device) (x : Vector Voice 32) : (d.setVoices x).smc = d.smc := rfl
@[simp] theorem Device.setVoices_ntu (d : Device) (x : Vector Voice 32) : (d.setVoices x).ntu = d.ntu := rfl
@[simp] theorem Device.setVoices_pwc (d : Device) (x : Vector Voice 32) : (d.setVoices x).pwc = d.pwc := rfl
theorem Device.setVoices_self (d : Device) : d.setVoices d.voices = d := rfl
theorem Device.setVoices_setVoices (d : Device) (x y : Vector Voice 32) : (d.setVoices x).setVoices y = d.setVoices y := rfl

/-! ### The update of `ports` -/

@[simp] theorem Device.setPorts_bli (d : Device) (x : Vector Port 4) : (d.setPorts x).bli = d.bli := rfl
@[simp] theorem Device.setPorts_ctu (d : Device) (x : Vector Port 4) : (d.setPorts x).ctu = d.ctu := rfl
@[simp] theorem Device.setPorts_stu (d : Device) (x : Vector Port 4) : (d.setPorts x).stu = d.stu := rfl
@[simp] theorem Device.setPorts_lines (d : Device) (x : Vector Port 4) : (d.setPorts x).lines = d.lines := rfl
@[simp] theorem Device.setPorts_voices (d : Device) (x : Vector Port 4) : (d.setPorts x).voices = d.voices := rfl
@[simp] theorem Device.setPorts_ports (d : Device) (x : Vector Port 4) : (d.setPorts x).ports = x := rfl
@[simp] theorem Device.setPorts_tks (d : Device) (x : Vector Port 4) : (d.setPorts x).tks = d.tks := rfl
@[simp] theorem Device.setPorts_siu (d : Device) (x : Vector Port 4) : (d.setPorts x).siu = d.siu := rfl
@[simp] theorem Device.setPorts_smc (d : Device) (x : Vector Port 4) : (d.setPorts x).smc = d.smc := rfl
@[simp] theorem Device.setPorts_ntu (d : Device) (x : Vector Port 4) : (d.setPorts x).ntu = d.ntu := rfl
@[simp] theorem Device.setPorts_pwc (d : Device) (x : Vector Port 4) : (d.setPorts x).pwc = d.pwc := rfl
theorem Device.setPorts_self (d : Device) : d.setPorts d.ports = d := rfl
theorem Device.setPorts_setPorts (d : Device) (x y : Vector Port 4) : (d.setPorts x).setPorts y = d.setPorts y := rfl

/-! ### The update of `tks` -/

@[simp] theorem Device.setTks_bli (d : Device) (x : Tks) : (d.setTks x).bli = d.bli := rfl
@[simp] theorem Device.setTks_ctu (d : Device) (x : Tks) : (d.setTks x).ctu = d.ctu := rfl
@[simp] theorem Device.setTks_stu (d : Device) (x : Tks) : (d.setTks x).stu = d.stu := rfl
@[simp] theorem Device.setTks_lines (d : Device) (x : Tks) : (d.setTks x).lines = d.lines := rfl
@[simp] theorem Device.setTks_voices (d : Device) (x : Tks) : (d.setTks x).voices = d.voices := rfl
@[simp] theorem Device.setTks_ports (d : Device) (x : Tks) : (d.setTks x).ports = d.ports := rfl
@[simp] theorem Device.setTks_tks (d : Device) (x : Tks) : (d.setTks x).tks = x := rfl
@[simp] theorem Device.setTks_siu (d : Device) (x : Tks) : (d.setTks x).siu = d.siu := rfl
@[simp] theorem Device.setTks_smc (d : Device) (x : Tks) : (d.setTks x).smc = d.smc := rfl
@[simp] theorem Device.setTks_ntu (d : Device) (x : Tks) : (d.setTks x).ntu = d.ntu := rfl
@[simp] theorem Device.setTks_pwc (d : Device) (x : Tks) : (d.setTks x).pwc = d.pwc := rfl
theorem Device.setTks_self (d : Device) : d.setTks d.tks = d := rfl
theorem Device.setTks_setTks (d : Device) (x y : Tks) : (d.setTks x).setTks y = d.setTks y := rfl

/-! ### The update of `siu` -/

@[simp] theorem Device.setSiu_bli (d : Device) (x : Siu) : (d.setSiu x).bli = d.bli := rfl
@[simp] theorem Device.setSiu_ctu (d : Device) (x : Siu) : (d.setSiu x).ctu = d.ctu := rfl
@[simp] theorem Device.setSiu_stu (d : Device) (x : Siu) : (d.setSiu x).stu = d.stu := rfl
@[simp] theorem Device.setSiu_lines (d : Device) (x : Siu) : (d.setSiu x).lines = d.lines := rfl
@[simp] theorem Device.setSiu_voices (d : Device) (x : Siu) : (d.setSiu x).voices = d.voices := rfl
@[simp] theorem Device.setSiu_ports (d : Device) (x : Siu) : (d.setSiu x).ports = d.ports := rfl
@[simp] theorem Device.setSiu_tks (d : Device) (x : Siu) : (d.setSiu x).tks = d.tks := rfl
@[simp] theorem Device.setSiu_siu (d : Device) (x : Siu) : (d.setSiu x).siu = x := rfl
@[simp] theorem Device.setSiu_smc (d : Device) (x : Siu) : (d.setSiu x).smc = d.smc := rfl
@[simp] theorem Device.setSiu_ntu (d : Device) (x : Siu) : (d.setSiu x).ntu = d.ntu := rfl
@[simp] theorem Device.setSiu_pwc (d : Device) (x : Siu) : (d.setSiu x).pwc = d.pwc := rfl
theorem Device.setSiu_self (d : Device) : d.setSiu d.siu = d := rfl
theorem Device.setSiu_setSiu (d : Device) (x y : Siu) : (d.setSiu x).setSiu y = d.setSiu y := rfl

/-! ### The update of `smc` -/

@[simp] theorem Device.setSmc_bli (d : Device) (x : Smc) : (d.setSmc x).bli = d.bli := rfl
@[simp] theorem Device.setSmc_ctu (d : Device) (x : Smc) : (d.setSmc x).ctu = d.ctu := rfl
@[simp] theorem Device.setSmc_stu (d : Device) (x : Smc) : (d.setSmc x).stu = d.stu := rfl
@[simp] theorem Device.setSmc_lines (d : Device) (x : Smc) : (d.setSmc x).lines = d.lines := rfl
@[simp] theorem Device.setSmc_voices (d : Device) (x : Smc) : (d.setSmc x).voices = d.voices := rfl
@[simp] theorem Device.setSmc_ports (d : Device) (x : Smc) : (d.setSmc x).ports = d.ports := rfl
@[simp] theorem Device.setSmc_tks (d : Device) (x : Smc) : (d.setSmc x).tks = d.tks := rfl
@[simp] theorem Device.setSmc_siu (d : Device) (x : Smc) : (d.setSmc x).siu = d.siu := rfl
@[simp] theorem Device.setSmc_smc (d : Device) (x : Smc) : (d.setSmc x).smc = x := rfl
@[simp] theorem Device.setSmc_ntu (d : Device) (x : Smc) : (d.setSmc x).ntu = d.ntu := rfl
@[simp] theorem Device.setSmc_pwc (d : Device) (x : Smc) : (d.setSmc x).pwc = d.pwc := rfl
theorem Device.setSmc_self (d : Device) : d.setSmc d.smc = d := rfl
theorem Device.setSmc_setSmc (d : Device) (x y : Smc) : (d.setSmc x).setSmc y = d.setSmc y := rfl

/-! ### The update of `ntu` -/

@[simp] theorem Device.setNtu_bli (d : Device) (x : Ntu) : (d.setNtu x).bli = d.bli := rfl
@[simp] theorem Device.setNtu_ctu (d : Device) (x : Ntu) : (d.setNtu x).ctu = d.ctu := rfl
@[simp] theorem Device.setNtu_stu (d : Device) (x : Ntu) : (d.setNtu x).stu = d.stu := rfl
@[simp] theorem Device.setNtu_lines (d : Device) (x : Ntu) : (d.setNtu x).lines = d.lines := rfl
@[simp] theorem Device.setNtu_voices (d : Device) (x : Ntu) : (d.setNtu x).voices = d.voices := rfl
@[simp] theorem Device.setNtu_ports (d : Device) (x : Ntu) : (d.setNtu x).ports = d.ports := rfl
@[simp] theorem Device.setNtu_tks (d : Device) (x : Ntu) : (d.setNtu x).tks = d.tks := rfl
@[simp] theorem Device.setNtu_siu (d : Device) (x : Ntu) : (d.setNtu x).siu = d.siu := rfl
@[simp] theorem Device.setNtu_smc (d : Device) (x : Ntu) : (d.setNtu x).smc = d.smc := rfl
@[simp] theorem Device.setNtu_ntu (d : Device) (x : Ntu) : (d.setNtu x).ntu = x := rfl
@[simp] theorem Device.setNtu_pwc (d : Device) (x : Ntu) : (d.setNtu x).pwc = d.pwc := rfl
theorem Device.setNtu_self (d : Device) : d.setNtu d.ntu = d := rfl
theorem Device.setNtu_setNtu (d : Device) (x y : Ntu) : (d.setNtu x).setNtu y = d.setNtu y := rfl

/-! ### The update of `pwc` -/

@[simp] theorem Device.setPwc_bli (d : Device) (x : Pwc) : (d.setPwc x).bli = d.bli := rfl
@[simp] theorem Device.setPwc_ctu (d : Device) (x : Pwc) : (d.setPwc x).ctu = d.ctu := rfl
@[simp] theorem Device.setPwc_stu (d : Device) (x : Pwc) : (d.setPwc x).stu = d.stu := rfl
@[simp] theorem Device.setPwc_lines (d : Device) (x : Pwc) : (d.setPwc x).lines = d.lines := rfl
@[simp] theorem Device.setPwc_voices (d : Device) (x : Pwc) : (d.setPwc x).voices = d.voices := rfl
@[simp] theorem Device.setPwc_ports (d : Device) (x : Pwc) : (d.setPwc x).ports = d.ports := rfl
@[simp] theorem Device.setPwc_tks (d : Device) (x : Pwc) : (d.setPwc x).tks = d.tks := rfl
@[simp] theorem Device.setPwc_siu (d : Device) (x : Pwc) : (d.setPwc x).siu = d.siu := rfl
@[simp] theorem Device.setPwc_smc (d : Device) (x : Pwc) : (d.setPwc x).smc = d.smc := rfl
@[simp] theorem Device.setPwc_ntu (d : Device) (x : Pwc) : (d.setPwc x).ntu = d.ntu := rfl
@[simp] theorem Device.setPwc_pwc (d : Device) (x : Pwc) : (d.setPwc x).pwc = x := rfl
theorem Device.setPwc_self (d : Device) : d.setPwc d.pwc = d := rfl
theorem Device.setPwc_setPwc (d : Device) (x y : Pwc) : (d.setPwc x).setPwc y = d.setPwc y := rfl

/-! ### The updates of the state -/

@[simp] theorem State.setDev_dev (s : State) (x : Device) : (s.setDev x).dev = x := rfl
@[simp] theorem State.setDev_mem (s : State) (x : Device) : (s.setDev x).mem = s.mem := rfl
@[simp] theorem State.setDev_pending (s : State) (x : Device) : (s.setDev x).pending = s.pending := rfl
theorem State.setDev_self (s : State) : s.setDev s.dev = s := rfl
theorem State.setDev_setDev (s : State) (x y : Device) : (s.setDev x).setDev y = s.setDev y := rfl

@[simp] theorem State.setMem_dev (s : State) (x : List Host.Cell) : (s.setMem x).dev = s.dev := rfl
@[simp] theorem State.setMem_mem (s : State) (x : List Host.Cell) : (s.setMem x).mem = x := rfl
@[simp] theorem State.setMem_pending (s : State) (x : List Host.Cell) : (s.setMem x).pending = s.pending := rfl
theorem State.setMem_self (s : State) : s.setMem s.mem = s := rfl
theorem State.setMem_setMem (s : State) (x y : List Host.Cell) : (s.setMem x).setMem y = s.setMem y := rfl

@[simp] theorem State.setPending_dev (s : State) (x : List Instr) : (s.setPending x).dev = s.dev := rfl
@[simp] theorem State.setPending_mem (s : State) (x : List Instr) : (s.setPending x).mem = s.mem := rfl
@[simp] theorem State.setPending_pending (s : State) (x : List Instr) : (s.setPending x).pending = x := rfl
theorem State.setPending_self (s : State) : s.setPending s.pending = s := rfl
theorem State.setPending_setPending (s : State) (x y : List Instr) : (s.setPending x).setPending y = s.setPending y := rfl

/-! ### One line, voice, port or take -/

@[simp] theorem Device.setLine_bli (d : Device) (i : Fin 8) (x : Line) : (d.setLine i x).bli = d.bli := rfl
@[simp] theorem Device.setLine_ctu (d : Device) (i : Fin 8) (x : Line) : (d.setLine i x).ctu = d.ctu := rfl
@[simp] theorem Device.setLine_stu (d : Device) (i : Fin 8) (x : Line) : (d.setLine i x).stu = d.stu := rfl
@[simp] theorem Device.setLine_voices (d : Device) (i : Fin 8) (x : Line) : (d.setLine i x).voices = d.voices := rfl
@[simp] theorem Device.setLine_ports (d : Device) (i : Fin 8) (x : Line) : (d.setLine i x).ports = d.ports := rfl
@[simp] theorem Device.setLine_tks (d : Device) (i : Fin 8) (x : Line) : (d.setLine i x).tks = d.tks := rfl
@[simp] theorem Device.setLine_siu (d : Device) (i : Fin 8) (x : Line) : (d.setLine i x).siu = d.siu := rfl
@[simp] theorem Device.setLine_smc (d : Device) (i : Fin 8) (x : Line) : (d.setLine i x).smc = d.smc := rfl
@[simp] theorem Device.setLine_ntu (d : Device) (i : Fin 8) (x : Line) : (d.setLine i x).ntu = d.ntu := rfl
@[simp] theorem Device.setLine_pwc (d : Device) (i : Fin 8) (x : Line) : (d.setLine i x).pwc = d.pwc := rfl

theorem Device.line_setLine (d : Device) (i j : Fin 8) (x : Line) : (d.setLine i x).line j = if j = i then x else d.line j := by
  by_cases h : j = i
  · subst h; simp [Device.line, Device.setLine]
  · have h' : i.val ≠ j.val := fun e => h (Fin.ext e.symm)
    simp [Device.line, Device.setLine, h, h']

@[simp] theorem Device.line_setLine_self (d : Device) (i : Fin 8) (x : Line) : (d.setLine i x).line i = x := by
  simp [Device.line_setLine]

theorem Device.line_setLine_ne (d : Device) {i j : Fin 8} (x : Line) (h : j ≠ i) : (d.setLine i x).line j = d.line j := by
  simp [Device.line_setLine, h]

@[simp] theorem Device.line_setBli (d : Device) (x : Bli) (i : Fin 8) : (d.setBli x).line i = d.line i := rfl
@[simp] theorem Device.line_setCtu (d : Device) (x : Ctu) (i : Fin 8) : (d.setCtu x).line i = d.line i := rfl
@[simp] theorem Device.line_setStu (d : Device) (x : Stu) (i : Fin 8) : (d.setStu x).line i = d.line i := rfl
@[simp] theorem Device.line_setVoices (d : Device) (x : Vector Voice 32) (i : Fin 8) : (d.setVoices x).line i = d.line i := rfl
@[simp] theorem Device.line_setPorts (d : Device) (x : Vector Port 4) (i : Fin 8) : (d.setPorts x).line i = d.line i := rfl
@[simp] theorem Device.line_setTks (d : Device) (x : Tks) (i : Fin 8) : (d.setTks x).line i = d.line i := rfl
@[simp] theorem Device.line_setSiu (d : Device) (x : Siu) (i : Fin 8) : (d.setSiu x).line i = d.line i := rfl
@[simp] theorem Device.line_setSmc (d : Device) (x : Smc) (i : Fin 8) : (d.setSmc x).line i = d.line i := rfl
@[simp] theorem Device.line_setNtu (d : Device) (x : Ntu) (i : Fin 8) : (d.setNtu x).line i = d.line i := rfl
@[simp] theorem Device.line_setPwc (d : Device) (x : Pwc) (i : Fin 8) : (d.setPwc x).line i = d.line i := rfl
@[simp] theorem Device.line_setVoice (d : Device) (i : Fin 32) (x : Voice) (j : Fin 8) : (d.setVoice i x).line j = d.line j := rfl
@[simp] theorem Device.line_setPort (d : Device) (i : Fin 4) (x : Port) (j : Fin 8) : (d.setPort i x).line j = d.line j := rfl
@[simp] theorem Device.line_setTake (d : Device) (i : Fin 64) (x : Take) (j : Fin 8) : (d.setTake i x).line j = d.line j := rfl

@[simp] theorem Device.setVoice_bli (d : Device) (i : Fin 32) (x : Voice) : (d.setVoice i x).bli = d.bli := rfl
@[simp] theorem Device.setVoice_ctu (d : Device) (i : Fin 32) (x : Voice) : (d.setVoice i x).ctu = d.ctu := rfl
@[simp] theorem Device.setVoice_stu (d : Device) (i : Fin 32) (x : Voice) : (d.setVoice i x).stu = d.stu := rfl
@[simp] theorem Device.setVoice_lines (d : Device) (i : Fin 32) (x : Voice) : (d.setVoice i x).lines = d.lines := rfl
@[simp] theorem Device.setVoice_ports (d : Device) (i : Fin 32) (x : Voice) : (d.setVoice i x).ports = d.ports := rfl
@[simp] theorem Device.setVoice_tks (d : Device) (i : Fin 32) (x : Voice) : (d.setVoice i x).tks = d.tks := rfl
@[simp] theorem Device.setVoice_siu (d : Device) (i : Fin 32) (x : Voice) : (d.setVoice i x).siu = d.siu := rfl
@[simp] theorem Device.setVoice_smc (d : Device) (i : Fin 32) (x : Voice) : (d.setVoice i x).smc = d.smc := rfl
@[simp] theorem Device.setVoice_ntu (d : Device) (i : Fin 32) (x : Voice) : (d.setVoice i x).ntu = d.ntu := rfl
@[simp] theorem Device.setVoice_pwc (d : Device) (i : Fin 32) (x : Voice) : (d.setVoice i x).pwc = d.pwc := rfl

theorem Device.voice_setVoice (d : Device) (i j : Fin 32) (x : Voice) : (d.setVoice i x).voice j = if j = i then x else d.voice j := by
  by_cases h : j = i
  · subst h; simp [Device.voice, Device.setVoice]
  · have h' : i.val ≠ j.val := fun e => h (Fin.ext e.symm)
    simp [Device.voice, Device.setVoice, h, h']

@[simp] theorem Device.voice_setVoice_self (d : Device) (i : Fin 32) (x : Voice) : (d.setVoice i x).voice i = x := by
  simp [Device.voice_setVoice]

theorem Device.voice_setVoice_ne (d : Device) {i j : Fin 32} (x : Voice) (h : j ≠ i) : (d.setVoice i x).voice j = d.voice j := by
  simp [Device.voice_setVoice, h]

@[simp] theorem Device.voice_setBli (d : Device) (x : Bli) (i : Fin 32) : (d.setBli x).voice i = d.voice i := rfl
@[simp] theorem Device.voice_setCtu (d : Device) (x : Ctu) (i : Fin 32) : (d.setCtu x).voice i = d.voice i := rfl
@[simp] theorem Device.voice_setStu (d : Device) (x : Stu) (i : Fin 32) : (d.setStu x).voice i = d.voice i := rfl
@[simp] theorem Device.voice_setLines (d : Device) (x : Vector Line 8) (i : Fin 32) : (d.setLines x).voice i = d.voice i := rfl
@[simp] theorem Device.voice_setPorts (d : Device) (x : Vector Port 4) (i : Fin 32) : (d.setPorts x).voice i = d.voice i := rfl
@[simp] theorem Device.voice_setTks (d : Device) (x : Tks) (i : Fin 32) : (d.setTks x).voice i = d.voice i := rfl
@[simp] theorem Device.voice_setSiu (d : Device) (x : Siu) (i : Fin 32) : (d.setSiu x).voice i = d.voice i := rfl
@[simp] theorem Device.voice_setSmc (d : Device) (x : Smc) (i : Fin 32) : (d.setSmc x).voice i = d.voice i := rfl
@[simp] theorem Device.voice_setNtu (d : Device) (x : Ntu) (i : Fin 32) : (d.setNtu x).voice i = d.voice i := rfl
@[simp] theorem Device.voice_setPwc (d : Device) (x : Pwc) (i : Fin 32) : (d.setPwc x).voice i = d.voice i := rfl
@[simp] theorem Device.voice_setLine (d : Device) (i : Fin 8) (x : Line) (j : Fin 32) : (d.setLine i x).voice j = d.voice j := rfl
@[simp] theorem Device.voice_setPort (d : Device) (i : Fin 4) (x : Port) (j : Fin 32) : (d.setPort i x).voice j = d.voice j := rfl
@[simp] theorem Device.voice_setTake (d : Device) (i : Fin 64) (x : Take) (j : Fin 32) : (d.setTake i x).voice j = d.voice j := rfl

@[simp] theorem Device.setPort_bli (d : Device) (i : Fin 4) (x : Port) : (d.setPort i x).bli = d.bli := rfl
@[simp] theorem Device.setPort_ctu (d : Device) (i : Fin 4) (x : Port) : (d.setPort i x).ctu = d.ctu := rfl
@[simp] theorem Device.setPort_stu (d : Device) (i : Fin 4) (x : Port) : (d.setPort i x).stu = d.stu := rfl
@[simp] theorem Device.setPort_lines (d : Device) (i : Fin 4) (x : Port) : (d.setPort i x).lines = d.lines := rfl
@[simp] theorem Device.setPort_voices (d : Device) (i : Fin 4) (x : Port) : (d.setPort i x).voices = d.voices := rfl
@[simp] theorem Device.setPort_tks (d : Device) (i : Fin 4) (x : Port) : (d.setPort i x).tks = d.tks := rfl
@[simp] theorem Device.setPort_siu (d : Device) (i : Fin 4) (x : Port) : (d.setPort i x).siu = d.siu := rfl
@[simp] theorem Device.setPort_smc (d : Device) (i : Fin 4) (x : Port) : (d.setPort i x).smc = d.smc := rfl
@[simp] theorem Device.setPort_ntu (d : Device) (i : Fin 4) (x : Port) : (d.setPort i x).ntu = d.ntu := rfl
@[simp] theorem Device.setPort_pwc (d : Device) (i : Fin 4) (x : Port) : (d.setPort i x).pwc = d.pwc := rfl

theorem Device.port_setPort (d : Device) (i j : Fin 4) (x : Port) : (d.setPort i x).port j = if j = i then x else d.port j := by
  by_cases h : j = i
  · subst h; simp [Device.port, Device.setPort]
  · have h' : i.val ≠ j.val := fun e => h (Fin.ext e.symm)
    simp [Device.port, Device.setPort, h, h']

@[simp] theorem Device.port_setPort_self (d : Device) (i : Fin 4) (x : Port) : (d.setPort i x).port i = x := by
  simp [Device.port_setPort]

theorem Device.port_setPort_ne (d : Device) {i j : Fin 4} (x : Port) (h : j ≠ i) : (d.setPort i x).port j = d.port j := by
  simp [Device.port_setPort, h]

@[simp] theorem Device.port_setBli (d : Device) (x : Bli) (i : Fin 4) : (d.setBli x).port i = d.port i := rfl
@[simp] theorem Device.port_setCtu (d : Device) (x : Ctu) (i : Fin 4) : (d.setCtu x).port i = d.port i := rfl
@[simp] theorem Device.port_setStu (d : Device) (x : Stu) (i : Fin 4) : (d.setStu x).port i = d.port i := rfl
@[simp] theorem Device.port_setLines (d : Device) (x : Vector Line 8) (i : Fin 4) : (d.setLines x).port i = d.port i := rfl
@[simp] theorem Device.port_setVoices (d : Device) (x : Vector Voice 32) (i : Fin 4) : (d.setVoices x).port i = d.port i := rfl
@[simp] theorem Device.port_setTks (d : Device) (x : Tks) (i : Fin 4) : (d.setTks x).port i = d.port i := rfl
@[simp] theorem Device.port_setSiu (d : Device) (x : Siu) (i : Fin 4) : (d.setSiu x).port i = d.port i := rfl
@[simp] theorem Device.port_setSmc (d : Device) (x : Smc) (i : Fin 4) : (d.setSmc x).port i = d.port i := rfl
@[simp] theorem Device.port_setNtu (d : Device) (x : Ntu) (i : Fin 4) : (d.setNtu x).port i = d.port i := rfl
@[simp] theorem Device.port_setPwc (d : Device) (x : Pwc) (i : Fin 4) : (d.setPwc x).port i = d.port i := rfl
@[simp] theorem Device.port_setLine (d : Device) (i : Fin 8) (x : Line) (j : Fin 4) : (d.setLine i x).port j = d.port j := rfl
@[simp] theorem Device.port_setVoice (d : Device) (i : Fin 32) (x : Voice) (j : Fin 4) : (d.setVoice i x).port j = d.port j := rfl
@[simp] theorem Device.port_setTake (d : Device) (i : Fin 64) (x : Take) (j : Fin 4) : (d.setTake i x).port j = d.port j := rfl

@[simp] theorem Device.setTake_bli (d : Device) (i : Fin 64) (x : Take) : (d.setTake i x).bli = d.bli := rfl
@[simp] theorem Device.setTake_ctu (d : Device) (i : Fin 64) (x : Take) : (d.setTake i x).ctu = d.ctu := rfl
@[simp] theorem Device.setTake_stu (d : Device) (i : Fin 64) (x : Take) : (d.setTake i x).stu = d.stu := rfl
@[simp] theorem Device.setTake_lines (d : Device) (i : Fin 64) (x : Take) : (d.setTake i x).lines = d.lines := rfl
@[simp] theorem Device.setTake_voices (d : Device) (i : Fin 64) (x : Take) : (d.setTake i x).voices = d.voices := rfl
@[simp] theorem Device.setTake_ports (d : Device) (i : Fin 64) (x : Take) : (d.setTake i x).ports = d.ports := rfl
@[simp] theorem Device.setTake_siu (d : Device) (i : Fin 64) (x : Take) : (d.setTake i x).siu = d.siu := rfl
@[simp] theorem Device.setTake_smc (d : Device) (i : Fin 64) (x : Take) : (d.setTake i x).smc = d.smc := rfl
@[simp] theorem Device.setTake_ntu (d : Device) (i : Fin 64) (x : Take) : (d.setTake i x).ntu = d.ntu := rfl
@[simp] theorem Device.setTake_pwc (d : Device) (i : Fin 64) (x : Take) : (d.setTake i x).pwc = d.pwc := rfl

theorem Device.take_setTake (d : Device) (i j : Fin 64) (x : Take) : (d.setTake i x).take j = if j = i then x else d.take j := by
  by_cases h : j = i
  · subst h; simp [Device.take, Device.setTake]
  · have h' : i.val ≠ j.val := fun e => h (Fin.ext e.symm)
    simp [Device.take, Device.setTake, h, h']

@[simp] theorem Device.take_setTake_self (d : Device) (i : Fin 64) (x : Take) : (d.setTake i x).take i = x := by
  simp [Device.take_setTake]

theorem Device.take_setTake_ne (d : Device) {i j : Fin 64} (x : Take) (h : j ≠ i) : (d.setTake i x).take j = d.take j := by
  simp [Device.take_setTake, h]

@[simp] theorem Device.take_setBli (d : Device) (x : Bli) (i : Fin 64) : (d.setBli x).take i = d.take i := rfl
@[simp] theorem Device.take_setCtu (d : Device) (x : Ctu) (i : Fin 64) : (d.setCtu x).take i = d.take i := rfl
@[simp] theorem Device.take_setStu (d : Device) (x : Stu) (i : Fin 64) : (d.setStu x).take i = d.take i := rfl
@[simp] theorem Device.take_setLines (d : Device) (x : Vector Line 8) (i : Fin 64) : (d.setLines x).take i = d.take i := rfl
@[simp] theorem Device.take_setVoices (d : Device) (x : Vector Voice 32) (i : Fin 64) : (d.setVoices x).take i = d.take i := rfl
@[simp] theorem Device.take_setPorts (d : Device) (x : Vector Port 4) (i : Fin 64) : (d.setPorts x).take i = d.take i := rfl
@[simp] theorem Device.take_setSiu (d : Device) (x : Siu) (i : Fin 64) : (d.setSiu x).take i = d.take i := rfl
@[simp] theorem Device.take_setSmc (d : Device) (x : Smc) (i : Fin 64) : (d.setSmc x).take i = d.take i := rfl
@[simp] theorem Device.take_setNtu (d : Device) (x : Ntu) (i : Fin 64) : (d.setNtu x).take i = d.take i := rfl
@[simp] theorem Device.take_setPwc (d : Device) (x : Pwc) (i : Fin 64) : (d.setPwc x).take i = d.take i := rfl
@[simp] theorem Device.take_setLine (d : Device) (i : Fin 8) (x : Line) (j : Fin 64) : (d.setLine i x).take j = d.take j := rfl
@[simp] theorem Device.take_setVoice (d : Device) (i : Fin 32) (x : Voice) (j : Fin 64) : (d.setVoice i x).take j = d.take j := rfl
@[simp] theorem Device.take_setPort (d : Device) (i : Fin 4) (x : Port) (j : Fin 64) : (d.setPort i x).take j = d.take j := rfl

@[simp] theorem Device.setTake_counter (d : Device) (i : Fin 64) (x : Take) : (d.setTake i x).tks.counter = d.tks.counter := rfl
@[simp] theorem Device.setTake_verifyTake (d : Device) (i : Fin 64) (x : Take) : (d.setTake i x).tks.verifyTake = d.tks.verifyTake := rfl
@[simp] theorem Device.setTake_verifyStage (d : Device) (i : Fin 64) (x : Take) :
    (d.setTake i x).tks.verifyStage = d.tks.verifyStage := rfl

/-! ### Lists of all numbers -/

theorem mem_allVoices (v : Fin 32) : v ∈ allVoices := by revert v; decide
theorem mem_allLines (l : Fin 8) : l ∈ allLines := by revert l; decide
theorem mem_allPorts (p : Fin 4) : p ∈ allPorts := by revert p; decide
theorem mem_all64 (t : Fin 64) : t ∈ all64 := by revert t; decide

end Sys2Proof.Machine
end

