-- ==== Sys2Proof/Laws/Control.lean ====
section
/-! SUPPORT. What the shared operations of the controls can do: posting, replying, the grant decision of a settled device, and the arrival of
a control that is taken at once. -/

namespace Sys2Proof.Machine

/-! ### Posting changes the Notice Unit alone (R178) -/

@[simp] theorem Device.post_bli (d : Device) (e : Event) : (d.post e).bli = d.bli := rfl
@[simp] theorem Device.post_ctu (d : Device) (e : Event) : (d.post e).ctu = d.ctu := rfl
@[simp] theorem Device.post_stu (d : Device) (e : Event) : (d.post e).stu = d.stu := rfl
@[simp] theorem Device.post_lines (d : Device) (e : Event) : (d.post e).lines = d.lines := rfl
@[simp] theorem Device.post_voices (d : Device) (e : Event) : (d.post e).voices = d.voices := rfl
@[simp] theorem Device.post_ports (d : Device) (e : Event) : (d.post e).ports = d.ports := rfl
@[simp] theorem Device.post_tks (d : Device) (e : Event) : (d.post e).tks = d.tks := rfl
@[simp] theorem Device.post_siu (d : Device) (e : Event) : (d.post e).siu = d.siu := rfl
@[simp] theorem Device.post_smc (d : Device) (e : Event) : (d.post e).smc = d.smc := rfl
@[simp] theorem Device.post_pwc (d : Device) (e : Event) : (d.post e).pwc = d.pwc := rfl

/-- R178: several events change the Notice Unit alone. -/
theorem Device.postAll_frame (es : List Event) (d : Device) : d.postAll es = d.setNtu (d.postAll es).ntu := by
  induction es generalizing d with
  | nil => rfl
  | cons e es ih =>
    have h := ih (d.post e)
    simp only [Device.postAll, List.foldl_cons] at h ⊢
    rw [h]; rfl

@[simp] theorem Device.postAll_bli (d : Device) (es : List Event) : (d.postAll es).bli = d.bli := by rw [Device.postAll_frame]; rfl
@[simp] theorem Device.postAll_ctu (d : Device) (es : List Event) : (d.postAll es).ctu = d.ctu := by rw [Device.postAll_frame]; rfl
@[simp] theorem Device.postAll_stu (d : Device) (es : List Event) : (d.postAll es).stu = d.stu := by rw [Device.postAll_frame]; rfl
@[simp] theorem Device.postAll_lines (d : Device) (es : List Event) : (d.postAll es).lines = d.lines := by
  rw [Device.postAll_frame]; rfl
@[simp] theorem Device.postAll_voices (d : Device) (es : List Event) : (d.postAll es).voices = d.voices := by
  rw [Device.postAll_frame]; rfl
@[simp] theorem Device.postAll_ports (d : Device) (es : List Event) : (d.postAll es).ports = d.ports := by
  rw [Device.postAll_frame]; rfl
@[simp] theorem Device.postAll_tks (d : Device) (es : List Event) : (d.postAll es).tks = d.tks := by rw [Device.postAll_frame]; rfl
@[simp] theorem Device.postAll_siu (d : Device) (es : List Event) : (d.postAll es).siu = d.siu := by rw [Device.postAll_frame]; rfl
@[simp] theorem Device.postAll_smc (d : Device) (es : List Event) : (d.postAll es).smc = d.smc := by rw [Device.postAll_frame]; rfl
@[simp] theorem Device.postAll_pwc (d : Device) (es : List Event) : (d.postAll es).pwc = d.pwc := by rw [Device.postAll_frame]; rfl

/-- R178: no event leaves the device as it is. -/
@[simp] theorem Device.postAll_nil (d : Device) : d.postAll [] = d := rfl

/-- R178: an event that is not enabled is lost. -/
theorem Device.post_disabled (d : Device) (e : Event) (h : d.ntu.enabled e.source e.kind = false) : d.post e = d := by
  simp [Device.post, Ntu.post, h, Device.setNtu]

/-! ### The grant decision (R147, R148) -/

/-- R147, R148: what a grant decision reads of the device. -/
theorem Device.choose_congr {d e : Device} (hc : e.ctu = d.ctu) (hv : e.voices = d.voices) (ht : e.tks.verifyStage = d.tks.verifyStage)
    (hi : e.siu = d.siu) (hs : e.smc = d.smc) : e.choose = d.choose := by
  simp [Device.choose, Device.chooseLast, Device.pickVoice, Device.voice, hc, hv, ht, hi, hs]

/-- R147: a device that differs from a settled one in nothing a grant decision reads is settled. -/
theorem Device.Settled.congr {d e : Device} (h : d.Settled) (hc : e.ctu = d.ctu) (hv : e.voices = d.voices)
    (ht : e.tks.verifyStage = d.tks.verifyStage) (hi : e.siu = d.siu) (hs : e.smc = d.smc) (hp : e.pwc.power = d.pwc.power) :
    e.Settled := by
  intro hm
  rw [Device.choose_congr hc hv ht hi hs]
  exact h (by simpa [Device.mayGrant, hs, hp] using hm)

/-- R147: a settled device grants nothing. -/
theorem Device.grant_settled {d : Device} (h : d.Settled) : d.grant = d := by
  unfold Device.grant
  split
  · rename_i hm; rw [h hm]
  · rfl

/-- R147: a device whose arbiter may not grant is settled. -/
theorem Device.settled_of_not_mayGrant {d : Device} (h : d.mayGrant = false) : d.Settled := by
  intro hm; rw [h] at hm; cases hm

/-! ### A control taken at its arrival (R165, R168, R185) -/

/-- R185: a CONTROL packet with a body of at most 1024 bytes passes the checks of the link. -/
theorem controlPacketOf_fault (tag : BitVec 16) (word : BitVec 32) (body : List Byte) (h : body.length ≤ 1024) :
    (controlPacketOf tag word body).fault = none := by
  simp [Packet.fault, controlPacketOf, maxBody, h]

/-- R184: the control of a CONTROL packet has the packet's tag, code and body. -/
theorem controlPacketOf_control (tag : BitVec 16) (code : Byte) (body : List Byte) :
    (controlPacketOf tag (code.setWidth 32) body).control = ⟨tag, code, body⟩ := by
  simp only [Packet.control, controlPacketOf, CtlPkt.mk.injEq, true_and, and_true]
  ext i; simp

/-- R165: with one control waiting that may be taken, the Control Unit takes it. -/
theorem Device.runCtu_one (d : Device) (c : CtlPkt) (hq : d.bli.controlQ = [c]) (hm : d.mayTake = true) :
    d.runCtu = (d.setBli { d.bli with controlQ := [] }).execControl c := by
  simp [Device.runCtu, hq, takeControls, hm]

/-- R165, R168: what the arrival of a control does in a listening part: the control is carried out on the part as the packet found it. -/
theorem arriveControl_listening {s : State} (h : s.Listening) (tag : BitVec 16) (code : Byte) (body : List Byte)
    (hb : body.length ≤ 1024) :
    arriveControl tag code body s = .next (s.setDev (s.dev.reloadQuiet.execControl ⟨tag, code, body⟩)) := by
  have hf := controlPacketOf_fault tag (code.setWidth 32) body hb
  have hc := controlPacketOf_control tag code body
  obtain ⟨h1, h2, h3, h4, h5⟩ := h
  have hq : s.dev.reloadQuiet.bli.controlQ = [] := h4
  have hk : (controlPacketOf tag (code.setWidth 32) body).kind = 0x02#8 := rfl
  simp only [arriveControl, onDevice, Device.receive, h1, h2, Device.hears, hf, Device.queuePacket, hk, hc, Device.queueControl]
  simp only [hq, List.length_nil, Config.controlQueueSize, List.nil_append]
  have hrun := Device.runCtu_one (s.dev.reloadQuiet.setBli { s.dev.reloadQuiet.bli with controlQ := [⟨tag, code, body⟩] })
    ⟨tag, code, body⟩ rfl (by simpa [Device.mayTake, Device.reloadQuiet, Pwc.reload, Config.replyQueueSize, h2, h3] using h5)
  simp only [Device.setBli_bli] at hrun
  have he : ({ s.dev.reloadQuiet.bli with controlQ := [] } : Bli) = s.dev.reloadQuiet.bli := by
    rw [← hq]
  rw [he] at hrun
  simp only [Device.setBli_setBli, Device.setBli_self] at hrun
  simp [hrun]

/-- R165, R168: a control with a well-formed chain, of a code in the table, that is taken at its arrival. -/
theorem arriveControl_takes {s : State} {body : List Byte} {ts : List Tuple} (h : s.Takes body ts) (tag : BitVec 16) (code : Byte)
    {f : List Tuple → Device → Carried} (hf : controlOf tag code.toNat = some f) :
    arriveControl tag code body s = .next (s.setDev
      (match f ts s.dev.reloadQuiet with
        | (w, some a) => (w.pushReply (replyTo ⟨tag, code, body⟩ a)).grant
        | (w, none) => w.grant)) := by
  rw [arriveControl_listening h.listening tag code body h.fits]
  simp only [Device.execControl, carryOut, hf, h.chain]
  all_goals rfl

/-- R165 to R168: a control that is answered at once, leaving a device `e` whose arbiter has nothing to grant. -/
theorem arriveControl_answered {s : State} {body : List Byte} {ts : List Tuple} (h : s.Takes body ts) (tag : BitVec 16) (code : Byte)
    {f : List Tuple → Device → Carried} (hf : controlOf tag code.toNat = some f) {e : Device} {st : Status} {fs : List Field}
    (he : f ts s.dev.reloadQuiet = (e.reloadQuiet, some (st, fs))) (hs : e.Settled) :
    arriveControl tag code body s = .next (s.setDev (e.answered tag code st fs)) := by
  rw [arriveControl_takes h tag code hf, he]
  have : (e.reloadQuiet.pushReply (replyTo ⟨tag, code, body⟩ (st, fs))).Settled :=
    hs.congr rfl rfl rfl rfl rfl rfl
  simp only [Device.grant_settled this]
  rfl

end Sys2Proof.Machine
end

