-- ==== Sys2Proof/Laws/Memory.lean ====
section
/-! SUPPORT. The laws of the store's bytes: what a read gives after a write, and that every write keeps the canonical form. -/

namespace Sys2Proof.Machine

/-! ### The canonical form -/

/-- The canonical form of the store: addresses strictly rising, no zero byte listed. -/
theorem memWf_iff (m : List Host.Cell) :
    memWf m = true ↔ m.Pairwise (fun c d => c.1 < d.1) ∧ ∀ c ∈ m, c.2 ≠ 0 := by
  induction m with
  | nil => simp [memWf]
  | cons c m ih =>
    cases m with
    | nil => simp [memWf]
    | cons c' m =>
      simp only [memWf, Bool.and_eq_true, decide_eq_true_eq, ih]
      constructor
      · rintro ⟨⟨h1, h2⟩, h3, h4⟩
        refine ⟨List.pairwise_cons.2 ⟨?_, h3⟩, ?_⟩
        · intro d hd
          rcases List.mem_cons.1 hd with rfl | hd
          · exact h2
          · exact Nat.lt_trans h2 ((List.pairwise_cons.1 h3).1 d hd)
        · intro d hd
          rcases List.mem_cons.1 hd with rfl | hd
          · exact h1
          · exact h4 d hd
      · rintro ⟨h3, h4⟩
        have h := List.pairwise_cons.1 h3
        exact ⟨⟨h4 c (by simp), h.1 c' (by simp)⟩, h.2, fun d hd => h4 d (List.mem_cons_of_mem _ hd)⟩

/-- A cell laid down lies within its bytes, and is not zero. -/
theorem mem_cellsOf {a : Nat} {bytes : List Byte} {c : Host.Cell} (h : c ∈ cellsOf a bytes) :
    a ≤ c.1 ∧ c.1 < a + bytes.length ∧ c.2 ≠ 0 := by
  induction bytes generalizing a with
  | nil => simp [cellsOf] at h
  | cons b bs ih =>
    simp only [cellsOf] at h
    split at h
    · have := ih h; simp only [List.length_cons]; exact ⟨by omega, by omega, this.2.2⟩
    · rename_i hb
      rcases List.mem_cons.1 h with rfl | h
      · simp only [List.length_cons]; exact ⟨Nat.le_refl _, by omega, hb⟩
      · have := ih h; simp only [List.length_cons]; exact ⟨by omega, by omega, this.2.2⟩

/-- The cells laid down stand in strictly rising order. -/
theorem cellsOf_pairwise (a : Nat) (bytes : List Byte) : (cellsOf a bytes).Pairwise (fun c d => c.1 < d.1) := by
  induction bytes generalizing a with
  | nil => exact List.Pairwise.nil
  | cons b bs ih =>
    simp only [cellsOf]
    split
    · exact ih (a + 1)
    · exact List.pairwise_cons.2 ⟨fun d hd => Nat.lt_of_succ_le (mem_cellsOf hd).1, ih (a + 1)⟩

/-- A write keeps the canonical form of the store. -/
theorem memStore_wf {m : List Host.Cell} (a : Nat) (bytes : List Byte) (h : memWf m = true) : memWf (memStore m a bytes) = true := by
  rw [memWf_iff] at h ⊢
  obtain ⟨hp, hz⟩ := h
  refine ⟨?_, ?_⟩
  · unfold memStore
    refine List.pairwise_append.2 ⟨hp.filter _, List.pairwise_append.2 ⟨cellsOf_pairwise a bytes, hp.filter _, ?_⟩, ?_⟩
    · intro c hc d hd
      have h1 := mem_cellsOf hc
      simp only [List.mem_filter, decide_eq_true_eq] at hd
      omega
    · intro c hc d hd
      simp only [List.mem_filter, decide_eq_true_eq] at hc
      rcases List.mem_append.1 hd with hd | hd
      · have h1 := mem_cellsOf hd; omega
      · simp only [List.mem_filter, decide_eq_true_eq] at hd; omega
  · intro c hc
    simp only [memStore, List.mem_append, List.mem_filter] at hc
    rcases hc with hc | hc | hc
    · exact hz c hc.1
    · exact (mem_cellsOf hc).2.2
    · exact hz c hc.1

/-- A word's write keeps the canonical form of the store. -/
theorem memSetWord_wf {m : List Host.Cell} (a : Nat) (x : BitVec 64) (h : memWf m = true) : memWf (memSetWord m a x) = true :=
  memStore_wf a _ h

/-- Right after power-on the store has the canonical form. -/
theorem reset_mem_wf : memWf State.reset.mem = true := rfl

/-! ### What a read gives after a write -/

/-- Looking up among the cells whose addresses pass a test. -/
theorem lookup_filter (m : List Host.Cell) (p : Nat → Bool) (x : Nat) :
    (m.filter (fun c => p c.1)).lookup x = if p x then m.lookup x else none := by
  induction m with
  | nil => simp
  | cons c m ih =>
    obtain ⟨a, b⟩ := c
    rw [List.filter_cons]
    by_cases hx : x = a
    · subst hx
      cases hp : p x
      · simp only [hp] at ih ⊢; exact ih
      · simp
    · have hb : (x == a) = false := by simp [hx]
      cases hp : p a <;> simp only [List.lookup_cons, hb, ih, if_true, Bool.false_eq_true, if_false]

/-- Looking up among the cells laid down. -/
theorem lookup_cellsOf (a : Nat) (bytes : List Byte) (x : Nat) :
    ((cellsOf a bytes).lookup x).getD 0 = if a ≤ x ∧ x < a + bytes.length then bytes.getD (x - a) 0 else 0 := by
  induction bytes generalizing a with
  | nil => simp [cellsOf]
  | cons b bs ih =>
    by_cases hx : x = a
    · subst hx
      simp only [cellsOf, List.length_cons]
      split
      · rename_i hb; rw [ih (x + 1)]; simp [hb]
      · simp
    · have hb : (x == a) = false := by simp [hx]
      have key : ((cellsOf a (b :: bs)).lookup x).getD 0 = ((cellsOf (a + 1) bs).lookup x).getD 0 := by
        simp only [cellsOf]
        split
        · rfl
        · simp [List.lookup_cons, hb]
      rw [key, ih (a + 1)]
      simp only [List.length_cons]
      by_cases h : a + 1 ≤ x ∧ x < a + 1 + bs.length
      · have h2 : a ≤ x ∧ x < a + (bs.length + 1) := by omega
        obtain ⟨k, hk⟩ : ∃ k, x - a = k + 1 := ⟨x - a - 1, by omega⟩
        have hk' : x - (a + 1) = k := by omega
        rw [if_pos h, if_pos h2, hk, hk']; simp
      · have h2 : ¬ (a ≤ x ∧ x < a + (bs.length + 1)) := by omega
        rw [if_neg h, if_neg h2]

/-- An address outside the bytes laid down is not among their cells. -/
theorem lookup_cellsOf_outside {a : Nat} {bytes : List Byte} {x : Nat} (h : ¬ (a ≤ x ∧ x < a + bytes.length)) :
    (cellsOf a bytes).lookup x = none := by
  rw [List.lookup_eq_none_iff]
  intro c hc
  have := mem_cellsOf hc
  simp only [bne_iff_ne, ne_eq]
  rintro rfl
  exact h ⟨this.1, this.2.1⟩

/-- A read after a write gives the byte written, and every other byte reads as before. -/
theorem memRead_memStore (m : List Host.Cell) (a : Nat) (bytes : List Byte) (x : Nat) :
    memRead (memStore m a bytes) x = if a ≤ x ∧ x < a + bytes.length then bytes.getD (x - a) 0 else memRead m x := by
  unfold memRead memStore
  rw [List.lookup_append, List.lookup_append, lookup_filter m (fun k => decide (k < a)),
    lookup_filter m (fun k => decide (a + bytes.length ≤ k))]
  by_cases h : a ≤ x ∧ x < a + bytes.length
  · rw [if_pos h, if_neg (by simp; omega), if_neg (by simp; omega)]
    have := lookup_cellsOf a bytes x
    rw [if_pos h] at this
    simpa using this
  · rw [if_neg h, lookup_cellsOf_outside h]
    by_cases hx : x < a
    · simp only [hx, decide_true, if_true, Option.none_or]
      by_cases h2 : a + bytes.length ≤ x
      · omega
      · simp [h2]
    · have h2 : a + bytes.length ≤ x := by omega
      simp [hx, h2]

/-- A byte outside a write reads as before. -/
theorem memRead_memStore_outside (m : List Host.Cell) {a : Nat} {bytes : List Byte} {x : Nat} (h : x < a ∨ a + bytes.length ≤ x) :
    memRead (memStore m a bytes) x = memRead m x := by
  rw [memRead_memStore, if_neg (by omega)]

/-- The number of bytes read. -/
@[simp] theorem memBytes_length (m : List Host.Cell) (a n : Nat) : (memBytes m a n).length = n := by
  induction n generalizing a with
  | zero => rfl
  | succ n ih => simp [memBytes, ih]

/-- Reading back part of what a write laid down. -/
theorem memBytes_memStore (m : List Host.Cell) (a : Nat) (bytes : List Byte) (i n : Nat) (h : i + n ≤ bytes.length) :
    memBytes (memStore m a bytes) (a + i) n = (bytes.drop i).take n := by
  induction n generalizing i with
  | zero => simp [memBytes]
  | succ n ih =>
    have hi : i < bytes.length := by omega
    have h1 := ih (i + 1) (by omega)
    rw [List.drop_eq_getElem_cons hi, List.take_succ_cons]
    simp only [memBytes]
    rw [memRead_memStore, if_pos (by omega), Nat.add_sub_cancel_left, Nat.add_assoc, h1]
    simp [List.getD, hi]

/-! ### Numbers as bytes -/

@[simp] theorem leBytes_length (n x : Nat) : (leBytes n x).length = n := by
  induction n generalizing x with
  | zero => rfl
  | succ n ih => simp [leBytes, ih]

/-- The low bytes of a number read back as the number modulo their range. -/
theorem leNat_leBytes (n x : Nat) : leNat (leBytes n x) = x % 256 ^ n := by
  induction n generalizing x with
  | zero => simp [leBytes, leNat, Nat.mod_one]
  | succ n ih =>
    simp only [leBytes, leNat, ih, BitVec.toNat_ofNat]
    rw [show 256 ^ (n + 1) = 256 * 256 ^ n from by rw [Nat.pow_succ, Nat.mul_comm], Nat.mod_mul]

/-- A word reads back as it was written. -/
theorem memWord_memSetWord (m : List Host.Cell) (a : Nat) (x : BitVec 64) : memWord (memSetWord m a x) a = x := by
  have h := memBytes_memStore m a (leBytes 8 x.toNat) 0 8 (by simp)
  simp only [Nat.add_zero, List.drop_zero] at h
  unfold memWord memSetWord
  rw [h, List.take_of_length_le (by simp), leNat_leBytes]
  have h2 : x.toNat % 256 ^ 8 = x.toNat := Nat.mod_eq_of_lt (by have := x.isLt; norm_num at this ⊢; exact this)
  rw [h2]
  simp

end Sys2Proof.Machine
end

