-- ==== Sys2Proof/Laws/PerInstr.lean ====
section
/-! SUPPORT. Lemmas made per command: of the well-formed commands only a BAD_PACKET is the arrival of a packet that a check of the link
discards (R185). -/

namespace Sys2Proof.Laws.PacketForm

open Sys2Proof Sys2Proof.Machine

/-- R185: a well-formed command is the arrival of a packet that fails a check exactly when it is a BAD_PACKET. -/
def Statement (i : Instr) : Prop := wellFormed i = true → (i.isBadPacket = true ↔ ∃ kind rest, i = .badPacket kind rest)

/-- A CONTROL packet within the maximum passes every check. -/
theorem control_row (tag : BitVec 16) (word : BitVec 32) (body : List Byte) (h : fits body = true) :
    (controlPacketOf tag word body).fault.isSome = false := by
  rw [controlPacketOf_fault tag word body (by simpa [fits] using h)]; rfl

/-- A well-formed SAMPLE packet passes every check. -/
theorem sample_row {p : Packet} (h : p.fault.isNone = true) : p.fault.isSome = false := by
  cases hf : p.fault with
  | none => rfl
  | some f => rw [hf] at h; cases h

/-- A command that is no BAD_PACKET, and no arrival that fails a check. -/
theorem row {i : Instr} (hb : wellFormed i = true → i.isBadPacket = false) (hn : ∀ kind rest, i ≠ .badPacket kind rest) : Statement i :=
  fun h => ⟨fun hi => absurd hi (by rw [hb h]; decide), fun ⟨kind, rest, hi⟩ => absurd hi (hn kind rest)⟩

theorem ident (tag : BitVec 16) (body : List Byte) : Statement (.ident tag body) :=
  row (fun h => control_row tag _ body h) nofun
theorem queryScene (tag : BitVec 16) (index : Byte) (rest : List Byte) : Statement (.queryScene tag index rest) :=
  row (fun h => control_row tag _ (queryBody 0 index rest) h) nofun
theorem queryVoice (tag : BitVec 16) (index : Byte) (rest : List Byte) : Statement (.queryVoice tag index rest) :=
  row (fun h => control_row tag _ (queryBody 1 index rest) h) nofun
theorem queryPort (tag : BitVec 16) (index : Byte) (rest : List Byte) : Statement (.queryPort tag index rest) :=
  row (fun h => control_row tag _ (queryBody 3 index rest) h) nofun
theorem queryLines (tag : BitVec 16) (index : Byte) (rest : List Byte) : Statement (.queryLines tag index rest) :=
  row (fun h => control_row tag _ (queryBody 4 index rest) h) nofun
theorem queryTake (tag : BitVec 16) (index : Byte) (rest : List Byte) : Statement (.queryTake tag index rest) :=
  row (fun h => control_row tag _ (queryBody 2 index rest) h) nofun
theorem queryStreams (tag : BitVec 16) (index : Byte) (rest : List Byte) : Statement (.queryStreams tag index rest) :=
  row (fun h => control_row tag _ (queryBody 6 index rest) h) nofun
theorem querySegments (tag : BitVec 16) (index : Byte) (rest : List Byte) : Statement (.querySegments tag index rest) :=
  row (fun h => control_row tag _ (queryBody 5 index rest) h) nofun
theorem unknownControl (tag : BitVec 16) (code : Byte) (body : List Byte) : Statement (.unknownControl tag code body) :=
  row (fun h => control_row tag _ body (Bool.and_eq_true_iff.1 h).1) nofun
theorem captureRead (tag : BitVec 16) (body : List Byte) : Statement (.captureRead tag body) :=
  row (fun h => control_row tag _ body h) nofun
theorem takeOpen (tag : BitVec 16) (body : List Byte) : Statement (.takeOpen tag body) :=
  row (fun h => control_row tag _ body h) nofun
theorem takeClose (tag : BitVec 16) (body : List Byte) : Statement (.takeClose tag body) :=
  row (fun h => control_row tag _ body h) nofun
theorem takeDrop (tag : BitVec 16) (body : List Byte) : Statement (.takeDrop tag body) :=
  row (fun h => control_row tag _ body h) nofun
theorem takeVerify (tag : BitVec 16) (body : List Byte) : Statement (.takeVerify tag body) :=
  row (fun h => control_row tag _ body h) nofun
theorem takePeek (tag : BitVec 16) (body : List Byte) : Statement (.takePeek tag body) :=
  row (fun h => control_row tag _ body h) nofun
theorem streamBind (tag : BitVec 16) (body : List Byte) : Statement (.streamBind tag body) :=
  row (fun h => control_row tag _ body h) nofun
theorem streamUnbind (tag : BitVec 16) (body : List Byte) : Statement (.streamUnbind tag body) :=
  row (fun h => control_row tag _ body h) nofun
theorem cueLoad (tag : BitVec 16) (body : List Byte) : Statement (.cueLoad tag body) :=
  row (fun h => control_row tag _ body h) nofun
theorem cueFlushPending (tag : BitVec 16) (rest : List Byte) : Statement (.cueFlushPending tag rest) :=
  row (fun h => control_row tag _ (flushBody 0 rest) h) nofun
theorem cueFlushAll (tag : BitVec 16) (rest : List Byte) : Statement (.cueFlushAll tag rest) :=
  row (fun h => control_row tag _ (flushBody 1 rest) h) nofun
theorem voiceSet (tag : BitVec 16) (body : List Byte) : Statement (.voiceSet tag body) :=
  row (fun h => control_row tag _ body h) nofun
theorem portSet (tag : BitVec 16) (body : List Byte) : Statement (.portSet tag body) :=
  row (fun h => control_row tag _ body h) nofun
theorem lineSet (tag : BitVec 16) (body : List Byte) : Statement (.lineSet tag body) :=
  row (fun h => control_row tag _ body h) nofun
theorem markLoad (tag : BitVec 16) (body : List Byte) : Statement (.markLoad tag body) :=
  row (fun h => control_row tag _ body h) nofun
theorem markClear (tag : BitVec 16) (body : List Byte) : Statement (.markClear tag body) :=
  row (fun h => control_row tag _ body h) nofun
theorem sceneGo (tag : BitVec 16) (body : List Byte) : Statement (.sceneGo tag body) :=
  row (fun h => control_row tag _ body h) nofun
theorem scenePause (tag : BitVec 16) (body : List Byte) : Statement (.scenePause tag body) :=
  row (fun h => control_row tag _ body h) nofun
theorem sceneResume (tag : BitVec 16) (body : List Byte) : Statement (.sceneResume tag body) :=
  row (fun h => control_row tag _ body h) nofun
theorem sceneStop (tag : BitVec 16) (body : List Byte) : Statement (.sceneStop tag body) :=
  row (fun h => control_row tag _ body h) nofun
theorem sceneFreeze (tag : BitVec 16) (body : List Byte) : Statement (.sceneFreeze tag body) :=
  row (fun h => control_row tag _ body h) nofun
theorem noticeSet (tag : BitVec 16) (body : List Byte) : Statement (.noticeSet tag body) :=
  row (fun h => control_row tag _ body h) nofun
theorem reportSet (tag : BitVec 16) (body : List Byte) : Statement (.reportSet tag body) :=
  row (fun h => control_row tag _ body h) nofun
theorem selftestStart (tag : BitVec 16) (mode pattern : Byte) (rest : List Byte) : Statement (.selftestStart tag mode pattern rest) :=
  row (fun h => control_row tag _ (testBody 0 mode pattern rest) h) nofun
theorem selftestContinue (tag : BitVec 16) (mode pattern : Byte) (rest : List Byte) : Statement (.selftestContinue tag mode pattern rest) :=
  row (fun h => control_row tag _ (testBody 1 mode pattern rest) h) nofun
theorem selftestStop (tag : BitVec 16) (mode pattern : Byte) (rest : List Byte) : Statement (.selftestStop tag mode pattern rest) :=
  row (fun h => control_row tag _ (testBody 2 mode pattern rest) h) nofun
theorem memSet (tag : BitVec 16) (body : List Byte) : Statement (.memSet tag body) :=
  row (fun h => control_row tag _ body h) nofun
theorem powerStandby (tag : BitVec 16) (quiet : BitVec 16) (rest : List Byte) : Statement (.powerStandby tag quiet rest) :=
  row (fun h => control_row tag _ (powerBody 0 quiet rest) h) nofun
theorem powerSleep (tag : BitVec 16) (quiet : BitVec 16) (rest : List Byte) : Statement (.powerSleep tag quiet rest) :=
  row (fun h => control_row tag _ (powerBody 1 quiet rest) h) nofun
theorem powerQuiet (tag : BitVec 16) (quiet : BitVec 16) (rest : List Byte) : Statement (.powerQuiet tag quiet rest) :=
  row (fun h => control_row tag _ (powerBody 2 quiet rest) h) nofun
theorem reset (tag : BitVec 16) (body : List Byte) : Statement (.reset tag body) :=
  row (fun h => control_row tag _ body h) nofun
theorem samplePacket (tag : BitVec 16) (flags : Byte) (seq : BitVec 32) (count : BitVec 16) (body : List Byte) : Statement (.samplePacket tag flags seq count body) :=
  row (fun h => sample_row h) nofun
theorem controlPacket (tag : BitVec 16) (word : BitVec 32) (body : List Byte) : Statement (.controlPacket tag word body) :=
  row (fun h => control_row tag _ body h) nofun
theorem wakePacket : Statement (.wakePacket) :=
  row (fun _ => by decide) nofun
theorem badPacket (kind : Byte) (rest : List Byte) : Statement (.badPacket kind rest) :=
  fun h => ⟨fun _ => ⟨kind, rest, rfl⟩, fun _ => h⟩
theorem flowSymbolSend : Statement (.flowSymbolSend) :=
  row (fun _ => rfl) nofun
theorem replySend : Statement (.replySend) :=
  row (fun _ => rfl) nofun
theorem noticeSend : Statement (.noticeSend) :=
  row (fun _ => rfl) nofun
theorem reportSend : Statement (.reportSend) :=
  row (fun _ => rfl) nofun
theorem sleepEntry : Statement (.sleepEntry) :=
  row (fun _ => rfl) nofun
theorem resetReplySent : Statement (.resetReplySent) :=
  row (fun _ => rfl) nofun
theorem sceneTick : Statement (.sceneTick) :=
  row (fun _ => rfl) nofun
theorem pulseEnd (l : Fin 8) : Statement (.pulseEnd l) :=
  row (fun _ => rfl) nofun
theorem rampStep (v : Fin 32) : Statement (.rampStep v) :=
  row (fun _ => rfl) nofun
theorem reportDue : Statement (.reportDue) :=
  row (fun _ => rfl) nofun
theorem benchLineEdge (l : Fin 8) (level : Bool) : Statement (.benchLineEdge l level) :=
  row (fun _ => rfl) nofun
theorem fetchComplete : Statement (.fetchComplete) :=
  row (fun _ => rfl) nofun
theorem intakeJudgement : Statement (.intakeJudgement) :=
  row (fun _ => rfl) nofun
theorem intakeWriteComplete : Statement (.intakeWriteComplete) :=
  row (fun _ => rfl) nofun
theorem verifyReadComplete : Statement (.verifyReadComplete) :=
  row (fun _ => rfl) nofun
theorem peekReadComplete : Statement (.peekReadComplete) :=
  row (fun _ => rfl) nofun
theorem refreshInterval : Statement (.refreshInterval) :=
  row (fun _ => rfl) nofun
theorem refreshComplete : Statement (.refreshComplete) :=
  row (fun _ => rfl) nofun
theorem selftestStepComplete (upsets : List (Nat × BitVec 64)) : Statement (.selftestStepComplete upsets) :=
  row (fun _ => rfl) nofun
theorem clearingWriteComplete : Statement (.clearingWriteComplete) :=
  row (fun _ => rfl) nofun
theorem selfRefreshExitEnd : Statement (.selfRefreshExitEnd) :=
  row (fun _ => rfl) nofun
theorem quietTimerExpiry : Statement (.quietTimerExpiry) :=
  row (fun _ => rfl) nofun
theorem dramReinitEnd : Statement (.dramReinitEnd) :=
  row (fun _ => rfl) nofun
theorem powerOn : Statement (.powerOn) :=
  row (fun _ => rfl) nofun
theorem rstnAssert : Statement (.rstnAssert) :=
  row (fun _ => rfl) nofun
theorem coldReset : Statement (.coldReset) :=
  row (fun _ => rfl) nofun
theorem warmReset : Statement (.warmReset) :=
  row (fun _ => rfl) nofun
theorem sclkPeriodNoTick : Statement (.sclkPeriodNoTick) :=
  row (fun _ => rfl) nofun

end Sys2Proof.Laws.PacketForm
end

