-- ==== Sys2Proof/Laws/Shared.lean ====
section
/-! SUPPORT. What the operations shared by the commands can change: an operation on voices, the grant decision, the transmitter's choice, and
the order of the Control Unit's controls. -/

namespace Sys2Proof.Machine

/-! ### Operations on voices change voices and notices alone -/

/-- An operation on voice v changes that voice and the Notice Unit alone. -/
theorem Device.onVoice_frame (d : Device) (v : Fin 32) (f : Ctx → Voice → Voice × List Event) :
    d.onVoice v f = (d.setVoice v (f (d.ctx v) (d.voice v)).1).setNtu (d.onVoice v f).ntu := by
  show (d.setVoice v (f (d.ctx v) (d.voice v)).1).postAll (f (d.ctx v) (d.voice v)).2 = _
  rw [Device.postAll_frame]; rfl

/-- An operation on every voice changes voices and the Notice Unit alone. -/
theorem Device.onVoices_frame (f : Ctx → Voice → Voice × List Event) (d : Device) :
    d.onVoices f = (d.setVoices (d.onVoices f).voices).setNtu (d.onVoices f).ntu := by
  have key : ∀ (vs : List (Fin 32)) (e : Device), vs.foldl (fun d v => d.onVoice v f) e =
      (e.setVoices (vs.foldl (fun d v => d.onVoice v f) e).voices).setNtu (vs.foldl (fun d v => d.onVoice v f) e).ntu := by
    intro vs
    induction vs with
    | nil => intro e; rfl
    | cons v vs ih =>
      intro e
      rw [List.foldl_cons, ih (e.onVoice v f)]
      rw [Device.onVoice_frame e v f]
      rfl
  exact key allVoices d

@[simp] theorem Device.onVoice_bli (d : Device) (v : Fin 32) (f : Ctx → Voice → Voice × List Event) :
    (d.onVoice v f).bli = d.bli := by
  rw [Device.onVoice_frame]; rfl
@[simp] theorem Device.onVoice_ctu (d : Device) (v : Fin 32) (f : Ctx → Voice → Voice × List Event) :
    (d.onVoice v f).ctu = d.ctu := by
  rw [Device.onVoice_frame]; rfl
@[simp] theorem Device.onVoice_stu (d : Device) (v : Fin 32) (f : Ctx → Voice → Voice × List Event) :
    (d.onVoice v f).stu = d.stu := by
  rw [Device.onVoice_frame]; rfl
@[simp] theorem Device.onVoice_lines (d : Device) (v : Fin 32) (f : Ctx → Voice → Voice × List Event) :
    (d.onVoice v f).lines = d.lines := by
  rw [Device.onVoice_frame]; rfl
@[simp] theorem Device.onVoice_ports (d : Device) (v : Fin 32) (f : Ctx → Voice → Voice × List Event) :
    (d.onVoice v f).ports = d.ports := by
  rw [Device.onVoice_frame]; rfl
@[simp] theorem Device.onVoice_tks (d : Device) (v : Fin 32) (f : Ctx → Voice → Voice × List Event) :
    (d.onVoice v f).tks = d.tks := by
  rw [Device.onVoice_frame]; rfl
@[simp] theorem Device.onVoice_siu (d : Device) (v : Fin 32) (f : Ctx → Voice → Voice × List Event) :
    (d.onVoice v f).siu = d.siu := by
  rw [Device.onVoice_frame]; rfl
@[simp] theorem Device.onVoice_smc (d : Device) (v : Fin 32) (f : Ctx → Voice → Voice × List Event) :
    (d.onVoice v f).smc = d.smc := by
  rw [Device.onVoice_frame]; rfl
@[simp] theorem Device.onVoice_pwc (d : Device) (v : Fin 32) (f : Ctx → Voice → Voice × List Event) :
    (d.onVoice v f).pwc = d.pwc := by
  rw [Device.onVoice_frame]; rfl

@[simp] theorem Device.onVoices_bli (d : Device) (f : Ctx → Voice → Voice × List Event) :
    (d.onVoices f).bli = d.bli := by
  rw [Device.onVoices_frame]; rfl
@[simp] theorem Device.onVoices_ctu (d : Device) (f : Ctx → Voice → Voice × List Event) :
    (d.onVoices f).ctu = d.ctu := by
  rw [Device.onVoices_frame]; rfl
@[simp] theorem Device.onVoices_stu (d : Device) (f : Ctx → Voice → Voice × List Event) :
    (d.onVoices f).stu = d.stu := by
  rw [Device.onVoices_frame]; rfl
@[simp] theorem Device.onVoices_lines (d : Device) (f : Ctx → Voice → Voice × List Event) :
    (d.onVoices f).lines = d.lines := by
  rw [Device.onVoices_frame]; rfl
@[simp] theorem Device.onVoices_ports (d : Device) (f : Ctx → Voice → Voice × List Event) :
    (d.onVoices f).ports = d.ports := by
  rw [Device.onVoices_frame]; rfl
@[simp] theorem Device.onVoices_tks (d : Device) (f : Ctx → Voice → Voice × List Event) :
    (d.onVoices f).tks = d.tks := by
  rw [Device.onVoices_frame]; rfl
@[simp] theorem Device.onVoices_siu (d : Device) (f : Ctx → Voice → Voice × List Event) :
    (d.onVoices f).siu = d.siu := by
  rw [Device.onVoices_frame]; rfl
@[simp] theorem Device.onVoices_smc (d : Device) (f : Ctx → Voice → Voice × List Event) :
    (d.onVoices f).smc = d.smc := by
  rw [Device.onVoices_frame]; rfl
@[simp] theorem Device.onVoices_pwc (d : Device) (f : Ctx → Voice → Voice × List Event) :
    (d.onVoices f).pwc = d.pwc := by
  rw [Device.onVoices_frame]; rfl

/-- An operation on voice v gives it the operation's voice. -/
@[simp] theorem Device.onVoice_voice_self (d : Device) (v : Fin 32) (f : Ctx → Voice → Voice × List Event) :
    (d.onVoice v f).voice v = (f (d.ctx v) (d.voice v)).1 := by
  rw [Device.onVoice_frame]; simp

/-- An operation on voice v leaves the other voices. -/
theorem Device.onVoice_voice_ne (d : Device) {v u : Fin 32} (f : Ctx → Voice → Voice × List Event) (h : u ≠ v) :
    (d.onVoice v f).voice u = d.voice u := by
  rw [Device.onVoice_frame]; simp [Device.voice_setVoice_ne, h]

/-! ### The grant decision (R147, R148) -/

/-- R147: a grant decision grants nothing, or what it chooses. -/
theorem Device.grant_cases (d : Device) :
    (d.grant = d ∧ d.Settled) ∨ (d.mayGrant = true ∧ ∃ c, d.choose = some c ∧ d.grant = d.grantChoice c) := by
  unfold Device.grant
  split
  · rename_i h
    split
    · rename_i c hc; exact .inr ⟨h, c, hc, rfl⟩
    · rename_i hc; exact .inl ⟨rfl, fun _ => hc⟩
  · rename_i h
    exact .inl ⟨rfl, Device.settled_of_not_mayGrant (by simpa using h)⟩

@[simp] theorem Device.grantChoice_stu (c : Choice) (d : Device) : (d.grantChoice c).stu = d.stu := by
  cases c <;> simp only [Device.grantChoice, Device.grantRefresh, Device.grantFetch, Device.grantIntake, Device.grantPeek,
    Device.grantVerify, Device.grantSelftest, Device.occupy, Device.popSample] <;> (try split) <;> rfl
@[simp] theorem Device.grantChoice_lines (c : Choice) (d : Device) : (d.grantChoice c).lines = d.lines := by
  cases c <;> simp only [Device.grantChoice, Device.grantRefresh, Device.grantFetch, Device.grantIntake, Device.grantPeek,
    Device.grantVerify, Device.grantSelftest, Device.occupy, Device.popSample] <;> (try split) <;> rfl
@[simp] theorem Device.grantChoice_ports (c : Choice) (d : Device) : (d.grantChoice c).ports = d.ports := by
  cases c <;> simp only [Device.grantChoice, Device.grantRefresh, Device.grantFetch, Device.grantIntake, Device.grantPeek,
    Device.grantVerify, Device.grantSelftest, Device.occupy, Device.popSample] <;> (try split) <;> rfl
@[simp] theorem Device.grantChoice_ntu (c : Choice) (d : Device) : (d.grantChoice c).ntu = d.ntu := by
  cases c <;> simp only [Device.grantChoice, Device.grantRefresh, Device.grantFetch, Device.grantIntake, Device.grantPeek,
    Device.grantVerify, Device.grantSelftest, Device.occupy, Device.popSample] <;> (try split) <;> rfl
@[simp] theorem Device.grantChoice_pwc (c : Choice) (d : Device) : (d.grantChoice c).pwc = d.pwc := by
  cases c <;> simp only [Device.grantChoice, Device.grantRefresh, Device.grantFetch, Device.grantIntake, Device.grantPeek,
    Device.grantVerify, Device.grantSelftest, Device.occupy, Device.popSample] <;> (try split) <;> rfl

@[simp] theorem Device.grant_stu (d : Device) : d.grant.stu = d.stu := by
  rcases d.grant_cases with ⟨h, -⟩ | ⟨-, c, -, h⟩ <;> rw [h]
  exact Device.grantChoice_stu c d
@[simp] theorem Device.grant_lines (d : Device) : d.grant.lines = d.lines := by
  rcases d.grant_cases with ⟨h, -⟩ | ⟨-, c, -, h⟩ <;> rw [h]
  exact Device.grantChoice_lines c d
@[simp] theorem Device.grant_ports (d : Device) : d.grant.ports = d.ports := by
  rcases d.grant_cases with ⟨h, -⟩ | ⟨-, c, -, h⟩ <;> rw [h]
  exact Device.grantChoice_ports c d
@[simp] theorem Device.grant_ntu (d : Device) : d.grant.ntu = d.ntu := by
  rcases d.grant_cases with ⟨h, -⟩ | ⟨-, c, -, h⟩ <;> rw [h]
  exact Device.grantChoice_ntu c d
@[simp] theorem Device.grant_pwc (d : Device) : d.grant.pwc = d.pwc := by
  rcases d.grant_cases with ⟨h, -⟩ | ⟨-, c, -, h⟩ <;> rw [h]
  exact Device.grantChoice_pwc c d

/-- R166: a grant decision sends no reply. -/
@[simp] theorem Device.grant_replyQ (d : Device) : d.grant.bli.replyQ = d.bli.replyQ := by
  rcases d.grant_cases with ⟨h, -⟩ | ⟨-, c, -, h⟩ <;> rw [h]
  cases c <;> simp only [Device.grantChoice, Device.grantRefresh, Device.grantFetch, Device.grantIntake, Device.grantPeek,
    Device.grantVerify, Device.grantSelftest, Device.occupy, Device.popSample] <;> (try split) <;> (try rfl)
  simp only [Device.setSmc_bli, Device.setSiu_bli, Device.setBli_bli, Bli.departed]
  split <;> rfl

/-- R165: a grant decision takes no control. -/
@[simp] theorem Device.grant_controlQ (d : Device) : d.grant.bli.controlQ = d.bli.controlQ := by
  rcases d.grant_cases with ⟨h, -⟩ | ⟨-, c, -, h⟩ <;> rw [h]
  cases c <;> simp only [Device.grantChoice, Device.grantRefresh, Device.grantFetch, Device.grantIntake, Device.grantPeek,
    Device.grantVerify, Device.grantSelftest, Device.occupy, Device.popSample] <;> (try split) <;> (try rfl)
  simp only [Device.setSmc_bli, Device.setSiu_bli, Device.setBli_bli, Bli.departed]
  split <;> rfl

/-- R147: after a grant a burst occupies the store port. -/
theorem Device.grantChoice_port {d : Device} {c : Choice} (h : d.choose = some c) : (d.grantChoice c).smc.port ≠ none := by
  cases c with
  | refresh => simp [Device.grantChoice, Device.grantRefresh]
  | fetch v =>
    have hw : (d.voice v).waits = true := by
      have hp : ∀ level w, d.pickVoice level = some w → (d.voice w).waits = true := by
        intro level w hw
        have := List.find?_some hw
        simp only [Bool.and_eq_true] at this
        exact this.1
      simp only [Device.choose] at h
      split at h
      · cases h
      · split at h
        · rename_i u hu; cases h; exact hp _ _ hu
        · split at h
          · cases h
          · split at h
            · rename_i u hu; cases h; exact hp _ _ hu
            · split at h
              · cases h
              · simp only [Device.chooseLast] at h
                (repeat' split at h) <;> cases h
    simp only [Device.grantChoice, Device.grantFetch]
    unfold Voice.waits at hw
    split <;> simp_all
  | intake =>
    have hw : d.siu.waits = true := by
      simp only [Device.choose, Device.chooseLast] at h
      (repeat' split at h) <;> simp_all
    simp only [Device.grantChoice, Device.grantIntake]
    unfold Siu.waits at hw
    split <;> simp_all
  | peek =>
    have hw : d.ctu.waits = true := by
      simp only [Device.choose, Device.chooseLast] at h
      (repeat' split at h) <;> simp_all
    simp only [Device.grantChoice, Device.grantPeek]
    unfold Ctu.waits at hw
    split <;> simp_all [Device.occupy]
  | verify => simp [Device.grantChoice, Device.grantVerify, Device.occupy]
  | selftest =>
    simp only [Device.grantChoice, Device.grantSelftest]
    split <;> simp

/-! ### The Control Unit (R165) -/

/-- R165: with no control waiting the Control Unit takes none. -/
theorem Device.runCtu_nil (d : Device) (h : d.bli.controlQ = []) : d.runCtu = d := by simp [Device.runCtu, h, takeControls]

/-- R165: a Control Unit that may not take a control takes none. -/
theorem Device.runCtu_busy (d : Device) (h : d.mayTake = false) : d.runCtu = d := by
  unfold Device.runCtu
  cases hq : d.bli.controlQ with
  | nil => simp [takeControls]
  | cons c rest => simp [takeControls, hq, h]

/-! ### The sample queue (R186) -/

/-- R186: a departure changes the flow state alone. -/
theorem Bli.departed_frame (b : Bli) : b.departed = { b with flow := b.departed.flow } := by
  unfold Bli.departed; split <;> rfl

/-- R186: an arrival changes the flow state alone. -/
theorem Bli.arrived_frame (b : Bli) : b.arrived = { b with flow := b.arrived.flow } := by
  unfold Bli.arrived; split <;> rfl

/-! ### Markers (R105) -/

/-- R105: the entries of a table after an insertion. -/
theorem mem_insertMarker (m x : Marker) (table : List Marker) : x ∈ insertMarker m table ↔ x = m ∨ x ∈ table := by
  induction table with
  | nil => simp [insertMarker]
  | cons y ys ih =>
    simp only [insertMarker]
    split
    · simp only [List.mem_cons, ih]; tauto
    · simp [List.mem_cons]

/-! ### The stream table (R132) -/

/-- R132: the entry found for a tag holds that tag, and stands in the table. -/
theorem Siu.entry_some {s : Siu} {tag : BitVec 16} {e : StreamEntry} (h : s.entry tag = some e) : e.tag = tag ∧ e ∈ s.entries := by
  refine ⟨?_, List.mem_of_find?_eq_some h⟩
  have := List.find?_some h
  simpa using this

/-- R132: no entry is found exactly when none holds the tag. -/
theorem Siu.entry_none {s : Siu} {tag : BitVec 16} : s.entry tag = none ↔ ∀ e ∈ s.entries, e.tag ≠ tag := by
  simp [Siu.entry, List.find?_eq_none]

/-! ### The release of RSTN (R191) -/

/-- R191: a release after a power-on under RSTN is the cold reset of that power-on, whatever FULLN is. -/
theorem releasesWarm_held {x : Testing} (h : x.dev.pwc.powerHeld = true) :
    releasesWarm x = releasesCold x ∧ releasesCold x = { dev := x.dev.coldReset .powerOn, mem := [] } := by
  simp [releasesWarm, releasesCold, Device.coldCause, h]

/-- R191: any other release with FULLN high is a warm reset, and one with FULLN low a cold reset by the reset line. -/
theorem releases_free {x : Testing} (h : x.dev.pwc.powerHeld = false) :
    releasesWarm x = { x with dev := x.dev.warmReset .resetLineWarm } ∧ releasesCold x = { dev := x.dev.coldReset .resetLineCold, mem := [] } := by
  simp [releasesWarm, releasesCold, Device.coldCause, h]

end Sys2Proof.Machine
end

