-- ==== Sys2Proof/Tests/Slice0.lean ====
section
/-! SUPPORT. The model's own tests: what a check of WellFormed refuses, worked examples of the manual, one small run of each command, and for
each statement with hypotheses concrete values that meet them. Each theorem that stands for an example of the manual names its section. -/

namespace Sys2Proof.Tests

set_option Elab.async false

open Sys2Proof Sys2Proof.Machine

/-! ### WellFormed: an ill-formed term for each check, refused -/

theorem test_wf_control_body : wellFormed (.ident 0 (List.replicate 1025 0)) = false := by decide +kernel
theorem test_wf_control_body_most : wellFormed (.ident 0 (List.replicate 1024 0)) = true := by decide +kernel
theorem test_wf_known_code : wellFormed (.unknownControl 0 0x02 []) = false := by decide +kernel
theorem test_wf_unknown_code : wellFormed (.unknownControl 0 0x04 []) = true := by decide +kernel
theorem test_wf_sample_format : wellFormed (.samplePacket 0 0x00 0 1 [0, 0]) = false := by decide +kernel
theorem test_wf_sample_size : wellFormed (.samplePacket 0 0x10 0 2 [0, 0]) = false := by decide +kernel
theorem test_wf_sample : wellFormed (.samplePacket 0 0x10 0 1 [0, 0]) = true := by decide +kernel
theorem test_wf_sample_most : wellFormed (.samplePacket 0 0x10 0 505 (List.replicate 1010 0)) = false := by decide +kernel
theorem test_wf_packet_body : wellFormed (.controlPacket 0 0 (List.replicate 1025 0)) = false := by decide +kernel
theorem test_wf_good_packet : wellFormed (.badPacket 0x03 (List.replicate 11 0 ++ [0x9F, 0x14, 0x4B, 0x0C])) = false := by decide +kernel
theorem test_wf_bad_packet : wellFormed (.badPacket 0x03 (List.replicate 11 0 ++ [0, 0, 0, 0])) = true := by decide +kernel
theorem test_wf_upset_word : wellFormed (.selftestStepComplete [(128, 1)]) = false := by decide +kernel
theorem test_wf_upset_bits : wellFormed (.selftestStepComplete [(127, 0)]) = false := by decide +kernel
theorem test_wf_upset_twice : wellFormed (.selftestStepComplete [(5, 1), (5, 2)]) = false := by decide +kernel
theorem test_wf_upset : wellFormed (.selftestStepComplete [(127, 1), (0, 2)]) = true := by decide +kernel

/-! ### Worked examples of the manual -/

/-- 06 section 6.2: the check of the nine bytes. -/
theorem test_check_example : crc16 [0x31, 0x32, 0x33, 0x34, 0x35, 0x36, 0x37, 0x38, 0x39] = 0x29B1 := by decide +kernel

/-- 06 section 6.2: the three IQ12 samples of the nine bytes, expanded by 04 section 4.2 to 16 times their values. -/
theorem test_iq12_example : expandSamples .iq12 [0x31, 0x32, 0x33, 0x34, 0x35, 0x36, 0x37, 0x38, 0x39] 0 3 =
    [⟨787 * 16, 563 * 16⟩, ⟨835 * 16, 1334 * 16⟩, ⟨883 * 16, -1991 * 16⟩] := by decide +kernel

/-- 06 section 6.1: block 70,000 of a resident take, and stream block 200,000 of a ring, on segments 5, 9 and 2. -/
theorem test_locating_a_block :
    (Take.opened .resident .iq8 [5, 9, 2] 1).blockAddress 70000 = 71680000 ∧
    (Take.opened .ring .iq8 [5, 9, 2] 1).blockAddress 200000 = 5 * 33554432 + 3392 * 1024 := by decide +kernel

/-- 06 section 6.5: closing a resident take with holes. -/
theorem test_closing_with_holes :
    let t := ([0, 1, 2, 3, 5, 6, 7, 8, 9, 12, 7].map (fun n => (n, 336)) ++ [(12, 100)]).foldl
      (fun (t : Take) (b : Nat × Nat) => t.recordWrite
        { packet := { tag := 0, seq := BitVec.ofNat 32 b.1, count := b.2, format := .iq12, last := false, data := [] }, take := 11,
          opening := 1, addr := 0, placing := .resident, stands := true }) (Take.opened .resident .iq12 [0] 1)
    t.closed.blockCount = 13 ∧ t.closed.length = 4132 ∧ t.closed.holes = 3 := by decide +kernel

/-- 04 section 4.5: the values of f on an axis. -/
theorem test_axis_examples :
    rotate ⟨32767, 16385⟩ 0 = ⟨32766, 16384⟩ ∧ rotate ⟨-16384, -32768⟩ 0 = ⟨-16383, -32767⟩ ∧ rotate ⟨0, -32768⟩ 1024 = ⟨32767, 0⟩ := by decide +kernel

/-- 04 section 4.10: one sample of voice 3, from its stored form to the voice output. -/
theorem test_voice_output_example :
    rotate ⟨16000, -8192⟩ 512 = ⟨17106, 5521⟩ ∧ voiceOutput ⟨16000, -8192⟩ 0x20000000 48 = ⟨8573, 2767⟩ := by decide +kernel

/-- 04 section 4.10: the sample through port 1, from the two handed pairs to the mix; it is not a clip. -/
theorem test_port_mix_example :
    let m := Port.mix (portSum 1 [(1, ⟨8573, 2767⟩), (1, ⟨-20000, 30000⟩), (2, ⟨1, 1⟩)])
      { enable := true, headroom := 1, atten := 0, width := .w14, pause := .hold, clip := 0, last := ⟨0, 0⟩ }
    m.out = ⟨-1428, 4096⟩ ∧ m.clips = false := by decide +kernel

/-- 04 section 4.10: the three ticks of the clip at 14 bits. -/
theorem test_clip_example :
    mixComponent .w14 0 0 42000 = (8191, some .port) ∧ mixComponent .w14 0 0 (-1000) = (-250, none) ∧
    mixComponent .w14 0 0 32766 = (8191, some .dac) ∧ mixComponent .w14 0 0 32765 = (8191, none) := by decide +kernel

/-- 09 section 9.3: the chain that loads two cues into voice 3. -/
def cueChain : List Byte :=
  [0x00] ++ tupleBytes 0x10 (leBytes 2 0x300 ++ [9] ++ leBytes 4 0 ++ leBytes 4 0 ++ [1, 0, 1]) ++
    tupleBytes 0x14 (leBytes 2 200 ++ leBytes 2 16) ++ tupleBytes 0x01 [3] ++ tupleBytes 0xE0 [1, 2, 3, 4, 5] ++
    tupleBytes 0x10 (leBytes 2 0x301 ++ [9] ++ leBytes 4 4032 ++ leBytes 4 1000 ++ [0, 1, 0]) ++ tupleBytes 0x11 (leBytes 6 480000) ++
    tupleBytes 0x16 [2] ++ [0xFF]

/-- 09 section 9.3: the argument of the chain. -/
theorem test_cue_chain_argument : (readChain cueChain).bind (argument 0x01) = some [3] := by decide +kernel

/-- 09 section 9.3: what each cue of the chain plays. -/
theorem test_cue_chain_cues :
    ((readChain cueChain).bind cuesOf).map (List.map (fun c => (c.cue.label, c.take, c.cue.start, c.cue.length, c.cue.count))) =
      some [(0x300, 9, 0, 0, 1), (0x301, 9, 4032, 1000, 0)] := by decide +kernel

/-- 09 section 9.3: what the optional tuples of the chain attach to its cues. -/
theorem test_cue_chain_options :
    ((readChain cueChain).bind cuesOf).map (List.map (fun c => (c.cue.ramp, c.cue.mode, c.cue.endAction, c.cue.notifyEnd))) =
      some [(some (200, 16), .follow, .held, false), (none, .atTime 480000, .zero, true)] := by decide +kernel

/-! ### Values that meet the hypotheses of the statements -/

/-- The part right after power-on. -/
def board : Device := State.reset.dev

/-- A state with device `d`, as after power-on otherwise. -/
def stateOf (d : Device) : State := State.reset.setDev d

/-- Every segment GOOD and the self-test engine idle, while the re-initialisation still runs. -/
def tested : Device :=
  board.setSmc { Smc.reset with segs := Vector.replicate 64 .good, engine := { Engine.reset with state := .idle, stage := .idle } }

/-- A FOLLOW cue of 3 samples from sample 5 of take 63, playing twice. -/
def plainCue : Cue :=
  { label := 9, take := 63, start := 5, length := 3, count := 2, mode := .follow, endAction := .held, entry := none, ramp := none,
    freq := 0, phase := none, notifyStart := true, notifyEnd := true, verdict := .undecided }

/-- A part in the re-initialisation takes a control with a right chain at its arrival. -/
theorem takes_of {d : Device} {body : List Byte} {ts : List Tuple} (hp : d.pwc = board.pwc) (hc : d.ctu = .free) (hb : d.bli = board.bli)
    (hr : d.smc.reinit = true) (hl : body.length ≤ 1024) (h : readChain body = some ts) : (stateOf d).Takes body ts where
  listening := by
    constructor
    · show d.pwc.rstn = false; rw [hp]; rfl
    · show d.pwc.power = .active; rw [hp]; rfl
    · exact hc
    · show d.bli.controlQ = []; rw [hb]; rfl
    · show d.bli.replyQ.length < 4; rw [hb]; decide
  settled := Device.settled_of_not_mayGrant (by show d.mayGrant = false; simp [Device.mayGrant, hr])
  fits := hl
  chain := h

theorem test_witness_EmptyQueueIdles : State.reset.pending = [] := rfl

theorem test_witness_ControlRowsArePackets : (Instr.ident 5 [0xFF]).control = some (5, 0x01, [0xFF]) := rfl

/-- Codes 1 and 254, data of 0 and of 254 bytes, with and without NULL padding, in the table and outside it, and a MARK of each length. -/
theorem test_witness_ChainsReadBack :
    ∀ x ∈ [(2, (⟨1, [31]⟩ : Tuple)), (0, ⟨254, []⟩), (1, ⟨253, List.replicate 254 7⟩), (0, ⟨0x38, leBytes 6 100 ++ [7, 2]⟩),
        (0, ⟨0x38, leBytes 6 100 ++ [7, 3, 1, 0]⟩)],
      1 ≤ x.2.code ∧ x.2.code ≤ 254 ∧ x.2.data.length ≤ 254 ∧ tupleFits x.2.code x.2.data = true := by decide +kernel

/-- 09 section 9.6: a MARK whose length disagrees with its action makes any control's body malformed. -/
theorem test_mark_link :
    readChain (tupleBytes 0x38 (leBytes 6 100 ++ [7, 0, 1, 0]) ++ [0xFF]) = none ∧
      readChain (tupleBytes 0x38 (leBytes 6 100 ++ [7, 3]) ++ [0xFF]) = none := by decide +kernel

/-- A full block of IQ8 under the greatest opening number. -/
def fullBlock : Judged :=
  { packet := { tag := 7, seq := 0xFFFFFFFF, count := 504, format := .iq8, last := true, data := List.replicate 1008 5 }, take := 63,
    opening := 16777215, addr := 0, placing := .first, stands := true }

theorem test_witness_IntakeBlockReadsBack :
    1 ≤ fullBlock.packet.count ∧ fullBlock.packet.count ≤ fullBlock.packet.format.spb ∧
      fullBlock.packet.data.length = fullBlock.packet.count * fullBlock.packet.format.bps ∧ fullBlock.opening < 2 ^ 24 := by decide +kernel

theorem test_witness_IdentReplies : (stateOf board).Takes [0xFF] [] := takes_of rfl rfl rfl rfl (by decide) rfl

/-- Each target, with the last index of its objects and, for three targets, the first one out of range. -/
theorem test_witness_QueryReplies :
    (stateOf board).Takes (queryBody 0 255 [0xFF]) [⟨7, [0, 255]⟩] ∧ (stateOf board).Takes (queryBody 1 31 [0xFF]) [⟨7, [1, 31]⟩] ∧
    (stateOf board).Takes (queryBody 1 32 [0xFF]) [⟨7, [1, 32]⟩] ∧ (stateOf board).Takes (queryBody 2 63 [0xFF]) [⟨7, [2, 63]⟩] ∧
    (stateOf board).Takes (queryBody 2 64 [0xFF]) [⟨7, [2, 64]⟩] ∧ (stateOf board).Takes (queryBody 3 3 [0xFF]) [⟨7, [3, 3]⟩] ∧
    (stateOf board).Takes (queryBody 3 4 [0xFF]) [⟨7, [3, 4]⟩] ∧ (stateOf board).Takes (queryBody 4 0 [0xFF]) [⟨7, [4, 0]⟩] ∧
    (stateOf board).Takes (queryBody 5 0 [0xFF]) [⟨7, [5, 0]⟩] ∧ (stateOf board).Takes (queryBody 6 0 [0xFF]) [⟨7, [6, 0]⟩] := by
  refine ⟨?_, ?_, ?_, ?_, ?_, ?_, ?_, ?_, ?_, ?_⟩ <;> exact takes_of rfl rfl rfl rfl (by decide) rfl

theorem test_witness_query_argument : ∀ k ∈ [0, 1, 2, 3, 4, 5, 6], argument 7 [⟨7, [k, 63]⟩] = some [k, (63 : Byte)] := by decide

theorem test_witness_UnknownCodeReplies :
    State.reset.Listening ∧ State.reset.dev.Settled ∧ (List.replicate 1024 (0 : Byte)).length ≤ 1024 ∧
      ∀ code ∈ [(0 : Byte), 0x04, 0xFF], code.toNat ∉ [0x01, 0x02, 0x03, 0x10, 0x11, 0x12, 0x13, 0x14, 0x18, 0x19, 0x20, 0x21, 0x22, 0x28,
        0x29, 0x2A, 0x2B, 0x30, 0x31, 0x32, 0x33, 0x34, 0x38, 0x39, 0x40, 0x41, 0x48, 0x4F] :=
  ⟨(takes_of (d := board) (body := [0xFF]) rfl rfl rfl rfl (by decide) rfl).listening,
    (takes_of (d := board) (body := [0xFF]) rfl rfl rfl rfl (by decide) rfl).settled, by decide +kernel, by decide⟩

/-- A tuple with a link of 255, one that runs past the end, a body without END, and a known tuple of another length. -/
theorem test_witness_MalformedBodyReplies :
    readChain ([0x01, 0xFF] ++ List.replicate 255 0 ++ [0xFF]) = none ∧ readChain [0x01, 0x02, 0x00] = none ∧ readChain [0x00] = none ∧
      readChain [0x01, 0x02, 0x00, 0x00, 0xFF] = none := by decide +kernel

theorem test_witness_RefusedControlsChangeNothing :
    carryOut ⟨0, 0x04, []⟩ board = (board, some (.unknown, [])) ∧ 2 ≤ Status.unknown.code := ⟨rfl, by decide⟩

theorem test_witness_ControlsMoveSceneByTable : carryOut ⟨0, 0x33, [0xFF]⟩ board = (board.stopScene, some (.ok, [[leBytes 6 0]])) := rfl

/-- A frozen scene. -/
def frozenBoard : Device := board.setStu { Stu.reset with scene := .running, frozen := true }

theorem test_witness_FrozenSceneRefuses :
    frozenBoard.stu.frozen = true ∧
    (stateOf frozenBoard).Takes [0x20, 2, 31, 3, 0xFF] [⟨0x20, [31, 3]⟩] ∧ (readAll voiceSettingOf [⟨0x20, [31, 3]⟩]).isSome ∧
    (stateOf frozenBoard).Takes [0x2B, 2, 3, 16, 0xFF] [⟨0x2B, [3, 16]⟩] ∧ (readAll portSettingOf [⟨0x2B, [3, 16]⟩]).isSome ∧
    (stateOf frozenBoard).Takes [0x31, 2, 7, 3, 0xFF] [⟨0x31, [7, 3]⟩] ∧ (readAll lineSettingOf [⟨0x31, [7, 3]⟩]).isSome ∧
    (stateOf frozenBoard).Takes ([0x38, 8, 0, 0, 0, 0, 0, 0, 7, 2] ++ [0xFF]) [⟨0x38, [0, 0, 0, 0, 0, 0, 7, 2]⟩] ∧
      (readAll markerOf [⟨0x38, [0, 0, 0, 0, 0, 0, 7, 2]⟩]).isSome ∧
    (stateOf frozenBoard).Takes (flushBody 0 [1, 1, 31, 0xFF]) [⟨6, [0]⟩, ⟨1, [31]⟩] ∧
    (stateOf frozenBoard).Takes (flushBody 1 [1, 1, 31, 0xFF]) [⟨6, [1]⟩, ⟨1, [31]⟩] := by
  refine ⟨rfl, ?_, by decide, ?_, by decide, ?_, by decide, ?_, by decide, ?_, ?_⟩ <;> exact takes_of rfl rfl rfl rfl (by decide) rfl

theorem test_witness_flush_arguments :
    (argument 1 [⟨6, [0]⟩, ⟨1, [31]⟩]).isSome ∧ argument 6 [⟨6, [0]⟩, ⟨1, [31]⟩] = some [0] ∧
      argument 6 [⟨6, [1]⟩, ⟨1, [31]⟩] = some [1] ∧ argument 1 [⟨6, [1]⟩, ⟨1, [31]⟩] = some [BitVec.ofNat 8 31] := by decide

theorem test_witness_CaptureReadEmptiesList :
    (stateOf (board.setStu { Stu.reset with captures := [⟨7, .fall, 9, .armed⟩], overrun := true })).Takes [0xFF] [] :=
  takes_of rfl rfl rfl rfl (by decide) rfl

/-! Takes and streams. -/

/-- One segment, and all 64. -/
theorem test_witness_TakeOpenAllocates :
    (∀ k ∈ [1, 64], readChain [5, 4, 63, 0, 3, BitVec.ofNat 8 k, 0xFF] = some [⟨5, [63, 0, 3, BitVec.ofNat 8 k]⟩]) ∧
    argument 0x05 [⟨5, [63, 0, 3, 64]⟩] = some [BitVec.ofNat 8 63, BitVec.ofNat 8 TakeKind.resident.code, BitVec.ofNat 8 Format.iq16.code,
      BitVec.ofNat 8 64] ∧
    (stateOf tested).Takes [5, 4, 63, 0, 3, 64, 0xFF] [⟨5, [63, 0, 3, 64]⟩] ∧ (tested.take 63).state = .free ∧
    tested.smc.engine.state = .idle ∧
    64 ≤ (all64.filter (fun g => decide (∀ u : Fin 64, g ∉ (tested.take u).segments) && decide (tested.smc.segs[g] = .good))).length := by
  refine ⟨by decide, by decide, takes_of rfl rfl rfl rfl (by decide) rfl, rfl, rfl, by decide +kernel⟩

theorem test_witness_TakeOpenChecks :
    ∀ id ∈ [(63 : Byte), 64], ∀ k ∈ [(0 : Byte), 1, 64, 65], ∀ kind ∈ [(1 : Byte), 2], ∀ f ∈ [(0 : Byte), 1, 3, 4],
      readChain [5, 4, id, kind, f, k, 0xFF] = some [⟨5, [id, kind, f, k]⟩] ∧ argument 5 [⟨5, [id, kind, f, k]⟩] = some [id, kind, f, k] := by
  decide +kernel

/-- Take 63 FILLING, bound to stream tag 7, with blocks 0 and 2 written. -/
def filling : Device :=
  (tested.setTake 63 { Take.opened .resident .iq16 [0] 1 with written := [0, 2], lastCount := 100, tag := some 7 }).setSiu
    { Siu.reset with entries := [{ tag := 7, take := 63, accepted := 2, dropped := 0 }] }

/-- Take 63 LIVE, bound to stream tag 7, with blocks 0 to 9 written. -/
def live : Device :=
  (tested.setTake 63 { Take.opened .ring .iq16 [0] 1 with ring := some ⟨0, 10⟩, tag := some 7 }).setSiu
    { Siu.reset with entries := [{ tag := 7, take := 63, accepted := 10, dropped := 0 }] }

/-- A stream table of one entry agrees with the directory when the entry's take is the one bound take. -/
theorem streams_agree {d : Device} {e : StreamEntry} (he : d.siu.entries = [e]) (hb : (d.take e.take).tag = some e.tag)
    (hw : (d.take e.take).state = .filling ∨ (d.take e.take).state = .live) (hn : ∀ t : Fin 64, t ≠ e.take → (d.take t).tag = none) :
    d.StreamsAgree where
  tags := by simp [he]
  bound := by simp [he, hb]
  writable := by simp [he, hw]
  entered := by
    intro t g h
    by_cases ht : t = e.take
    · subst ht; rw [hb] at h; exact ⟨e, by simp [he], by simpa using h, rfl⟩
    · rw [hn t ht] at h; cases h

theorem test_witness_TakeCloseFixesResident :
    (stateOf filling).Takes [2, 1, 63, 0xFF] [⟨2, [63]⟩] ∧ argument 2 [⟨2, [63]⟩] = some [BitVec.ofNat 8 (63 : Fin 64).val] ∧
      (filling.take 63).state = .filling ∧ filling.StreamsAgree ∧ filling.siu.FreeOf (filling.take 63).tag :=
  ⟨takes_of rfl rfl rfl rfl (by decide) rfl, rfl, by decide +kernel,
    streams_agree rfl (by decide +kernel) (by decide +kernel) (by decide +kernel), ⟨(nofun), (nofun)⟩⟩

theorem test_witness_TakeCloseEndsRing :
    (stateOf live).Takes [2, 1, 63, 0xFF] [⟨2, [63]⟩] ∧ (live.take 63).state = .live ∧ live.StreamsAgree ∧
      live.siu.FreeOf (live.take 63).tag ∧ (live.take 0).state = .free ∧ (stateOf live).Takes [2, 1, 0, 0xFF] [⟨2, [0]⟩] :=
  ⟨takes_of rfl rfl rfl rfl (by decide) rfl, by decide +kernel,
    streams_agree rfl (by decide +kernel) (by decide +kernel) (by decide +kernel), ⟨(nofun), (nofun)⟩, by decide +kernel,
    takes_of rfl rfl rfl rfl (by decide) rfl⟩

/-- A FREE take, a READY one, an open one that no cue names, and one that a cue names. -/
theorem test_witness_TakeDropFrees :
    (live.take 0).state = .free ∧ (live.take 63).state ≠ .free ∧ (∀ v : Fin 32, ∀ c ∈ (live.voice v).cues, c.take ≠ 63) ∧
      ((tested.setTake 5 { Take.opened .resident .iq8 [1] 2 with state := .ready }).take 5).state = .ready ∧
      (∃ v : Fin 32, ∃ c ∈ ((live.setVoice 31 { Voice.reset 31 with cues := [plainCue], state := .priming }).voice v).cues, c.take = 63) := by
  decide +kernel

/-- Tag 7 is held by an entry, and tag 8 by none; take 63 FILLING and unbound, FREE, READY. -/
theorem test_witness_StreamsAreBoundAndUnbound :
    (stateOf filling).Takes [2, 1, 63, 4, 2, 7, 0, 0xFF] [⟨2, [63]⟩, ⟨4, [7, 0]⟩] ∧
      argument 2 [⟨2, [63]⟩, ⟨4, [7, 0]⟩] = some [BitVec.ofNat 8 (63 : Fin 64).val] ∧
      argument 4 [⟨2, [63]⟩, ⟨4, [7, 0]⟩] = some (leBytes 2 (7 : BitVec 16).toNat) ∧
      (∃ e ∈ filling.siu.entries, e.tag = 7) ∧ (∀ e ∈ filling.siu.entries, e.tag ≠ 8) ∧
      (filling.siu.entries.map StreamEntry.tag).Nodup ∧ filling.siu.FreeOf (some 7) ∧ (filling.take 62).state = .free ∧
      ((filling.setTake 62 { Take.opened .resident .iq16 [1] 2 with state := .ready }).take 62).state = .ready ∧
      ((filling.setTake 62 (Take.opened .resident .iq16 [1] 2)).take 62).tag = none :=
  ⟨takes_of rfl rfl rfl rfl (by decide) rfl, rfl, rfl, by decide, by decide, by decide, ⟨(nofun), (nofun)⟩, by decide +kernel, by decide +kernel,
    by decide +kernel⟩

/-- A judged packet of tag 7 at the head of the sample queue. -/
def judgedBoard : Device :=
  let p : SamplePkt := { tag := 7, seq := 3, count := 252, format := .iq16, last := false, data := [] }
  (filling.setBli { board.bli with sampleQ := [p] }).setSiu
    { filling.siu with
      stage := .judged { packet := p, take := 63, opening := 1, addr := 3072, placing := .resident, stands := true } }

theorem test_witness_UnboundPacketIsDropped :
    judgedBoard.pwc.power = .active ∧ judgedBoard.siu.entry 7 = some { tag := 7, take := 63, accepted := 2, dropped := 0 } ∧
      (∃ j, judgedBoard.siu.stage = .judged j ∧ j.packet.tag = 7) ∧ (∃ p rest, judgedBoard.bli.sampleQ = p :: rest ∧ p.tag = 7) :=
  ⟨rfl, rfl, ⟨_, rfl, rfl⟩, ⟨_, _, rfl, rfl⟩⟩

/-- A range of two blocks, an empty range, a verify that runs on another take, and a FREE take. -/
theorem test_witness_TakeVerifyStarts :
    (stateOf filling).Takes [2, 1, 63, 0xFF] [⟨2, [63]⟩] ∧ (filling.take 63).verifyRange = (0, 3) ∧
      (∀ u : Fin 64, (filling.take u).verify.state ≠ .running) ∧ (Take.opened .resident .iq16 [0] 1).verifyRange.2 = 0 ∧
      (∃ u : Fin 64, ((filling.setVerify 5 { Verify.none with state := .running }).take u).verify.state = .running) ∧
      (filling.take 5).state = .free :=
  ⟨takes_of rfl rfl rfl rfl (by decide) rfl, by decide +kernel, by decide +kernel, by decide +kernel, by decide +kernel, by decide +kernel⟩

/-- A FILLING take, a READY one, a ring with nothing written, and rings whose first block is above and below w - C. -/
theorem test_witness_VerifyRangeOfTake :
    ((filling.take 63).kind = .resident ∧ (filling.take 63).state = .filling) ∧
      ((filling.take 63).closed.kind = .resident ∧ (filling.take 63).closed.state = .ready) ∧
      ((Take.opened .ring .iq8 [0] 1).kind = .ring ∧ (Take.opened .ring .iq8 [0] 1).ring = none) ∧
      ({ Take.opened .ring .iq8 [0] 1 with ring := some ⟨5, 32773⟩ } : Take).verifyRange = (5, 32768) ∧
      ({ Take.opened .ring .iq8 [0] 1 with ring := some ⟨5, 32774⟩ } : Take).verifyRange = (6, 32768) ∧
      ({ Take.opened .ring .iq8 [0] 1 with ring := some ⟨0xFFFFFFF0, 4⟩ } : Take).verifyRange = (0xFFFFFFF0, 20) := by decide +kernel

/-- The last block of a resident take of one segment, the first one beyond it, and any block of a ring. -/
theorem test_witness_TakePeekHolds :
    (stateOf filling).Takes ([2, 1, 63] ++ tupleBytes 3 (leBytes 4 32767) ++ [0xFF]) [⟨2, [63]⟩, ⟨3, leBytes 4 32767⟩] ∧
      (stateOf filling).Takes ([2, 1, 63] ++ tupleBytes 3 (leBytes 4 32768) ++ [0xFF]) [⟨2, [63]⟩, ⟨3, leBytes 4 32768⟩] ∧
      argument 3 [⟨2, [63]⟩, ⟨3, leBytes 4 32768⟩] = some (leBytes 4 (32768 : BlockNo).toNat) ∧
      (filling.take 63).segments.length * 32768 = 32768 ∧ (live.take 63).kind = .ring :=
  ⟨takes_of rfl rfl rfl rfl (by decide) rfl, takes_of rfl rfl rfl rfl (by decide) rfl, by decide +kernel, by decide +kernel, by decide +kernel⟩

/-- The first and the last block of a take of two segments, and two takes without a common segment. -/
theorem test_witness_BlockAddresses :
    (Take.opened .resident .iq8 [63, 0] 1).segments.Nodup ∧ 0 < (Take.opened .resident .iq8 [63, 0] 1).segments.length * 32768 ∧
      (65535 : Nat) < (Take.opened .resident .iq8 [63, 0] 1).segments.length * 32768 ∧
      (∀ g ∈ (Take.opened .resident .iq8 [63, 0] 1).segments, g ∉ (Take.opened .ring .iq8 [62] 2).segments) ∧
      (Take.opened .resident .iq8 [63, 0] 1).segments[32767 / 32768]? = some 63 := by decide +kernel

/-! Cues, voices, ports, lines and markers. -/

/-- The chain that loads one FOLLOW cue on take 63 into voice 31. -/
def oneCue : List Tuple := [⟨1, [31]⟩, ⟨0x10, leBytes 2 9 ++ [63] ++ leBytes 4 5 ++ leBytes 4 3 ++ [2, 0, 1]⟩]

theorem test_witness_CueLoadAppends :
    (stateOf filling).Takes (oneCue.flatMap (fun t => tupleBytes t.code t.data) ++ [0xFF]) oneCue ∧ argument 1 oneCue = some [31] ∧
      (cuesOf oneCue).isSome ∧ (filling.voice 31).cues.length + 1 ≤ 16 ∧ (filling.take 63).state ≠ .free ∧
      ({ Voice.reset 31 with cues := List.replicate 15 plainCue, cursor := .atTarget 0 1 0 0 } : Voice).cues.length + 1 = 16 ∧
      ({ Voice.reset 31 with cues := List.replicate 16 plainCue, cursor := .atTarget 0 1 0 0 } : Voice).cues.length + 1 = 17 :=
  ⟨takes_of rfl rfl rfl rfl (by decide) rfl, by decide, by decide, by decide +kernel, by decide +kernel, by decide, by decide⟩

/-- The first voice number and line and take numbers out of range. -/
theorem test_witness_cue_numbers :
    (∀ c ∈ (cuesOf [⟨1, [32]⟩, ⟨0x10, leBytes 2 9 ++ [64] ++ leBytes 4 5 ++ leBytes 4 3 ++ [2, 2, 1]⟩, ⟨0x12, [8]⟩]).getD [],
      64 ≤ c.take ∧ c.line = some 8) ∧
    (∀ c ∈ (cuesOf [⟨1, [31]⟩, ⟨0x10, leBytes 2 9 ++ [63] ++ leBytes 4 5 ++ leBytes 4 3 ++ [2, 2, 1]⟩, ⟨0x12, [7]⟩]).getD [],
      c.take = 63 ∧ c.line = some 7) := by decide +kernel

/-- A READY take of 6 samples, and a cue that starts at the last of them. -/
theorem test_witness_FirstCueIsRequested :
    let x : Ctx := { takes := Vector.replicate 64 { Take.opened .resident .iq16 [0] 1 with state := .ready, length := 6 }, time := 0, src := 42 }
    (Voice.reset 31).cues = [] ∧ (Voice.reset 31).slots = [] ∧ (Voice.reset 31).req = .none ∧ (Voice.reset 31).state = .idle ∧
      plainCue.verdict = .undecided ∧ 1 ≤ (Voice.reset 31).primeDepth ∧ (x.take plainCue).kind = .resident ∧
      (x.take plainCue).state = .ready ∧ plainCue.start.toNat < (x.take plainCue).length := by decide +kernel

theorem test_witness_CueFlushEmpties :
    board.stu.frozen = false ∧ argument 1 [⟨6, [1]⟩, ⟨1, [31]⟩] = some [BitVec.ofNat 8 (31 : Fin 32).val] ∧
      (stateOf board).Takes (flushBody 0 [1, 1, 31, 0xFF]) [⟨6, [0]⟩, ⟨1, [31]⟩] ∧
      (stateOf board).Takes (flushBody 1 [1, 1, 31, 0xFF]) [⟨6, [1]⟩, ⟨1, [31]⟩] :=
  ⟨rfl, by decide, takes_of rfl rfl rfl rfl (by decide) rfl, takes_of rfl rfl rfl rfl (by decide) rfl⟩

theorem test_witness_PendingFlushKeepsHead :
    ({ Voice.reset 0 with cues := [plainCue, plainCue], cursor := .atTarget 0 1 4 0 } : Voice).cursor = .atTarget 0 1 4 0 ∧
      ({ Voice.reset 0 with cues := [plainCue, plainCue], cursor := .atTarget 1 2 4 0 } : Voice).cursor = .atTarget (0 + 1) 2 4 0 :=
  ⟨rfl, rfl⟩

/-- A setting in range, a voice out of range, a port out of range, and a setting of no depth. -/
theorem test_witness_VoiceSetApplies :
    (stateOf board).Takes [0x23, 2, 31, 9, 0xFF] [⟨0x23, [31, 9]⟩] ∧ board.stu.frozen = false ∧
      readAll voiceSettingOf [⟨0x23, [31, 9]⟩] = some [⟨31, .prime 9⟩] ∧ ([⟨31, .prime 9⟩] : List VoiceSetting).all VoiceSetting.inRange = true ∧
      ([⟨32, .prime 9⟩] : List VoiceSetting).all VoiceSetting.inRange = false ∧
      ([⟨31, .port 4⟩] : List VoiceSetting).all VoiceSetting.inRange = false ∧
      (∀ v, ([⟨31, .port 3⟩] : List VoiceSetting).any (VoiceSetting.namesDepth v) = false) :=
  ⟨takes_of rfl rfl rfl rfl (by decide) rfl, rfl, by decide, by decide, by decide, by decide, by decide⟩

/-- Port 3 and line 7 with every value, and port 4 and line 8. -/
theorem test_witness_PortAndLineSetApply :
    (stateOf board).Takes [0x29, 2, 3, 255, 0xFF] [⟨0x29, [3, 255]⟩] ∧ readAll portSettingOf [⟨0x29, [3, 255]⟩] = some [⟨3, .headroom 255⟩] ∧
      readAll portSettingOf [⟨0x2A, [4, 0, 4]⟩] = some [⟨4, .atten 1024⟩] ∧
      (stateOf board).Takes [0x35, 2, 7, 1, 0xFF] [⟨0x35, [7, 1]⟩] ∧ readAll lineSettingOf [⟨0x35, [7, 1]⟩] = some [⟨7, .latch true⟩] ∧
      readAll lineSettingOf [⟨0x30, [8, 1]⟩] = some [⟨8, .dir .output⟩] :=
  ⟨takes_of rfl rfl rfl rfl (by decide) rfl, by decide, by decide, takes_of rfl rfl rfl rfl (by decide) rfl, by decide, by decide⟩

/-- A marker in range, a width of 0, a line of 8, and a table that the chain fills and one that it overfills. -/
theorem test_witness_MarkersStayOrdered :
    (stateOf board).Takes (tupleBytes 0x38 (leBytes 6 100 ++ [7, 3, 1, 0]) ++ [0xFF]) [⟨0x38, leBytes 6 100 ++ [7, 3, 1, 0]⟩] ∧
      readAll markerOf [⟨0x38, leBytes 6 100 ++ [7, 3, 1, 0]⟩] = some [⟨100, 7, .pulse 1⟩] ∧
      readAll markerOf [⟨0x38, leBytes 6 100 ++ [8, 3, 0, 0]⟩] = some [⟨100, 8, .pulse 0⟩] ∧
      (List.replicate 15 (⟨100, 0, .set⟩ : Marker)).length + 1 = 16 ∧ (List.replicate 16 (⟨100, 0, .set⟩ : Marker)).length + 1 = 17 ∧
      ([⟨5, 0, .set⟩, ⟨5, 1, .clear⟩, ⟨9, 2, .toggle⟩] : List Marker).Pairwise (fun x y => x.time ≤ y.time) :=
  ⟨takes_of rfl rfl rfl rfl (by decide) rfl, by decide, by decide, by decide, by decide, by decide⟩

/-! The scene, and the controls of the other units. -/

/-- Line 7 with an edge mode, beside lines without one. -/
def lineBoard : Device := board.setLine 7 { Line.reset false with edgeMode := .rise, wake := true }

/-- IMMEDIATE, IMMEDIATE with PRIMED_WAIT, and line 7. -/
theorem test_witness_SceneGoStarts :
    (stateOf lineBoard).Takes [0x40, 2, 0, 0, 0xFF] [⟨0x40, [0, 0]⟩] ∧
      (stateOf lineBoard).Takes [0x40, 2, 0, 255, 0x41, 0, 0xFF] [⟨0x40, [0, 255]⟩, ⟨0x41, []⟩] ∧
      flagged 0x41 [⟨0x40, [0, 255]⟩, ⟨0x41, []⟩] = true ∧ flagged 0x41 [⟨0x40, [0, 0]⟩] = false ∧
      (stateOf lineBoard).Takes [0x40, 2, 1, 7, 0xFF] [⟨0x40, [1, 7]⟩] ∧ argument 0x40 [⟨0x40, [1, 7]⟩] = some [1, 7] ∧
      lineBoard.stu.scene = .stopped ∧ (lineBoard.line 7).edgeMode ≠ .none :=
  ⟨takes_of rfl rfl rfl rfl (by decide) rfl, takes_of rfl rfl rfl rfl (by decide) rfl, by decide, by decide,
    takes_of rfl rfl rfl rfl (by decide) rfl, by decide, rfl, by decide +kernel⟩

/-- A condition out of the set, line 8, and a line without an edge mode. -/
theorem test_witness_SceneGoChecks :
    (stateOf board).Takes [0x40, 2, 2, 0, 0xFF] [⟨0x40, [2, 0]⟩] ∧ (stateOf board).Takes [0x40, 2, 1, 8, 0xFF] [⟨0x40, [1, 8]⟩] ∧
      (stateOf board).Takes [0x40, 2, 1, 7, 0xFF] [⟨0x40, [1, 7]⟩] ∧ (board.line 7).edgeMode = .none :=
  ⟨takes_of rfl rfl rfl rfl (by decide) rfl, takes_of rfl rfl rfl rfl (by decide) rfl, takes_of rfl rfl rfl rfl (by decide) rfl,
    by decide +kernel⟩

/-- The controls of the scene are taken in each of its states. -/
theorem test_witness_SceneMovesAndStops (x : SceneState) : (stateOf (board.setStu { Stu.reset with scene := x })).Takes [0xFF] [] :=
  takes_of rfl rfl rfl rfl (by decide) rfl

/-- The last source at the highest level, the first source out of range, and the first level out of range. -/
theorem test_witness_NoticeAndReportSetApply :
    (stateOf board).Takes [0x48, 4, 42, 255, 255, 3, 0xFF] [⟨0x48, [42, 255, 255, 3]⟩] ∧
      readAll sourceTupleOf [⟨0x48, [42, 255, 255, 3]⟩] = some [⟨42, 0xFFFF, 3⟩] ∧
      readAll sourceTupleOf [⟨0x48, [43, 0, 0, 4]⟩] = some [⟨43, 0, 4⟩] ∧
      (stateOf board).Takes (tupleBytes 0x49 (leBytes 4 4095) ++ [0xFF]) [⟨0x49, leBytes 4 (4095 : BitVec 32).toNat⟩] ∧
      (stateOf board).Takes (tupleBytes 0x49 (leBytes 4 16777217) ++ [0xFF]) [⟨0x49, leBytes 4 (16777217 : BitVec 32).toNat⟩] ∧
      (stateOf board).Takes (tupleBytes 0x49 (leBytes 4 0) ++ [0xFF]) [⟨0x49, leBytes 4 (0 : BitVec 32).toNat⟩] ∧
      argument 0x49 [⟨0x49, leBytes 4 4095⟩] = some (leBytes 4 4095) :=
  ⟨takes_of rfl rfl rfl rfl (by decide) rfl, by decide, by decide, takes_of rfl rfl rfl rfl (by decide) rfl,
    takes_of rfl rfl rfl rfl (by decide) rfl, takes_of rfl rfl rfl rfl (by decide) rfl, by decide⟩

/-- The part with the self-test engine in a state and a mode, at a word of a sweep. -/
def engineBoard (x : EngineState) (m : TestMode) (owed : Bool) (word : Nat) (written : List (Fin 64)) : Device :=
  board.setSmc { Smc.reset with
    engine := { Engine.reset with
      state := x, mode := m, stage := .idle, pos := { seg := 0, sweep := 1, word := word, owed := owed }, written := written } }

theorem test_witness_SelftestStartBegins :
    (stateOf tested).Takes (testBody 0 2 1 [0xFF]) [⟨0x50, [0, 2, 1]⟩] ∧ argument 0x50 [⟨0x50, [0, 2, 1]⟩] = some [0, 2, 1] ∧
      (2 : Byte).toNat = TestMode.loop.code ∧ (1 : Byte).toNat = Pattern.march.code ∧ (∀ t : Fin 64, (tested.take t).state = .free) ∧
      tested.stu.scene = .stopped ∧ tested.smc.engine.state = .idle ∧ (∃ t : Fin 64, (filling.take t).state ≠ .free) ∧
      board.smc.engine.state ≠ .idle :=
  ⟨takes_of rfl rfl rfl rfl (by decide) rfl, by decide, by decide, by decide, by decide +kernel, rfl, rfl, by decide +kernel, by decide⟩

/-- HALTED within a sweep, HALTED at its end, and IDLE. -/
theorem test_witness_SelftestContinueResumes :
    (∀ o w, (stateOf (engineBoard .halted .halt o w [])).Takes (testBody 1 2 1 [0xFF]) [⟨0x50, [1, 2, 1]⟩]) ∧
      argument 0x50 [⟨0x50, [1, 2, 1]⟩] = some [1, 2, 1] ∧ (engineBoard .halted .halt false 4194303 []).smc.engine.pos.word < 4194304 ∧
      4194304 ≤ (engineBoard .halted .halt false 4194304 []).smc.engine.pos.word ∧
      (engineBoard .halted .halt false 4194304 []).smc.engine.pos.owed = false ∧ tested.smc.engine.state ≠ .halted :=
  ⟨fun _ _ => takes_of rfl rfl rfl rfl (by decide) rfl, by decide, by decide, by decide, rfl, by decide⟩

/-- Every engine state, with and without a written segment. -/
theorem test_witness_SelftestStopEnds :
    (∀ x m w, (stateOf (engineBoard x m false 0 w)).Takes (testBody 2 2 1 [0xFF]) [⟨0x50, [2, 2, 1]⟩]) ∧
      argument 0x50 [⟨0x50, [2, 2, 1]⟩] = some [2, 2, 1] ∧ (engineBoard .halted .halt false 0 [0]).smc.engine.written ≠ [] ∧
      (engineBoard .running .normal false 0 []).smc.engine.written = [] ∧ (engineBoard .running .normal false 0 []).smc.engine.mode ≠ .loop :=
  ⟨fun _ _ _ => takes_of rfl rfl rfl rfl (by decide) rfl, by decide, by decide, by decide, by decide⟩

/-- The last block of a resident take, the first one beyond it, a FREE take and the first take id out of range. -/
theorem test_witness_MemSetApplies :
    (stateOf filling).Takes (tupleBytes 0x52 (63 :: leBytes 4 32767) ++ [0xFF]) [⟨0x52, 63 :: leBytes 4 32767⟩] ∧
      readAll memTupleOf [⟨0x52, 63 :: leBytes 4 32767⟩] = some [.inject 63 32767] ∧
      readAll memTupleOf [⟨0x52, 63 :: leBytes 4 32768⟩] = some [.inject 63 32768] ∧
      readAll memTupleOf [⟨0x51, [4]⟩, ⟨0x52, 64 :: leBytes 4 0⟩, ⟨0x53, []⟩] = some [.rate 4, .inject 64 0, .injectOff] ∧
      (filling.take 63).kind = .resident ∧ (filling.take 63).segments.length * 32768 = 32768 ∧ (filling.take 62).state = .free :=
  ⟨takes_of rfl rfl rfl rfl (by decide) rfl, by decide, by decide, by decide, by decide +kernel, by decide +kernel, by decide +kernel⟩

/-- The three actions, in a part that may leave ACTIVE, in one whose scene runs and in one whose engine runs. -/
theorem test_witness_PowerAndResetControlsAct :
    (stateOf tested).Takes (powerBody 0 500 [0xFF]) [⟨0x58, 0 :: leBytes 2 500⟩] ∧
      (stateOf tested).Takes (powerBody 1 500 [0xFF]) [⟨0x58, 1 :: leBytes 2 500⟩] ∧
      (stateOf tested).Takes (powerBody 2 65535 [0xFF]) [⟨0x58, 2 :: leBytes 2 65535⟩] ∧
      argument 0x58 [⟨0x58, 2 :: leBytes 2 65535⟩] = some (2 :: leBytes 2 (65535 : BitVec 16).toNat) ∧ tested.stu.scene = .stopped ∧
      tested.smc.engine.state = .idle ∧ (∀ t : Fin 64, (tested.take t).verify.state ≠ .running) ∧ board.smc.engine.state ≠ .idle ∧
      frozenBoard.stu.scene ≠ .stopped :=
  ⟨takes_of rfl rfl rfl rfl (by decide) rfl, takes_of rfl rfl rfl rfl (by decide) rfl, takes_of rfl rfl rfl rfl (by decide) rfl, by decide,
    rfl, rfl, by decide +kernel, by decide, by decide⟩

/-! The Bench Link. -/

/-- The part in a power state, with RSTN as given. -/
def poweredBoard (x : PowerState) (rstn : Bool) : Device := board.setPwc { board.pwc with power := x, rstn := rstn }

/-- The largest body, an empty queue, a queue that comes to 12 and a full one, in each power state. -/
theorem test_witness_SamplePacketArrives :
    formatOf ((0x30 : Byte).toNat / 16 % 4) = some .iq16 ∧ (List.replicate 1008 (0 : Byte)).length = (252 : BitVec 16).toNat * Format.iq16.bps ∧
      (List.replicate 1008 (0 : Byte)).length ≤ 1008 ∧ (∀ x r, (poweredBoard x r).bli.controlQ = []) ∧
      (List.replicate 11 fullBlock.packet).length = 11 ∧ ¬ (List.replicate 16 fullBlock.packet).length < 16 ∧
      (∀ x r, (poweredBoard x r).pwc.power = x ∧ (poweredBoard x r).pwc.rstn = r) := by
  refine ⟨by decide, by decide +kernel, by decide +kernel, fun _ _ => rfl, by decide, by decide, fun _ _ => ⟨rfl, rfl⟩⟩

/-- A free Control Unit, a closed one, and a queue of three and of four controls. -/
theorem test_witness_ControlPacketArrives :
    (List.replicate 1024 (0 : Byte)).length ≤ 1024 ∧ board.mayTake = true ∧ board.bli.controlQ = [] ∧
      (board.setCtu (.closed .sleep false)).mayTake = false ∧ (List.replicate 3 (⟨0, 1, []⟩ : CtlPkt)).length < 4 ∧
      ¬ (List.replicate 4 (⟨0, 1, []⟩ : CtlPkt)).length < 4 := by decide +kernel

/-- A packet of each fault: a wrong CRC, a wrong length, an unknown kind, a wrong sample size, and a body for a WAKE. -/
theorem test_witness_WakeAndBadPacketsArrive :
    (packetOf 3 (List.replicate 15 0)).fault = some .crc ∧ (packetOf 3 [0, 1, 0, 0, 0, 0, 0, 0, 0, 0, 0, 161, 127, 137, 227]).fault = some .length ∧
      (packetOf 4 [0, 0, 0, 0, 0, 0, 0, 0, 0, 0, 0, 16, 253, 211, 120]).fault = some .kind ∧ (packetOf 1 [16, 3, 0, 0, 0, 0, 0, 0, 0, 0, 0, 0, 0, 0, 173, 136, 80, 181]).fault = some .sampleSize ∧
      (packetOf 3 [0, 1, 0, 0, 0, 0, 0, 0, 0, 0, 0, 0, 140, 245, 48, 115]).fault = some .size := by decide +kernel

/-- A transmitter that runs with a REPLY to send, an empty queue, RSTN asserted, and a sent closing reply of each kind; at SLEEP entry lines
that do not change, a line that hands its falling edge, and one that only falls. -/
theorem test_witness_RepliesAreSent :
    let runs := fun d : Device => d.pwc.rstn = false ∧ d.pwc.power ≠ .sleep ∧ d.closingSent = false
    runs (board.setBli { board.bli with replyQ := [⟨1, 1, .ok, []⟩] }) ∧ board.bli.replyQ = [] ∧ (poweredBoard .active true).pwc.rstn = true ∧
      (tested.setCtu (.closed .sleep true)).ctu = .closed .sleep true ∧ tested.pwc.power = .active ∧
      (∀ l : Fin 8, ((tested.line l).sleepMode = .release ∧ (tested.line l).wake = false) ∨
        (tested.line l).sensed true = (tested.line l).sensed false) ∧
      (tested.setCtu (.closed .reset true)).ctu = .closed .reset true ∧ board.ctu ≠ .closed .sleep true ∧ board.ctu ≠ .closed .reset true ∧
      (let z : Line := { Line.reset false with dir := .output, latch := true, wake := true, edgeMode := .fall }
       z.sensed false = true ∧ z.sensed true = false ∧ z.hands (z.sensed false) (z.sensed true) = true ∧
        ({ z with edgeMode := .rise } : Line).hands (z.sensed false) (z.sensed true) = false) := by
  decide +kernel

/-- The part with an entry of one source, at a level. -/
def noticeBoard (s : Fin 43) (level : Nat) : Device :=
  board.setNtu { board.ntu with
    queue := board.ntu.queue.set s (some { kinds := 1, count := 1, level := level, firstKind := 0, firstTime := 0, detail := [] }) }

/-- The last voice's source at the highest level, and an empty notice queue. -/
theorem test_witness_NoticesAndReportsAreSent :
    (noticeBoard 42 3).ntu.queue[(42 : Fin 43)] =
        some { kinds := 1, count := 1, level := 3, firstKind := 0, firstTime := 0, detail := [] } ∧
      (∀ j : Fin 43, j ≠ 42 → (noticeBoard 42 3).ntu.queue[j] = none) ∧ (∀ i : Fin 43, board.ntu.queue[i] = none) ∧
      board.bli.replyQ = [] ∧ board.closingSent = false := by decide +kernel

/-- A source that has a kind enabled with and without an entry, and one that has none enabled. -/
theorem test_witness_EventsCoalesceBySource :
    (board.ntu.settings[(0 : Fin 43)]).kinds.getLsbD 1 = true ∧ board.ntu.queue[(0 : Fin 43)] = none ∧
      ((noticeBoard 0 3).ntu.queue[(0 : Fin 43)]).isSome ∧ (board.ntu.settings[(42 : Fin 43)]).kinds.getLsbD 7 = false := by decide +kernel

/-! Ticks and bench lines. -/

/-- A full capture list; a scene whose GO waits for line 7 with and without its edge, and one that goes at once; and a tick in ACTIVE. -/
theorem test_witness_TicksTakeEdges :
    let armed := fun g es => (board.setStu { Stu.reset with scene := .armed, go := some g }).setLine 7
      { Line.reset false with edgeMode := .rise, capture := true, edges := es }
    (List.replicate 32 (⟨7, .fall, 9, .armed⟩ : Capture)).length ≤ 32 ∧ board.pwc.power = .active ∧ board.pwc.rstn = false ∧ board.Settled ∧
      (armed ⟨.line 7, false, false⟩ [.rise]).firedLines (armed ⟨.line 7, false, false⟩ [.rise]).pendingEdges = [7] ∧
      (armed ⟨.line 7, false, false⟩ []).tickKind [] = .armed ∧ (armed ⟨.immediate, false, false⟩ []).tickKind [] = .running ∧
      ((armed ⟨.immediate, true, false⟩ []).setVoice 31 { Voice.reset 31 with cues := [plainCue], state := .priming }).tickKind [] = .armed := by
  refine ⟨by decide, rfl, rfl, Device.settled_of_not_mayGrant rfl, ?_, ?_, ?_, ?_⟩ <;> decide +kernel

/-- No pending edge in ACTIVE, in a scene that is not RUNNING, and outside ACTIVE. -/
theorem test_witness_StillTicksDeliver :
    board.Settled ∧ (∀ l : Fin 8, (board.line l).edges = []) ∧ board.pwc.power = .active ∧ board.pwc.rstn = false ∧
      board.tickKind [] ≠ .running ∧ (poweredBoard .standby false).pwc.power ≠ .active ∧ (poweredBoard .active true).pwc.rstn = true :=
  ⟨Device.settled_of_not_mayGrant rfl, by decide +kernel, rfl, rfl, by decide +kernel, by decide, rfl⟩

/-- A scene that runs, at a time. -/
def runningBoard (time : Nat) : Device := board.setStu { Stu.reset with scene := .running, time := time }

/-- The first and the last bench time, a scene that goes at this tick, and a marker due in each way and one not due. -/
theorem test_witness_RunningTickPlays :
    (runningBoard 0).runsNext = true ∧ (runningBoard 281474976710655).runsNext = true ∧
      (([⟨8, 7, .set⟩, ⟨9, 7, .pulse 65535⟩, ⟨10, 7, .toggle⟩] : List Marker).map (fun m => decide (m.time ≤ 9)) = [true, true, false]) ∧
      (board.setStu { Stu.reset with
        scene := .armed, go := some { cond := .immediate, primedWait := true, latch := false } }).runsNext = true := by decide +kernel

/-- A PLAYING head of 6 effective samples, two of the three samples of its oldest slot still to play. -/
def playingVoice : Voice :=
  { Voice.reset 31 with
    state := .playing, started := true, cues := [{ plainCue with verdict := .resident 3 false }]
    slots := [{ cue := 0, label := 9, pass := 1, block := 0, first := 5, count := 3, status := some .valid,
                samples := [⟨100, 0⟩, ⟨200, 0⟩, ⟨300, 0⟩], played := 0 }]
    cursor := .atEnd 0 }

/-- A pulse of 1 and one of 2, a step counter one short of its interval and two short, and a report that falls due. -/
theorem test_witness_DueTicksAct :
    ((runningBoard 5).setLine 7 { Line.reset false with dir := .output, pulse := 1, latch := true }).pulseDue 7 = true ∧
      ((runningBoard 5).setLine 7 { Line.reset false with dir := .output, pulse := 2, latch := true }).pulseDue 7 = false ∧
      ((runningBoard 5).setVoice 31 { playingVoice with ramp := some ⟨10, 4, 3⟩ }).runsNext = true ∧ playingVoice.headReady = true ∧
      (3 + 1 < 5 ∧ 4 ≤ 3 + 1) ∧
      ((runningBoard 4096).setNtu { board.ntu with interval := 4096 }).reportNext = true ∧ (runningBoard 0).reportNext = false := by
  decide +kernel

/-- A line that hands its rising edge, in each power state; and the same line without a change of its wire. -/
theorem test_witness_BenchEdgesAreHeld :
    (lineBoard.line 7).wake = true ∧ edgeOf ((lineBoard.line 7).sensed false)
        (({ lineBoard.line 7 with bench := true } : Line).sensed false) = some .rise ∧
      edgeOf ((lineBoard.line 7).sensed true) (({ lineBoard.line 7 with bench := true } : Line).sensed true) = some .rise ∧
      (lineBoard.line 7).edgeMode = .rise ∧
      edgeOf ((lineBoard.line 7).sensed false) (({ lineBoard.line 7 with bench := false } : Line).sensed false) = none ∧
      (∀ x : PowerState, (poweredBoard x true).pwc.rstn = true ∧ (poweredBoard x false).pwc.rstn = false) := by
  refine ⟨?_, ?_, ?_, ?_, ?_, fun x => ⟨rfl, rfl⟩⟩ <;> decide +kernel

/-! Voices and the signal path. -/

/-- A head that waits one tick short of its time, one that primes, one that plays, and one without a filled slot; a slot at its last sample, with
the cue spent and not; a ramp one sample short of its step, at it and at its last step; and a ring cue. -/
theorem test_witness_VoicesPlayOrStarve :
    (({ plainCue with mode := .atTime 10 } : Cue).mode = .atTime 10 ∧ (9 : Nat) < 10) ∧
      ({ playingVoice with state := .priming } : Voice).state = .priming ∧
      (playingVoice.state = .playing ∧ playingVoice.started = true ∧ playingVoice.req = .none ∧ playingVoice.ramp = none ∧
        playingVoice.cues = [{ plainCue with verdict := .resident 3 false }]) ∧
      (∃ u, playingVoice.slots = [u] ∧ u.cue = 0 ∧ u.status = some .valid ∧ u.played + 1 < u.count ∧ u.played < u.samples.length) ∧
      ({ playingVoice with slots := [] } : Voice).slots = [] ∧ ({ playingVoice with slots := [], state := .starved } : Voice).state = .starved ∧
      (let u : Slot := { cue := 0, label := 9, pass := 1, block := 0, first := 5, count := 3, status := some .corrupt, samples := [], played := 2 }
       ¬ u.played + 1 < u.count ∧ u.status ≠ some .valid ∧
        ({ playingVoice with slots := [u], cursor := .atEnd 0 } : Voice).cursor = .atEnd 0 ∧
        ({ playingVoice with slots := [u], cursor := .atTarget 0 2 0 0 } : Voice).cursor = .atTarget 0 2 0 0) ∧
      (((3 : Nat) + 1 < 5 ∧ ¬ 3 + 1 < 4) ∧ (9 : Nat) + 1 = 10 ∧ (8 : Nat) + 1 ≠ 10) ∧
      ({ plainCue with verdict := .ring 0xFFFFFFFF } : Cue).verdict = .ring 0xFFFFFFFF :=
  ⟨⟨rfl, by decide⟩, rfl, ⟨rfl, rfl, rfl, rfl, rfl⟩, ⟨_, rfl, by decide⟩, rfl, rfl, ⟨by decide, by decide, rfl, rfl⟩, by decide, rfl⟩

theorem test_witness_RampsReachTargets : (Voice.reset 0).ramp = none := rfl

theorem test_witness_FactorsAndAxisRotations : (1023 : Nat) ≤ 1023 ∧ (0 : Nat) ≤ 1023 ∧ (771 : Nat) ≤ 771 := by decide

/-! The store. -/

/-- A fetch request of block 0. -/
def request : FetchReq := { opening := 1, block := 0, addr := 0, ring := false, format := .iq16 }

/-- A part whose arbiter may grant, with voice 31 waiting. -/
def grantBoard (x : VoiceState) (debt : Nat) : Device :=
  (board.setSmc { tested.smc with reinit := false, debt := debt }).setVoice 31
    { playingVoice with state := x, slots := [], req := .waiting request }

/-- Whether a voice's request waits. -/
theorem waits_iff (v : Voice) : v.waits = true ↔ ∃ r, v.req = .waiting r := by
  unfold Voice.waits; split <;> simp_all

/-- Of these boards only voice 31 waits. -/
theorem only_last_waits (x : VoiceState) (debt : Nat) (u : Fin 32) (h : ∃ r, ((grantBoard x debt).voice u).req = .waiting r) : u = 31 := by
  by_cases hu : u = 31
  · exact hu
  · rw [grantBoard, Device.voice_setVoice_ne _ _ hu] at h
    have : (board.voice u).req = .none := by clear h; revert u; decide +kernel
    obtain ⟨r, hr⟩ := h
    rw [show ((board.setSmc { tested.smc with reinit := false, debt := debt }).voice u) = board.voice u from rfl, this] at hr
    cases hr

/-- A debt of 8; the one waiting voice, urgent and not, at a debt of 7 and of 0; and nothing waiting. -/
theorem test_witness_ArbiterOrder :
    (grantBoard .playing 8).smc.debt = 8 ∧ (grantBoard .playing 7).smc.debt ≠ 8 ∧
      (∃ r, ((grantBoard .playing 0).voice 31).req = .waiting r) ∧
      (∀ u : Fin 32, (∃ r, ((grantBoard .playing 0).voice u).req = .waiting r) →
        (31 + 31 - (grantBoard .playing 0).smc.lastVoice.val) % 32 ≤ (u.val + 31 - (grantBoard .playing 0).smc.lastVoice.val) % 32) ∧
      ((grantBoard .playing 0).voice 31).urgent = true ∧ ((grantBoard .priming 0).voice 31).urgent = false ∧
      (grantBoard .playing 0).mayGrant = true ∧ (grantBoard .playing 0).choose = some (.fetch 31) ∧
      (grantBoard .playing 8).choose = some .refresh ∧ (∀ u : Fin 32, (tested.voice u).waits = false) ∧ tested.smc.debt = 0 ∧
      board.smc.engine.stage = .waiting ∧ tested.smc.engine.stage ≠ .waiting ∧ board.mayGrant = false := by
  refine ⟨rfl, by decide, ⟨_, by rfl⟩, ?_, by decide +kernel, by decide +kernel, by decide +kernel, by decide +kernel, by decide +kernel,
    by decide +kernel, rfl, rfl, by decide, rfl⟩
  intro u h
  rw [only_last_waits _ _ u h]
  exact Nat.le_refl _

/-- A read in flight whose request stands, and one whose request was released; a RESERVED slot with its one sample to come, and one that has
been played into. -/
theorem test_witness_FetchesFillSlots :
    (∃ d : Device, d.smc.port = some (.fetch 31 request) ∧ (d.voice 31).req = .granted request) ∧
      (board.setSmc { Smc.reset with port := some (.fetch 31 request) }).smc.port = some (.fetch 31 request) ∧
      (board.voice 31).req ≠ .granted request ∧ (∀ v r, board.smc.port ≠ some (.fetch v r)) ∧
      (∃ u : Slot, u.status = none ∧ u.played < u.count) ∧ (∃ u : Slot, u.status = none ∧ ¬ u.played < u.count) :=
  ⟨⟨(board.setSmc { Smc.reset with port := some (.fetch 31 request) }).setVoice 31 { playingVoice with req := .granted request }, rfl,
      by decide +kernel⟩, rfl, by decide +kernel, (nofun),
    ⟨{ cue := 0, label := 9, pass := 1, block := 0, first := 5, count := 1, status := none, samples := [], played := 0 }, rfl, by decide⟩,
    ⟨{ cue := 0, label := 9, pass := 1, block := 0, first := 5, count := 1, status := none, samples := [], played := 1 }, rfl, by decide⟩⟩

/-- The part with a packet of tag 7 at the head of the sample queue. -/
def queuedBoard (d : Device) (seq : BlockNo) (count : Nat) : Device :=
  d.setBli { board.bli with sampleQ := [{ tag := 7, seq := seq, count := count, format := .iq16, last := false, data := [] }] }

/-- A packet of no stream; of a wrong and of a right count; the last block of a resident take and the first one beyond it; and for a ring with
w at 10 a block in order, one just late, the last one of the lap and the first one past it. -/
theorem test_witness_IntakeJudgesPackets :
    (queuedBoard board 0 252).siu.entries = [] ∧ (queuedBoard filling 0 252).siu.stage = .idle ∧ filling.pwc.power = .active ∧
      filling.siu.entry 7 = some { tag := 7, take := 63, accepted := 2, dropped := 0 } ∧
      (¬ ((251 : Nat) = (filling.take 63).format.spb) ∧ (252 : Nat) = (filling.take 63).format.spb) ∧
      (filling.take 63).segments.length * 32768 = 32767 + 1 ∧ (live.take 63).ring = some ⟨0, 10⟩ ∧
      0 ≤ ((10 : BlockNo) - 10).toInt ∧ ((9 : BlockNo) - 10).toInt < 0 ∧
      ((10 : BlockNo) - (10 - 32768)).toNat ≤ (live.take 63).segments.length * 32768 ∧
      (live.take 63).segments.length * 32768 < ((10 : BlockNo) - (10 - 32769)).toNat := by
  refine ⟨rfl, rfl, rfl, rfl, by decide +kernel, by decide +kernel, by decide +kernel, by decide, by decide, by decide +kernel,
    by decide +kernel⟩

/-- A write in flight with its judgement in hand, to a take still open and to one opened again, and one whose judgement a reset took. -/
theorem test_witness_IntakeWritesComplete :
    let j : Judged := { fullBlock with opening := 1 }
    ((filling.setSiu { filling.siu with stage := .writing j }).setSmc { Smc.reset with port := some (.intake 0 (j.image false)) }).smc.port =
        some (.intake 0 (j.image false)) ∧
      (filling.setSiu { filling.siu with stage := .writing j }).siu.stage = .writing j ∧ (filling.take j.take).opening = j.opening ∧
      (filling.take j.take).state = .filling ∧ (filling.take j.take).opening ≠ fullBlock.opening ∧ (live.take j.take).kind = .ring ∧
      (∀ k, board.siu.stage ≠ .writing k) :=
  ⟨rfl, rfl, by decide +kernel, by decide +kernel, by decide +kernel, by decide +kernel, (nofun)⟩

/-- No read in flight, a verify read and a peek read in flight, granted and abandoned. -/
theorem test_witness_ReadsComplete :
    (∀ t a, board.smc.port ≠ some (.verify t a)) ∧ (∀ a, board.smc.port ≠ some (.peek a)) ∧
      (board.setSmc { Smc.reset with port := some (.verify 63 0) }).smc.port = some (.verify 63 0) ∧ board.tks.verifyStage ≠ .granted ∧
      (board.setVerifyStage .granted).tks.verifyStage = .granted ∧
      (board.setSmc { Smc.reset with port := some (.peek 0) }).smc.port = some (.peek 0) ∧ (∀ p, board.ctu ≠ .holding p .granted) ∧
      (board.setCtu (.holding ⟨1, 1, 0, 0⟩ .granted)).ctu = .holding ⟨1, 1, 0, 0⟩ .granted :=
  ⟨(nofun), (nofun), rfl, by decide, rfl, rfl, (nofun), rfl⟩

/-- A step of the first sweep's first words, and of the second sweep's last words but one step, in flight. -/
theorem test_witness_SelftestSteps :
    let e : Engine := { Engine.reset with stage := .granted, pos := { seg := 63, sweep := 1, word := 4194048, owed := false }, mode := .halt }
    (board.setSmc { Smc.reset with port := some (.selftest e.pattern e.pass e.pos), engine := e }).smc.port =
        some (.selftest e.pattern e.pass e.pos) ∧ e.pos.word % 128 = 0 ∧ e.pos.word + 128 < 4194304 ∧ e.failure = none ∧
      ({ Engine.reset with stage := .granted } : Engine).pos.word % 128 = 0 ∧ (∀ pt p pos, board.smc.port ≠ some (.selftest pt p pos)) :=
  ⟨rfl, by decide, by decide, rfl, by decide, (nofun)⟩

/-- With nothing in the store the first word differs; and misread bits can make every word of a step read as it was written. -/
theorem test_witness_SelftestSteps_halts :
    memWord [] 0 ^^^ upsetAt [] 0 ≠ pseudoWord 0 1 ∧ (∀ i < 0, memWord [] (8 * i) ^^^ upsetAt [] i = pseudoWord i 1) ∧
      ∀ i < 128, memWord [] (8 * i) ^^^ upsetAt ((List.range 128).map (fun k => (k, pseudoWord k 1))) i = pseudoWord i 1 :=
  ⟨by decide +kernel, fun i h => absurd h (Nat.not_lt_zero i), by decide +kernel⟩

/-- A clearing write in flight: of a block before the last of a segment, of the last of a segment, and of the last of all; and none in hand. -/
theorem test_witness_ClearingsFinish :
    (∀ a, board.smc.port ≠ some (.clearing a)) ∧ ({ Smc.reset with port := some (.clearing 0) } : Smc).port = some (.clearing 0) ∧
      board.smc.engine.state ≠ .clearing ∧
      ({ Engine.reset with state := .clearing, stage := .granted, clearing := [0, 1], clearBlock := 32766 } : Engine).clearBlock + 1 < 32768 ∧
      32768 ≤ ({ Engine.reset with state := .clearing, stage := .granted, clearing := [0, 1], clearBlock := 32767 } : Engine).clearBlock + 1 :=
  ⟨(nofun), rfl, by decide, by decide, by decide⟩

/-! Power and resets. -/

/-- The timer stopped, and running at a debt of 7 and of 8, under RSTN and not; a refresh in flight, and none. -/
theorem test_witness_RefreshDebtIsPaid :
    board.smc.timerOn = false ∧ (({ Smc.reset with timerOn := true, debt := 7 } : Smc).timerOn = true ∧
        ({ Smc.reset with timerOn := true, debt := 7 } : Smc).debt < 8) ∧
      ({ Smc.reset with timerOn := true, debt := 8 } : Smc).debt = 8 ∧ ({ Smc.reset with port := some .refresh } : Smc).port = some .refresh ∧
      board.smc.port ≠ some .refresh ∧ (poweredBoard .active true).pwc.rstn = true ∧ board.pwc.rstn = false := by decide +kernel

/-- A part that wakes with its cause and the state it left, one whose quiet timer runs, and one whose timer does not. -/
theorem test_witness_PowerEventsMove :
    (∃ p : Pwc, p.power = .waking ∧ p.rstn = false ∧ p.wakeCause = some (.line 7) ∧ p.left = some .sleep) ∧ board.pwc.power ≠ .waking ∧
      (tested.setPwc { board.pwc with quietTime := 1, quietLeft := 1 }).pwc.quietTime ≠ 0 ∧ tested.stu.scene = .stopped ∧
      (∀ v : Fin 32, (tested.voice v).state = .idle) ∧ (∀ t : Fin 64, (tested.take t).verify.state ≠ .running) ∧
      tested.smc.engine.state = .idle ∧ board.pwc.quietTime = 0 ∧ board.smc.reinit = true ∧ (poweredBoard .active true).pwc.rstn = true :=
  ⟨⟨{ board.pwc with power := .waking, wakeCause := some (.line 7), left := some .sleep }, rfl, rfl, rfl, rfl⟩, by decide, by decide, rfl,
    by decide +kernel, by decide +kernel, rfl, rfl, rfl, rfl⟩

/-- Each reset's case: a sent reply to RESET, a power-on under RSTN and one without, and each release of RSTN after either. -/
theorem test_witness_ResetsLeaveDefaults :
    (board.setCtu (.closed .reset true)).ctu = .closed .reset true ∧ (poweredBoard .sleep false).pwc.power ≠ .active ∧
      board.pwc.power = .active ∧ (poweredBoard .active true).pwc.rstn = true ∧ board.pwc.rstn = false ∧
      (board.setPwc { board.pwc with powerHeld := true }).pwc.powerHeld = true ∧ board.pwc.powerHeld = false := by decide

/-- 11 section 11.4: a power-on under RSTN is held in reset until RSTN is released, warm or cold, and its cause is then power-on. -/
theorem test_powerOn_held :
    match exec .powerOn (stateOf (poweredBoard .active true)) with
    | .next s => s.dev.pwc.powerHeld = true ∧
      match exec .dramReinitEnd s, exec .warmReset s with
      | .next t, .next u => t = s ∧ u.dev.pwc.rstn = false ∧ u.dev.pwc.powerHeld = false ∧ u.dev.pwc.resetCause = .powerOn
      | _, _ => False
    | _ => False := ⟨rfl, rfl, rfl, rfl, rfl⟩

/-! Invariants: the state right after power-on meets each, and has a step. -/

theorem test_reset_steps : step State.reset = .next State.reset := rfl

theorem test_witness_StoreStaysCanonical : memWf State.reset.mem = true := reset_mem_wf

theorem test_witness_LinkQueuesStayFit : State.reset.dev.LinkFits := ⟨by decide, by decide, by decide, nofun, (by decide : (0 : Nat) < 12)⟩

theorem test_witness_SceneAndRefreshStayFit : State.reset.dev.SceneFits ∧ State.reset.dev.RefreshFits :=
  ⟨⟨by decide, nofun, by decide, by decide⟩, ⟨by decide, fun _ => ⟨rfl, rfl⟩⟩⟩

theorem test_witness_VoiceRegistersStayFit :
    State.reset.dev.IdleExactlyWhenEmpty ∧ State.reset.dev.CueListsFit ∧ State.reset.dev.CodesFit := by
  have h : ∀ v : Fin 32, State.reset.dev.voice v = Voice.reset v := by decide +kernel
  refine ⟨fun v => ?_, fun v => ?_, fun v => ?_⟩ <;> rw [h v]
  · exact ⟨fun _ => rfl, fun _ => rfl⟩
  · exact Nat.zero_le _
  · exact ⟨Nat.zero_le _, nofun, nofun⟩

theorem test_witness_CuedTakesStayHeld : State.reset.dev.CuedTakesHeld := by
  have h : ∀ v : Fin 32, (State.reset.dev.voice v).cues = [] := by decide +kernel
  intro v c hc
  rw [h v] at hc
  cases hc

theorem test_witness_SegmentsStayOwnedOnce : State.reset.dev.SegmentsOwnedOnce := by
  have h : ∀ t : Fin 64, (State.reset.dev.take t).segments = [] := by decide +kernel
  exact ⟨fun t => by rw [h t]; exact List.nodup_nil, fun t u _ g hg => by rw [h t] at hg; cases hg⟩

theorem test_witness_StreamsStayInAgreement : State.reset.dev.StreamsAgree := by
  have h : ∀ t : Fin 64, (State.reset.dev.take t).tag = none := by decide +kernel
  exact ⟨List.nodup_nil, nofun, nofun, fun t g hg => by rw [h t] at hg; cases hg⟩

theorem test_witness_StorePortNeverIdles : State.reset.dev.Settled := Device.settled_of_not_mayGrant rfl

/-! ### One small run of each command -/

/-- The part after a command. -/
def after (c : Instr) (d : Device) : Device :=
  match exec c (stateOf d) with
  | .next t => t.dev
  | _ => d

/-- The status of the newest REPLY. -/
def answer (d : Device) : Option Status := d.bli.replyQ.getLast?.map Reply.status

/-- The result chain of the newest REPLY. -/
def result (d : Device) : List Byte := (d.bli.replyQ.getLast?.map Reply.body).getD []

/-- 09 section 9.8: the part code, 0x3204, is the first field of IDENT's result (09 section 9.7: code 0x80 and its link). -/
theorem test_ident : (result (after (.ident 7 [0xFF]) board)).take 7 = [0x80, 2, 0x04, 0x32, 0x81, 1, 1] := by decide +kernel
theorem test_queryScene : answer (after (.queryScene 7 99 [0xFF]) board) = some .ok := by decide +kernel
theorem test_queryVoice : answer (after (.queryVoice 7 32 [0xFF]) board) = some .range := by decide +kernel
theorem test_queryPort : answer (after (.queryPort 7 3 [0xFF]) board) = some .ok := by decide +kernel
theorem test_queryLines : answer (after (.queryLines 7 0 [0xFF]) board) = some .ok := by decide +kernel
theorem test_queryTake : answer (after (.queryTake 7 64 [0xFF]) board) = some .range := by decide +kernel
theorem test_queryStreams : answer (after (.queryStreams 7 0 [0xFF]) board) = some .ok := by decide +kernel
theorem test_querySegments : answer (after (.querySegments 7 0 [0xFF]) board) = some .ok := by decide +kernel
theorem test_unknownControl : answer (after (.unknownControl 7 0x15 [0xFF]) board) = some .unknown := by decide +kernel
/-- A full capture list of one record: its number, its record and the flag. -/
theorem test_captureRead :
    result (after (.captureRead 7 []) (board.setStu { Stu.reset with captures := [⟨7, .fall, 258, .armed⟩], overrun := true })) =
      [0x80, 1, 1, 0x81, 9, 7, 1, 2, 1, 0, 0, 0, 0, 1, 0x82, 1, 1, 0xFF] := by decide +kernel

/-- 06 section 6.4: the store of the worked allocation. -/
def allocation : Device :=
  let segs := ((Vector.replicate 64 SegState.good).set 3 .failed).set 60 .untested
  let segs := ((segs.set 61 .untested).set 62 .untested).set 63 .untested
  let d := tested.setSmc { tested.smc with segs := segs }
  let d := (d.setTake 0 (Take.opened .resident .iq8 [0, 1, 2] 1)).setTake 8 (Take.opened .resident .iq8 [4, 5] 2)
  d.setTks { d.tks with counter := 41 }

/-- 06 section 6.4: the first open of the worked allocation, and its drop. -/
theorem test_takeOpen :
    let d := after (.takeOpen 7 [5, 4, 2, 1, 3, 3, 0xFF]) allocation
    (d.take 2).segments = [6, 7, 8] ∧ (d.take 2).opening = 41 ∧ d.tks.counter = 42 := by decide +kernel
/-- 06 section 6.4: after the drop of take 0, an open of four segments. -/
theorem test_takeDrop :
    let d := after (.takeDrop 7 [2, 1, 0, 0xFF]) (allocation.setTake 2 (Take.opened .ring .iq16 [6, 7, 8] 41))
    let e := after (.takeOpen 7 [5, 4, 5, 0, 1, 4, 0xFF]) d
    (d.take 0).state = .free ∧ (e.take 5).segments = [0, 1, 2, 9] := by decide +kernel
/-- 06 section 6.5: blocks 0 and 2 of IQ16, the last of 100 samples: a length of 604 and one hole. -/
theorem test_takeClose :
    let d := after (.takeClose 7 [2, 1, 63, 0xFF]) filling
    (d.take 63).state = .ready ∧ (d.take 63).length = 604 ∧ (d.take 63).holes = 1 := by decide +kernel
theorem test_takeVerify :
    let d := after (.takeVerify 7 [2, 1, 63, 0xFF]) filling
    answer d = some .accepted ∧ (d.take 63).verify.state = .running ∧ (d.take 63).verify.size = 3 := by decide +kernel
theorem test_takePeek :
    (after (.takePeek 7 ([2, 1, 63] ++ tupleBytes 3 (leBytes 4 2) ++ [0xFF])) filling).ctu =
      .holding { tag := 7, opening := 1, block := 2, addr := 2048 } .waiting := by decide +kernel
theorem test_streamBind :
    let d := after (.streamBind 7 [2, 1, 2, 4, 2, 0x34, 0x12, 0xFF]) (tested.setTake 2 (Take.opened .ring .iq8 [6] 41))
    (d.take 2).tag = some 0x1234 ∧ d.siu.entries.map StreamEntry.take = [2] := by decide +kernel
theorem test_streamUnbind :
    let d := after (.streamUnbind 7 [4, 2, 7, 0, 0xFF]) filling
    (d.take 63).tag = none ∧ (d.take 63).state = .filling ∧ d.siu.entries = [] := by decide +kernel

/-- The store of a FILLING take closed by TAKE_CLOSE. -/
def closedBoard : Device := after (.takeClose 7 [2, 1, 63, 0xFF]) filling

/-- The chain that loads the one cue of `oneCue`. -/
def oneCueBody : List Byte := oneCue.flatMap (fun t => tupleBytes t.code t.data) ++ [0xFF]

theorem test_cueLoad :
    let v := (after (.cueLoad 7 oneCueBody) closedBoard).voice 31
    v.state = .priming ∧ v.cues.length = 1 ∧ v.slots.map Slot.first = [5] ∧ v.slots.map Slot.count = [3] := by decide +kernel
theorem test_cueFlushPending :
    result (after (.cueFlushPending 7 [1, 1, 31, 0xFF]) (board.setVoice 31 { Voice.reset 31 with
      state := .waiting, cues := [plainCue, plainCue, plainCue], cursor := .atEnd 2 })) = [0x80, 1, 2, 0xFF] := by decide +kernel
theorem test_cueFlushAll :
    let v := (after (.cueFlushAll 7 [1, 1, 31, 0xFF]) (board.setVoice 31 { playingVoice with lastOut := ⟨5, 6⟩, rest := .held })).voice 31
    v.state = .idle ∧ v.cues = [] ∧ v.lastOut = ⟨0, 0⟩ ∧ v.rest = .zero := by decide +kernel
/-- 02 section 2.1: a depth of 9 is clamped to 8, and one of 0 to 1. -/
theorem test_voiceSet :
    let v := (after (.voiceSet 7 [0x23, 2, 31, 9, 0x24, 2, 31, 0, 0xFF]) board).voice 31
    v.primeDepth = 8 ∧ v.resumeDepth = 1 := by decide +kernel
/-- 05 section 5.1: H is clamped to 5, and a changed width clears the last delivered sample. -/
theorem test_portSet :
    let p := (after (.portSet 7 [0x29, 2, 3, 9, 0x2B, 2, 3, 12, 0xFF]) (board.setPort 3 { Port.reset with last := ⟨5, 6⟩ })).port 3
    p.headroom = 5 ∧ p.width = .w12 ∧ p.last = ⟨0, 0⟩ := by decide +kernel
/-- 05 section 5.3: a line that becomes an output with its latch set rises. -/
theorem test_lineSet :
    let l := (after (.lineSet 7 [0x30, 2, 7, 1, 0x35, 2, 7, 1, 0xFF]) board).line 7
    l.dir = .output ∧ l.latch = true ∧ l.edges = [.rise] := by decide +kernel
/-- 05 section 5.7: a marker goes after those of its own time and before those of a greater one. -/
theorem test_markLoad :
    (after (.markLoad 7 (tupleBytes 0x38 (leBytes 6 100 ++ [7, 0]) ++ [0xFF]))
      (board.setStu { Stu.reset with markers := [⟨100, 1, .set⟩, ⟨101, 2, .clear⟩] })).stu.markers.map Marker.line = [1, 7, 2] := by
  decide +kernel
theorem test_markClear :
    let d := after (.markClear 7 [0xFF]) (board.setStu { Stu.reset with markers := [⟨100, 1, .set⟩, ⟨101, 2, .clear⟩] })
    d.stu.markers = [] ∧ result d = [0x80, 1, 2, 0xFF] := by decide +kernel
theorem test_sceneGo :
    let d := after (.sceneGo 7 [0x40, 2, 0, 0, 0x41, 0, 0xFF]) (board.setStu { Stu.reset with time := 99 })
    d.stu.scene = .armed ∧ d.stu.time = 0 := by decide +kernel
theorem test_sceneGo_line : answer (after (.sceneGo 7 [0x40, 2, 1, 7, 0xFF]) board) = some .range := by decide +kernel
theorem test_scenePause : (after (.scenePause 7 [0xFF]) (runningBoard 9)).stu.scene = .paused := by decide +kernel
theorem test_sceneResume : answer (after (.sceneResume 7 [0xFF]) (runningBoard 9)) = some .state := by decide +kernel
theorem test_sceneStop :
    let d := after (.sceneStop 7 [0xFF]) ((runningBoard 9).setVoice 31 playingVoice)
    d.stu.scene = .stopped ∧ d.stu.time = 9 ∧ (d.voice 31).state = .idle := by decide +kernel
theorem test_sceneFreeze : (after (.sceneFreeze 7 [0xFF]) (runningBoard 9)).stu.frozen = true := by decide +kernel
/-- 10 section 10.1: a port has one kind, so the other bits are stored as clear. -/
theorem test_noticeSet : result (after (.noticeSet 7 [0x48, 4, 9, 0xFF, 0xFF, 2, 0xFF]) board) = [0x80, 4, 9, 1, 0, 2, 0xFF] := by
  decide +kernel
/-- 10 section 10.4: an interval below 4,096 is clamped to it. -/
theorem test_reportSet : (after (.reportSet 7 (tupleBytes 0x49 (leBytes 4 5) ++ [0xFF])) board).ntu.interval = 4096 := by decide +kernel
theorem test_selftestStart :
    let e := (after (.selftestStart 7 2 1 [0xFF]) tested).smc.engine
    e.state = .running ∧ e.mode = .loop ∧ e.pattern = .march := by decide +kernel
theorem test_selftestContinue :
    (after (.selftestContinue 7 0 0 [0xFF]) (engineBoard .halted .halt false 4096 [0])).smc.engine.state = .running := by decide +kernel
theorem test_selftestStop :
    (after (.selftestStop 7 0 0 [0xFF]) (engineBoard .running .normal false 4096 [0, 1])).smc.engine.clearing = [0, 1] := by decide +kernel
theorem test_memSet :
    let d := after (.memSet 7 (tupleBytes 0x51 [4] ++ tupleBytes 0x52 (63 :: leBytes 4 2) ++ [0xFF])) filling
    d.smc.rate = 4 ∧ d.smc.injection = some { take := 63, block := 2, armed := true } := by decide +kernel
theorem test_powerStandby : (after (.powerStandby 7 0 [0xFF]) tested).pwc.power = .standby := by decide +kernel
theorem test_powerStandby_busy : answer (after (.powerStandby 7 0 [0xFF]) board) = some .busy := by decide +kernel
theorem test_powerSleep : (after (.powerSleep 7 0 [0xFF]) tested).ctu = .closed .sleep false := by decide +kernel
theorem test_powerQuiet : (after (.powerQuiet 7 0x1234 [0xFF]) board).pwc.quietTime = 0x1234 := by decide +kernel
theorem test_reset : (after (.reset 7 []) board).ctu = .closed .reset false := by decide +kernel

/-- 11 section 11.2: the twelfth packet of the queue makes the flow state HOLD. -/
theorem test_samplePacket :
    let d := after (.samplePacket 7 0x11 5 1 [1, 2]) (board.setBli { board.bli with sampleQ := List.replicate 11 fullBlock.packet })
    d.bli.sampleQ.length = 12 ∧ d.bli.flow = .hold := by decide +kernel
/-- 09 section 9.1: a control behind a closed Control Unit waits; only the low byte of the word is its code. -/
theorem test_controlPacket :
    (after (.controlPacket 7 0xABCD01 [0xFF]) (board.setCtu (.closed .sleep false))).bli.controlQ = [⟨7, 0x01, [0xFF]⟩] := by decide +kernel
theorem test_wakePacket : (after .wakePacket (poweredBoard .sleep false)).pwc.wakeCause = some .link := by decide +kernel
/-- 11 section 11.2: CRC is LINK's first kind. -/
theorem test_badPacket :
    ((after (.badPacket 3 (List.replicate 15 0)) board).ntu.queue[(2 : Fin 43)]).map Entry.firstKind = some 0 := by decide +kernel
theorem test_flowSymbolSend : (after .flowSymbolSend board).bli.lastSymbol = some .release := by decide +kernel
theorem test_replySend :
    let d := after .replySend ((board.setBli { board.bli with replyQ := [⟨1, 0x48, .ok, []⟩] }).setCtu (.closed .sleep false))
    d.bli.replyQ = [] ∧ d.ctu = .closed .sleep true := by decide +kernel
/-- 10 section 10.3: of two entries of one level the lower source goes first. -/
theorem test_noticeSend :
    let e : Entry := { kinds := 1, count := 1, level := 2, firstKind := 0, firstTime := 0, detail := [] }
    let d := after .noticeSend (board.setNtu { board.ntu with queue := (board.ntu.queue.set 42 (some e)).set 41 (some e) })
    (d.ntu.queue[(41 : Fin 43)]).isNone ∧ (d.ntu.queue[(42 : Fin 43)]).isSome := by decide +kernel
theorem test_reportSend :
    let d := after .reportSend (board.setNtu { board.ntu with report := some [0xFF] })
    d.ntu.report = none ∧ d.bli.sent = some (.report [0xFF]) := by decide +kernel
theorem test_sleepEntry : (after .sleepEntry (tested.setCtu (.closed .sleep true))).pwc.power = .sleep := by decide +kernel
theorem test_resetReplySent : (after .resetReplySent (tested.setCtu (.closed .reset true))).pwc.resetCause = .resetControl := by decide +kernel

/-- 04 section 4.10 and 05 section 5.2: voice 3's stored sample and voice 7's held output, through port 1 at a RUNNING tick. -/
theorem test_sceneTick :
    let d := (runningBoard 4).setVoice 3 { playingVoice with
      port := 1, phase := 0x20000000, freq := 2097152, atten := 48,
      slots := [{ cue := 0, label := 9, pass := 1, block := 0, first := 5, count := 3, status := some .valid,
                  samples := [⟨16000, -8192⟩, ⟨0, 0⟩, ⟨0, 0⟩], played := 0 }] }
    let d := d.setVoice 7 { Voice.reset 7 with port := 1, rest := .held, lastOut := ⟨-20000, 30000⟩ }
    let e := after .sceneTick (d.setPort 1 { Port.reset with headroom := 1, width := .w14 })
    e.stu.time = 5 ∧ (e.port 1).last = ⟨-1428, 4096⟩ ∧ (e.voice 3).phase = 0x20200000 ∧ (e.voice 3).lastOut = ⟨8573, 2767⟩ := by
  decide +kernel
theorem test_pulseEnd :
    let l := (after (.pulseEnd 7) ((runningBoard 5).setLine 7 { Line.reset false with dir := .output, pulse := 1, latch := true })).line 7
    l.latch = false ∧ l.edges = [.fall] := by decide +kernel
theorem test_rampStep :
    ((after (.rampStep 31) ((runningBoard 5).setVoice 31 { playingVoice with ramp := some ⟨10, 4, 3⟩ })).voice 31).atten = 1 := by
  decide +kernel
theorem test_reportDue : (after .reportDue ((runningBoard 4096).setNtu { board.ntu with interval := 4096 })).ntu.report.isSome := by
  decide +kernel
theorem test_benchLineEdge :
    let d := after (.benchLineEdge 7 true) (lineBoard.setPwc { board.pwc with power := .standby })
    (d.line 7).edges = [.rise] ∧ d.pwc.wakeCause = some (.line 7) ∧ d.pwc.left = some .standby := by decide +kernel

/-- A voice's read of a cleared block is ABSENT. -/
theorem test_fetchComplete :
    let d := (board.setSmc { Smc.reset with port := some (.fetch 31 request) }).setVoice 31 { playingVoice with
      state := .priming, req := .granted request,
      slots := [{ cue := 0, label := 9, pass := 1, block := 0, first := 5, count := 3, status := none, samples := [], played := 0 }] }
    let e := after .fetchComplete d
    (e.voice 31).slots.map Slot.status = [some .absent] ∧ (e.voice 31).absentCount = 1 ∧ e.smc.port = none := by decide +kernel
/-- 07 section 7.2: a packet of no stream is dropped and counted. -/
theorem test_intakeJudgement :
    let d := after .intakeJudgement (queuedBoard board 0 252)
    d.siu.unrouted = 1 ∧ d.bli.sampleQ = [] := by decide +kernel
/-- 07 section 7.4: the first block of a ring sets first and w, and LAST ends it. -/
theorem test_intakeWriteComplete :
    let j : Judged := { fullBlock with opening := 1 }
    let d := (tested.setTake 63 (Take.opened .ring .iq8 [0] 1)).setSiu { Siu.reset with stage := .writing j }
    let e := after .intakeWriteComplete (d.setSmc { tested.smc with port := some (.intake 0 (j.image false)) })
    (e.take 63).state = .ended ∧ (e.take 63).ring = some ⟨0xFFFFFFFF, 0⟩ := by decide +kernel
/-- 06 section 6.7: a cleared block is counted as absent, and is the first bad one. -/
theorem test_verifyReadComplete :
    let d := filling.setVerify 63 { Verify.none with state := .running, opening := 1, size := 3 }
    let d := (d.setTks { d.tks with verifyTake := 63, verifyStage := .granted }).setSmc { tested.smc with port := some (.verify 63 0) }
    let r := ((after .verifyReadComplete d).take 63).verify
    r.absent = 1 ∧ r.firstBad = some (0, .absent) ∧ r.state = .running := by decide +kernel
theorem test_peekReadComplete :
    let d := (tested.setCtu (.holding ⟨1, 1, 0, 0⟩ .granted)).setSmc { tested.smc with port := some (.peek 0) }
    let e := after .peekReadComplete d
    e.ctu = .free ∧ answer e = some .ok ∧ e.smc.port = none := by decide +kernel
theorem test_refreshInterval :
    (after .refreshInterval (board.setSmc { Smc.reset with timerOn := true, debt := 7 })).smc.debt = 8 := by decide +kernel
theorem test_refreshComplete : (after .refreshComplete (board.setSmc { Smc.reset with port := some .refresh })).smc.port = none := by
  decide +kernel
/-- 08 section 8.4: in HALT the run stops at the first word that differs, and stands behind it. -/
theorem test_selftestStepComplete :
    let e : Engine := { Engine.reset with stage := .granted, mode := .halt, pos := { seg := 0, sweep := 1, word := 0, owed := false } }
    let d := board.setSmc { Smc.reset with engine := e, port := some (.selftest .pseudo 1 e.pos) }
    let x := (after (.selftestStepComplete []) d).smc.engine
    x.state = .halted ∧ x.failure.map Failure.offset = some 0 ∧ x.pos.word = 1 := by decide +kernel
theorem test_clearingWriteComplete :
    let e : Engine := { Engine.reset with state := .clearing, stage := .granted, clearing := [63], clearBlock := 32767 }
    let x := (after .clearingWriteComplete (board.setSmc { Smc.reset with engine := e, port := some (.clearing 0) })).smc.engine
    x.state = .idle ∧ x.summary.isSome := by decide +kernel
theorem test_selfRefreshExitEnd :
    let d := after .selfRefreshExitEnd (tested.setPwc { board.pwc with power := .waking, wakeCause := some .reset, left := some .sleep })
    d.pwc.power = .active ∧ d.smc.timerOn = true := by decide +kernel
theorem test_quietTimerExpiry :
    (after .quietTimerExpiry (tested.setPwc { board.pwc with quietTime := 5, quietLeft := 5 })).pwc.power = .standby := by decide +kernel
/-- 08 section 8.1: once the re-initialisation ends the first self-test step is granted. -/
theorem test_dramReinitEnd : (after .dramReinitEnd board).smc.port = some (.selftest .pseudo 1 TestPos.start) := by decide +kernel
theorem test_powerOn : (after .powerOn (tested.setTks { tested.tks with counter := 9 })).tks.counter = 1 := by decide +kernel
theorem test_rstnAssert : (after .rstnAssert (runningBoard 9)).pwc.rstn = true := by decide +kernel
theorem test_coldReset : (after .coldReset filling).pwc.resetCause = .resetLineCold := by decide +kernel
/-- 06 section 6.10: a warm reset keeps the take and unbinds it. -/
theorem test_warmReset :
    let d := after .warmReset filling
    (d.take 63).state = .filling ∧ (d.take 63).tag = none ∧ d.siu.entries = [] := by decide +kernel
theorem test_sclkPeriodNoTick :
    ((after .sclkPeriodNoTick ((poweredBoard .standby false).setPort 3 { Port.reset with last := ⟨5, 6⟩ })).port 3).last = ⟨0, 0⟩ := by
  decide +kernel

/-! ### Values for the statements of cues, grants, packets in hand and the self-test -/

/-- A chain with no tuple, with an argument given twice, with an unlisted value, with the first take id and the first voice out of range, and
each compound body with its action given twice or its other argument missing. -/
theorem test_witness_ArgumentsAreChecked :
    (stateOf board).Takes [0xFF] [] ∧ (stateOf board).Takes [2, 1, 0, 2, 1, 0, 0xFF] [⟨2, [0]⟩, ⟨2, [0]⟩] ∧
      (stateOf board).Takes ([2, 1, 64] ++ tupleBytes 3 (leBytes 4 0) ++ [4, 2, 7, 0, 0xFF]) [⟨2, [64]⟩, ⟨3, leBytes 4 0⟩, ⟨4, [7, 0]⟩] ∧
      argument 2 [⟨2, [64]⟩, ⟨3, leBytes 4 0⟩, ⟨4, [7, 0]⟩] = some [(64 : Byte)] ∧ 64 ≤ (64 : Byte).toNat ∧
      readAll voiceSettingOf [⟨0x21, [31, 2]⟩] = none ∧ readAll portSettingOf [⟨0x2B, [3, 13]⟩] = none ∧
      readAll lineSettingOf [⟨0x30, [7, 2]⟩] = none ∧ readAll markerOf [⟨0x38, leBytes 6 0 ++ [7, 4]⟩] = none ∧
      readAll memTupleOf [⟨0x51, [3]⟩] = none ∧ cuesOf [⟨1, [0]⟩, ⟨0x11, leBytes 6 0⟩] = none ∧
      (stateOf board).Takes (queryBody 0 0 [7, 2, 0, 0, 0xFF]) [⟨7, [0, 0]⟩, ⟨7, [0, 0]⟩] ∧
      (stateOf board).Takes (flushBody 1 [0xFF]) [⟨6, [1]⟩] ∧ (stateOf board).Takes (flushBody 0 [1, 1, 32, 0xFF]) [⟨6, [0]⟩, ⟨1, [32]⟩] ∧
      (stateOf board).Takes (testBody 0 3 1 [0xFF]) [⟨0x50, [0, 3, 1]⟩] ∧ (stateOf board).Takes (testBody 0 2 2 [0xFF]) [⟨0x50, [0, 2, 2]⟩] ∧
      (stateOf board).Takes (powerBody 0 0 [0x58, 3, 0, 0, 0, 0xFF]) [⟨0x58, [0, 0, 0]⟩, ⟨0x58, [0, 0, 0]⟩] := by
  refine ⟨?_, ?_, ?_, by decide, by decide, by decide, by decide, by decide, by decide, by decide, by decide, ?_, ?_, ?_, ?_, ?_, ?_⟩ <;>
    exact takes_of rfl rfl rfl rfl (by decide) rfl

/-- A store whose arbiter may grant, with nothing waiting. -/
def openStore (e : Engine) : Smc := { tested.smc with reinit := false, engine := e }

/-- A judged packet under an armed record that names it, a peek, a verify read, a self-test step and a clearing write, each the one that waits. -/
theorem test_witness_GrantsOccupyPort :
    (judgedBoard.setSmc { openStore tested.smc.engine with injection := some ⟨63, 3, true⟩ }).choose = some .intake ∧
      ((tested.setCtu (.holding ⟨1, 1, 0, 0⟩ .waiting)).setSmc (openStore tested.smc.engine)).choose = some .peek ∧
      ((tested.setVerifyStage .waiting).setSmc (openStore tested.smc.engine)).choose = some .verify ∧
      (tested.setSmc (openStore Engine.reset)).choose = some .selftest ∧ Engine.reset.state ≠ .clearing ∧
      (tested.setSmc (openStore { Engine.reset with state := .clearing, clearing := [63] })).choose = some .selftest := by
  refine ⟨?_, ?_, ?_, ?_, ?_, ?_⟩ <;> decide +kernel

/-- A packet of tag 7 judged, and one being written, in a part that takes each control. -/
theorem test_witness_PacketsInHand :
    (stateOf judgedBoard).Takes [2, 1, 63, 0xFF] [⟨2, [63]⟩] ∧ (stateOf judgedBoard).Takes [4, 2, 7, 0, 0xFF] [⟨4, [7, 0]⟩] ∧
      judgedBoard.StreamsAgree ∧ judgedBoard.siu.entries = [{ tag := 7, take := 63, accepted := 2, dropped := 0 }] ∧
      (∃ j, judgedBoard.siu.stage = .judged j ∧ j.packet.tag = 7) ∧ (∃ p rest, judgedBoard.bli.sampleQ = p :: rest ∧ p.tag = 7) ∧
      (judgedBoard.setSiu { judgedBoard.siu with stage := .writing fullBlock }).siu.stage = .writing fullBlock ∧ fullBlock.packet.tag = 7 :=
  ⟨⟨⟨rfl, rfl, rfl, rfl, by decide⟩, Device.settled_of_not_mayGrant rfl, by decide, rfl⟩,
    ⟨⟨rfl, rfl, rfl, rfl, by decide⟩, Device.settled_of_not_mayGrant rfl, by decide, rfl⟩,
    streams_agree rfl (by decide +kernel) (by decide +kernel) (by decide +kernel), rfl, ⟨_, rfl, rfl⟩, ⟨_, _, rfl, rfl⟩, rfl, rfl⟩

/-- A directory of READY takes of 6 samples, at bench time 20. -/
def readyTakes : Ctx :=
  { takes := Vector.replicate 64 { Take.opened .resident .iq16 [0] 1 with state := .ready, length := 6 }, time := 20, src := 42 }

/-- A directory of LIVE takes with blocks 0 to 9 written. -/
def liveTakes : Ctx :=
  { takes := Vector.replicate 64 { Take.opened .ring .iq16 [0] 1 with ring := some ⟨0, 10⟩ }, time := 20, src := 42 }

/-- A head that waits for a start of mode m, 6 samples of effective length in all. -/
def waitingVoice (m : StartMode) (tm : TimeMode) : Voice :=
  { playingVoice with state := .waiting, started := false, timeMode := tm, cues := [{ plainCue with mode := m, verdict := .resident 3 false }] }

/-- Each start: a gapless succession, FOLLOW, a line fired and not, a time ahead, just now and past; under KEEP, a skip of 5 of the cue's 6
samples moves in it, and one of 6 ends it. -/
theorem test_witness_CuesStart :
    ({ playingVoice with started := false } : Voice).state = .playing ∧ (waitingVoice .follow .slip).state = .waiting ∧
      ((7 : Fin 8) ∈ [(7 : Fin 8)] ∧ (7 : Fin 8) ∉ ([] : List (Fin 8))) ∧
      (readyTakes.time < 21 ∧ readyTakes.time = 20 ∧ 19 < readyTakes.time) ∧
      (∀ c ∈ (waitingVoice (.atTime 15) .keep).cues,
        (match (waitingVoice (.atTime 15) .keep).skip readyTakes c (20 - 15) with | .moved made w => made = 5 ∧ w.pass = 2 | _ => False) ∧
        (match (waitingVoice (.atTime 14) .keep).skip readyTakes c (20 - 14) with | .ended made => made = 6 | _ => False)) := by
  refine ⟨rfl, rfl, by decide, by decide, ?_⟩
  intro c hc
  cases List.mem_singleton.mp hc
  exact ⟨⟨rfl, rfl⟩, rfl⟩

/-- A list with no further cue; with one whose first slot is filled, is RESERVED and is missing; with a skipped one; and with one not yet judged
that starts at its take's last sample and at the first one beyond it. -/
theorem test_witness_CuesEnd :
    let next : Slot := { cue := 1, label := 9, pass := 1, block := 0, first := 5, count := 1, status := some .valid, samples := [], played := 0 }
    playingVoice.cues.tail = [] ∧ ({ playingVoice with slots := [next], cursor := .atEnd (0 + 1) } : Voice).cursor = .atEnd (0 + 1) ∧
      (next.cue ≠ 0 ∧ next.status ≠ none ∧ ({ next with status := none } : Slot).status = none) ∧
      ({ plainCue with verdict := .skipped .range } : Cue).verdict = .skipped .range ∧ plainCue.verdict = .undecided ∧
      (playingVoice.cursor = .atEnd 0 ∧ ∀ u ∈ playingVoice.slots, u.cue = 0) ∧ (readyTakes.take plainCue).kind = .resident ∧
      (readyTakes.take plainCue).state = .ready ∧ plainCue.start.toNat < (readyTakes.take plainCue).length ∧ 1 ≤ playingVoice.primeDepth ∧
      (readyTakes.take plainCue).length ≤ ({ plainCue with start := 6 } : Cue).start.toNat := by decide +kernel

/-- A voice that primes and starves at its depth and one below it, with the cue whole and spent; a skip within a slot and one that uses it up;
and each end of a resident and of a ring skip. -/
theorem test_witness_VoicesRecover :
    let filled := fun v : Voice => (v.slots.filter (fun w => w.status.isSome)).length
    let c : Cue := { plainCue with verdict := .resident 3 false }
    let r : Cue := { plainCue with length := 8, verdict := .ring 2 }
    let v : Voice := { playingVoice with cues := [r], slots := [], cursor := .atTarget 0 1 9 0, offset := 2 }
    ({ playingVoice with primeDepth := 1 } : Voice).primeDepth ≤ filled playingVoice ∧
      ¬ ({ playingVoice with primeDepth := 2 } : Voice).primeDepth ≤ filled playingVoice ∧
      (({ playingVoice with slots := [] } : Voice).cursor = .atEnd 0 ∧ ∀ w ∈ ({ playingVoice with slots := [] } : Voice).slots, w.cue ≠ 0) ∧
      (passOver 2 playingVoice.slots).map Slot.played = [2] ∧ passOver 3 playingVoice.slots = [] ∧
      (match playingVoice.skip readyTakes c 5 with | .moved d _ => d = 5 | _ => False) ∧
      (match playingVoice.skip readyTakes c 6 with | .ended d => d = 6 | _ => False) ∧
      (match v.skip liveTakes r 5 with | .moved d _ => d = 5 | _ => False) ∧
      (match v.skip liveTakes r 6 with | .ended d => d = 6 | _ => False) := by
  refine ⟨by decide, by decide, by decide, by decide, by decide, rfl, rfl, rfl, rfl⟩

/-- A cue on a ring with nothing written, LIVE and ENDED; a target below the lap, at its first block and at the last block written; and a held
target at w, below it and without a block. -/
theorem test_witness_RingCuesWalk :
    let low : BlockNo := 10 - 32768
    (Take.opened .ring .iq16 [0] 1).ring = none ∧ (Take.opened .ring .iq16 [0] 1).state = .live ∧
      (liveTakes.take plainCue).kind = .ring ∧ (liveTakes.take plainCue).ring = some ⟨0, 10⟩ ∧
      (low - 1 - low).toInt < 0 ∧ ¬ (low - low).toInt < 0 ∧ ((8 : BlockNo) + 1 - 10).toInt < 0 ∧ 0 ≤ ((9 : BlockNo) + 1 - 10).toInt ∧
      ({ playingVoice with cursor := .held 0 1 (some 10) } : Voice).cursor = .held 0 1 (some 10) ∧ ¬ ((10 : BlockNo) - 10).toInt < 0 ∧
      ({ playingVoice with cursor := .held 0 1 none, slots := [] } : Voice).cursor = .held 0 1 none := by decide +kernel

/-- A tick that starts the scene, one at which the scene has drained, and one that records an edge in an empty list. -/
theorem test_witness_RunningTicksPost :
    (board.setStu { Stu.reset with scene := .armed, go := some { cond := .immediate, primedWait := false, latch := false } }).runsNext = true ∧
      ((runningBoard 9).setStu { (runningBoard 9).stu with cueStarted := true }).runsNext = true ∧ (runningBoard 9).stu.drainedPosted = false ∧
      (∀ v : Fin 32, ((runningBoard 9).voice v).state = .idle) ∧
      ((runningBoard 9).setLine 7 { Line.reset false with capture := true, edges := [.rise] }).pendingEdges = [(7, .rise)] := by
  refine ⟨?_, ?_, ?_, ?_, ?_⟩ <;> decide +kernel

/-- A step that resumes behind a halt within its words, at their end and at the end of a sweep; and ascending and descending elements. -/
theorem test_witness_SelftestGoesOn :
    let e : Engine := { Engine.reset with stage := .granted, pattern := .march, pos := { seg := 63, sweep := 3, word := 4194304, owed := true } }
    (board.setSmc { Smc.reset with port := some (.selftest e.pattern e.pass e.pos), engine := e }).smc.port =
        some (.selftest e.pattern e.pass e.pos) ∧ (e.state = .running ∧ e.pos.word ≤ 4194304 ∧ 1 ≤ e.pos.word) ∧
      min (128 - 5 % 128) (4194304 - 5) = 123 ∧ (4194304 : Nat) % 128 = 0 ∧ ([2, 3, 4, 5, 8, 9, 10].map (fun k => k % 6) = [2, 3, 4, 5, 2, 3, 4]) ∧
      memWord [] 0 ^^^ upsetAt [] 0 = 0 ∧ memWord [] 0 ^^^ upsetAt [(0, 1)] 0 ≠ 0 :=
  ⟨rfl, by decide, by decide, by decide, by decide, by decide +kernel, by decide +kernel⟩

/-- A word within a sweep and the sweep's end, the last sweep of each pattern, the last segment and the one before it, and each end of a pass. -/
theorem test_witness_SelftestAdvances :
    (4194303 : Nat) < 4194304 ∧ ((0 : Nat) < 1 ∧ ¬ (1 : Nat) < 1) ∧ ((10 : Nat) < 11 ∧ ¬ (11 : Nat) < 11) ∧ (63 : Fin 64).val = (62 : Fin 64).val + 1 ∧
      (engineBoard .running .loop false 0 [0]).smc.engine.mode = .loop ∧ (engineBoard .stopping .loop false 0 [0]).smc.engine.state ≠ .running ∧
      (engineBoard .stopping .loop false 0 [0]).smc.engine.written ≠ [] ∧ (engineBoard .running .normal false 0 [0]).smc.engine.mode ≠ .loop := by
  decide

/-- 02 section 2.9: a one-sample cue that ends at the tick of its start posts CUE_END before CUE_START. -/
theorem test_event_order :
    let v : Voice := { playingVoice with
      started := false, cues := [{ plainCue with count := 1, verdict := .resident 1 false }]
      slots := playingVoice.slots.map (fun u => { u with count := 1 }) }
    (v.runningTick readyTakes []).events.map Event.kind = [1, 0] := by decide +kernel

/-- 08 section 8.4: in a descending element the next word is counted from the segment's end, and 4194304 stands for none left. -/
theorem test_next_word :
    let e := fun k w => ({ Engine.reset with pattern := .march, pos := { seg := 0, sweep := k, word := w, owed := false } } : Engine).nextWord
    e 1 5 = 5 ∧ e 3 0 = 4194303 ∧ e 3 5 = 4194298 ∧ e 3 4194304 = 4194304 := by decide

/-! ### Values for the statements of reports, links, lines and abandoned steps -/

/-- The last line of a marker, at the last bench time. -/
theorem test_witness_RawMarkersLoad : ((7 : Fin 8).val = 7) ∧ (loadMarker [] { time := 281474976710655, line := 7, action := .set }).length = 1 := by
  decide +kernel

/-- A voice with no cue, at rest with (0, 0) and with its last output. -/
theorem test_witness_TurnsRequest :
    (Voice.reset 31).cues = [] ∧ (Voice.reset 31).rest = .zero ∧ ({ Voice.reset 31 with rest := .held, lastOut := ⟨5, -5⟩ } : Voice).rest = .held :=
  ⟨rfl, rfl, rfl⟩

/-- A head that has not begun; one begun with a slot, and with a target and a held block and no slot of its own. -/
theorem test_witness_ReportsGiveFields :
    let bare := fun c : Cursor => ({ playingVoice with slots := [], cursor := c } : Voice)
    ({ playingVoice with started := false } : Voice).started = false ∧ playingVoice.started = true ∧
      (∃ u us, playingVoice.slots.filter (fun u => decide (u.cue = 0)) = u :: us) ∧
      (bare (.atTarget 0 2 4294967295 0)).slots.filter (fun u => decide (u.cue = 0)) = [] ∧
      (bare (.held 0 1 (some 10))).cursor = .held 0 1 (some 10) :=
  ⟨rfl, rfl, ⟨_, _, rfl⟩, rfl, rfl⟩

/-- A stream table that agrees with a take that has written blocks 0 and 2, and with one that has written none, with no packet in hand. -/
theorem test_witness_WritesEndTakes :
    filling.StreamsAgree ∧ filling.siu.stage = .idle ∧ (filling.take 63).written.getLast? = some 2 ∧
      board.StreamsAgree ∧ board.siu.stage = .idle ∧ (board.take 63).written.getLast? = none ∧ live.StreamsAgree ∧ live.siu.stage = .idle :=
  ⟨streams_agree rfl (by decide +kernel) (by decide +kernel) (by decide +kernel), rfl, by decide +kernel, test_witness_StreamsStayInAgreement, rfl,
    by decide +kernel, streams_agree rfl (by decide +kernel) (by decide +kernel) (by decide +kernel), rfl⟩

/-- A packet of a kind, with a body of n bytes under a right CRC. -/
def linkPacket (kind flags : Byte) (len count n : Nat) : Packet :=
  { kind := kind, flags := flags, len := len, route := 0, word := 0, count := count, body := List.replicate n 0, crcRight := true }

/-- At each limit of the link and one byte beyond it: a sample packet of IQ8, a control packet and a wake packet; each earlier check; and a packet
of 14 bytes behind its kind, and one of 15. -/
theorem test_witness_LinkChecksInOrder :
    ((linkPacket 1 0 1009 504 1008).fault = some .length ∧ (linkPacket 0 0 3 0 3).fault = some .kind ∧
        (linkPacket 1 0 1007 504 1007).fault = some .sampleSize) ∧
      ((linkPacket 1 0x10 1008 504 1008).body.length = (linkPacket 1 0x10 1008 504 1008).count * Format.iq8.bps ∧
        (linkPacket 1 0x10 1008 504 1008).flags.toNat / 16 % 4 = Format.iq8.code) ∧
      (1008 < (linkPacket 1 0x10 1010 505 1010).body.length ∧ (linkPacket 1 0x10 1010 505 1010).fault = some .size) ∧
      ((linkPacket 2 0 1025 0 1025).fault = some .size ∧ (linkPacket 2 0 1024 0 1024).fault = none) ∧
      ((linkPacket 3 0 1 0 1).fault = some .size ∧ (linkPacket 3 0 0 0 0).fault = none) ∧
      ((List.replicate 14 (0 : Byte)).length < 15 ∧ (packetOf 3 (List.replicate 15 0)).body = []) := by
  decide +kernel

/-- A line in each direction and with each sleep behaviour, with wake on and off; and one whose edge is held already. -/
theorem test_witness_LinesAreSensed :
    (Line.reset false).dir = .input ∧ ({ Line.reset false with dir := .output } : Line).dir = .output ∧
      (∀ w, ({ Line.reset true with sleepMode := .hold, wake := w } : Line).sleepMode = .hold ∧
        ({ Line.reset true with sleepMode := .release, wake := w } : Line).wake = w) ∧
      Edge.rise ∈ ({ Line.reset false with edges := [.rise] } : Line).edges ∧ Edge.fall ∉ (Line.reset false).edges :=
  ⟨rfl, rfl, fun _ => ⟨rfl, rfl⟩, by decide, by decide⟩

/-- Steps in flight whose run is abandoned, owed at the segment's end and at its first word, and not owed at its first and last word. -/
theorem test_witness_AbandonedStepsWrite :
    let pos := fun w owed => ({ seg := 63, sweep := 1, word := w, owed := owed } : TestPos)
    (∀ p, ({ Smc.reset with port := some (.selftest .march 1 p), engine := Engine.reset.warm } : Smc).port = some (.selftest .march 1 p)) ∧
      Engine.reset.warm.stage ≠ .granted ∧ (Engine.reset.warm.state ≠ .running ∧ Engine.reset.warm.state ≠ .stopping) ∧
      (pos 4194304 true).word ≤ 4194304 ∧ 1 ≤ (pos 1 true).word ∧ (pos 0 false).word % 128 = 0 ∧
      min (128 - (pos 4194303 false).word % 128) (4194304 - (pos 4194303 false).word) = 1 :=
  ⟨fun _ => rfl, by decide, by decide, by decide, by decide, by decide, by decide⟩

/-- The part right after power-on, one that wakes, and an engine that clears. -/
theorem test_witness_WakingAndRunsStayFit :
    State.reset.dev.WakingHasCause ∧ State.reset.dev.smc.engine.RunFits ∧
      (board.setPwc { board.pwc with power := .waking, wakeCause := some .link, left := some .standby }).WakingHasCause ∧
      ({ Engine.reset with state := .clearing, clearing := [63] } : Engine).RunFits :=
  ⟨(nofun), ⟨(nofun), (nofun)⟩, fun _ => ⟨by decide, by decide⟩, ⟨fun _ => by decide, (nofun)⟩⟩

/-- R61: a slot whose block is missing, under a cue of the list, with its CONCEAL not yet reported; and its event posted once. -/
theorem test_conceal_once :
    let v : Voice := { playingVoice with slots := playingVoice.slots.map (fun u => { u with status := none }), concealReported := false }
    let missing : Block := readBlock [] 0
    let w := (v.fill readyTakes true request missing).1
    v.cues[0]? = some { plainCue with verdict := .resident 3 false } ∧ (v.fill readyTakes true request missing).2.map Event.kind = [5] ∧
      w.concealReported = true ∧ w.absentCount = 1 := by
  decide +kernel

end Sys2Proof.Tests
end

section
/-! PROOFS. The attenuation factors against the exact power of ten, and the rotation at the table indexes on the axes (O41). The saturation rules
that come first serve the ports too (O42). -/

namespace Sys2Proof.Machine

/-! ### Saturation (00 section 5.3) -/

theorem sat16_eq (x : Int) : sat16 x = max (-32768) (min 32767 x) := rfl

theorem sat16_of_inRange {x : Int} (hlo : -32768 ≤ x) (hhi : x ≤ 32767) : sat16 x = x := by
  rw [sat16_eq]; omega

theorem le_satBits (w : Nat) (x : Int) : -(2 ^ (w - 1) : Nat) ≤ satBits w x := le_max_left _ _

theorem satBits_le (w : Nat) (x : Int) : satBits w x ≤ (2 ^ (w - 1) : Nat) - 1 := by
  have hpow : 0 < 2 ^ (w - 1) := Nat.two_pow_pos _
  unfold satBits
  omega

/-! ### The attenuation factors (R80) -/

/-- R80 in exact integer form: F is 32768 x 10^(-a/160) rounded, since 2F - 1 and 2F + 1 enclose 65536 x 10^(-a/160), each side raised to the
power 160. At F = 0 the truncated 2F - 1 bounds nothing, as it should. -/
abbrev IsRoundedPower (a F : Nat) : Prop :=
  (2 * F - 1) ^ 160 * 10 ^ a ≤ 65536 ^ 160 ∧ 65536 ^ 160 < (2 * F + 1) ^ 160 * 10 ^ a

/-- R80: the power of ten that a code stands for. -/
noncomputable def attenuationPower (a : Nat) : ℝ := (10 : ℝ) ^ (-(a : ℝ) / 160)

theorem attenuationPower_pos (a : Nat) : 0 < attenuationPower a := Real.rpow_pos_of_pos (by norm_num) _

theorem attenuationPower_pow (a : Nat) : attenuationPower a ^ 160 * 10 ^ a = 1 := by
  have hten : (0 : ℝ) < 10 := by norm_num
  have hexp : -(a : ℝ) / 160 * (160 : ℕ) = -(a : ℝ) := by push_cast; ring
  rw [attenuationPower, ← Real.rpow_natCast, ← Real.rpow_mul hten.le, hexp, ← Real.rpow_natCast 10 a, ← Real.rpow_add hten,
    neg_add_cancel, Real.rpow_zero]

theorem attenuationPower_antitone : Antitone attenuationPower := by
  intro a b hab
  have hcast : (a : ℝ) ≤ b := by exact_mod_cast hab
  exact Real.rpow_le_rpow_of_exponent_le (by norm_num) (by linarith)

/-- Both sides of the enclosure, scaled by 10^a, compare with 65536^160 as the real numbers compare with 65536 x 10^(-a/160). -/
theorem scaledPower_pow (a : Nat) : (65536 * attenuationPower a) ^ 160 * 10 ^ a = 65536 ^ 160 := by
  rw [mul_pow, mul_assoc, attenuationPower_pow, mul_one]

theorem le_scaledPower {a n : Nat} (h : n ^ 160 * 10 ^ a ≤ 65536 ^ 160) : (n : ℝ) ≤ 65536 * attenuationPower a := by
  have hcast : (n : ℝ) ^ 160 * 10 ^ a ≤ (65536 * attenuationPower a) ^ 160 * 10 ^ a := by
    rw [scaledPower_pow]; exact_mod_cast h
  have hpow := le_of_mul_le_mul_right hcast (by positivity)
  exact le_of_pow_le_pow_left₀ (by norm_num) (mul_nonneg (by norm_num) (attenuationPower_pos a).le) hpow

theorem scaledPower_lt {a n : Nat} (h : 65536 ^ 160 < n ^ 160 * 10 ^ a) : 65536 * attenuationPower a < n := by
  have hcast : (65536 * attenuationPower a) ^ 160 * 10 ^ a < (n : ℝ) ^ 160 * 10 ^ a := by
    rw [scaledPower_pow]; exact_mod_cast h
  have hpow := lt_of_mul_lt_mul_right hcast (by positivity)
  exact lt_of_pow_lt_pow_left₀ 160 n.cast_nonneg hpow

theorem round_attenuationPower {a F : Nat} (h : IsRoundedPower a F) : round (32768 * attenuationPower a) = (F : Int) := by
  obtain ⟨hlow, hhigh⟩ := h
  have hle := le_scaledPower hlow
  have hlt := scaledPower_lt hhigh
  have htrunc : (2 * F : ℝ) ≤ (2 * F - 1 : Nat) + 1 := by exact_mod_cast (show 2 * F ≤ 2 * F - 1 + 1 by omega)
  push_cast at hlt
  rw [round_eq_iff, Set.mem_Ico]
  constructor <;> push_cast <;> linarith

theorem factorTable_length : factorTable.length = 771 := by decide +kernel

/-- The table's 771 entries, each with its code, compared exactly in one walk along the list. -/
theorem factorTable_zipIdx_isRoundedPower : ∀ e ∈ factorTable.zipIdx, IsRoundedPower e.2 e.1 := by decide +kernel

theorem factorTable_isRoundedPower {a : Nat} (h : a < 771) : IsRoundedPower a (factorTable.getD a 0) := by
  have hlen : a < factorTable.length := by rw [factorTable_length]; exact h
  have hmem : (factorTable.getD a 0, a) ∈ factorTable.zipIdx := by
    rw [List.mk_mem_zipIdx_iff_getElem?, List.getD_eq_getElem _ _ hlen, List.getElem?_eq_getElem hlen]
  generalize factorTable.getD a 0 = F at hmem ⊢
  exact factorTable_zipIdx_isRoundedPower (F, a) hmem

theorem factorTable_beyond {a : Nat} (h : 771 ≤ a) : factorTable.getD a 0 = 0 :=
  List.getD_eq_default _ _ (by rw [factorTable_length]; exact h)

/-- A power that rounds to 0 still does at every greater code. -/
theorem isRoundedPower_zero_of_le {a b : Nat} (h : IsRoundedPower a 0) (hab : a ≤ b) : IsRoundedPower b 0 := by
  obtain ⟨-, hmute⟩ := h
  exact ⟨by simp, hmute.trans_le (Nat.mul_le_mul_left _ (Nat.pow_le_pow_right (by norm_num) hab))⟩

/-- R80: code 771 is the first that mutes. -/
theorem isRoundedPower_771_zero : IsRoundedPower 771 0 := by decide +kernel

theorem factor_isRoundedPower (a : Nat) : IsRoundedPower a (factorTable.getD a 0) := by
  rcases Nat.lt_or_ge a 771 with h | h
  · exact factorTable_isRoundedPower h
  · rw [factorTable_beyond h]; exact isRoundedPower_zero_of_le isRoundedPower_771_zero h

theorem factor_eq_round (a : Nat) : factor a = round (32768 * attenuationPower a) :=
  (round_attenuationPower (factor_isRoundedPower a)).symm

theorem factor_antitone : Antitone factor := by
  intro a b hab
  have hpow : 32768 * attenuationPower b ≤ 32768 * attenuationPower a := by linarith [attenuationPower_antitone hab]
  rw [factor_eq_round, factor_eq_round, round_eq, round_eq]
  exact Int.floor_mono (by linarith)

theorem factor_zero : factor 0 = 32768 := rfl

theorem factor_of_mute {a : Nat} (h : 771 ≤ a) : factor a = 0 := by
  rw [factor, factorTable_beyond h]; rfl

theorem factor_nonneg (a : Nat) : 0 ≤ factor a := Int.natCast_nonneg _

theorem factor_le (a : Nat) : factor a ≤ 32768 := factor_antitone (Nat.zero_le a)

/-! ### The rotation on the axes (R78) -/

/-- R78: f, the rotation by a table index on an axis, of one component. -/
def axisComponent (x : Int) : Int := (x * 32767 + 16384) / 32768

/-- Over the arguments f has, the negated components included, nothing saturates. -/
theorem rotated_mul_axis {x : Int} (hlo : -32768 ≤ x) (hhi : x ≤ 32768) : rotated (x * 32767) = axisComponent x := by
  unfold rotated axisComponent
  exact sat16_of_inRange (by omega) (by omega)

theorem axisComponent_eq {x : Int} (hlo : -32768 ≤ x) (hhi : x ≤ 32767) :
    axisComponent x = if 16385 ≤ x then x - 1 else if x ≤ -16384 then x + 1 else x := by
  unfold axisComponent; omega

theorem sine_axes : sine 0 = 0 ∧ sine 1024 = 32767 ∧ sine 2048 = 0 ∧ sine 3072 = -32767 := by decide +kernel

theorem cosine_axes : cosine 0 = 32767 ∧ cosine 1024 = 0 ∧ cosine 2048 = -32767 ∧ cosine 3072 = 0 := by
  obtain ⟨h0, h1, h2, h3⟩ := sine_axes
  exact ⟨h1, h2, h3, h0⟩

/-- R78: each component of a rotation on an axis is f of one component, by the axis's sine and cosine. -/
theorem rotate_axes {i q : Int} (hi : -32768 ≤ i ∧ i ≤ 32767) (hq : -32768 ≤ q ∧ q ≤ 32767) :
    rotate ⟨i, q⟩ 0 = ⟨axisComponent i, axisComponent q⟩ ∧ rotate ⟨i, q⟩ 1024 = ⟨axisComponent (-q), axisComponent i⟩ ∧
      rotate ⟨i, q⟩ 2048 = ⟨axisComponent (-i), axisComponent (-q)⟩ ∧
      rotate ⟨i, q⟩ 3072 = ⟨axisComponent q, axisComponent (-i)⟩ := by
  obtain ⟨s0, s1, s2, s3⟩ := sine_axes
  obtain ⟨c0, c1, c2, c3⟩ := cosine_axes
  have fi : rotated (i * 32767) = axisComponent i := rotated_mul_axis (by omega) (by omega)
  have fq : rotated (q * 32767) = axisComponent q := rotated_mul_axis (by omega) (by omega)
  have fni : rotated (-(i * 32767)) = axisComponent (-i) := by rw [← Int.neg_mul]; exact rotated_mul_axis (by omega) (by omega)
  have fnq : rotated (-(q * 32767)) = axisComponent (-q) := by rw [← Int.neg_mul]; exact rotated_mul_axis (by omega) (by omega)
  refine ⟨?_, ?_, ?_, ?_⟩
  · simp [rotate, s0, c0, fi, fq]
  · simp [rotate, s1, c1, fi, fnq]
  · simp [rotate, s2, c2, fni, fnq]
  · simp [rotate, s3, c3, fni, fq]

end Sys2Proof.Machine

open Sys2Proof Sys2Proof.Machine

/-- Settles O41: each entry of the table by the exact comparison of 160th powers, the order of the factors from the order of the powers, and
the axes by the four values of sine and cosine there. -/
theorem factorsAndAxisRotations : Obligations.FactorsAndAxisRotations := by
  refine ⟨⟨fun a _ => factor_eq_round a, fun a b => @factor_antitone a b, factor_zero, ?_⟩, ?_⟩
  · have hvalues : factor 1 = 32300 ∧ factor 8 = 29205 ∧ factor 24 = 23198 ∧ factor 48 = 16423 ∧ factor 80 = 10362 ∧
        factor 160 = 3277 ∧ factor 320 = 328 ∧ factor 480 = 33 ∧ factor 640 = 3 ∧ factor 770 = 1 := by decide +kernel
    obtain ⟨h1, h8, h24, h48, h80, h160, h320, h480, h640, h770⟩ := hvalues
    refine ⟨h1, h8, h24, h48, h80, h160, h320, h480, h640, h770, ?muted, ?full, fun _ _ _ => rfl, fun _ _ _ => rfl⟩
    case muted =>
      intro a ha
      refine ⟨factor_of_mute ha, fun x _ _ => ?_⟩
      rw [factor_of_mute ha]; omega
    case full =>
      intro x
      rw [factor_zero]; omega
  · refine ⟨fun i q hi hi' hq hq' => ?_, by decide⟩
    obtain ⟨h0, h1, h2, h3⟩ := rotate_axes ⟨hi, hi'⟩ ⟨hq, hq'⟩
    exact ⟨h0, h1, h2, h3, axisComponent_eq hi hi'⟩
end

section
/-! PROOFS. A port's mix (O42), from the rules of each of its stages. -/

namespace Sys2Proof.Machine

/-! ### A port's component (R86, R87, R89) -/

theorem mixComponent_fst (w : Width) (ap h : Nat) (acc : Int) :
    (mixComponent w ap h acc).1 = satBits w.bits (dacRounded w (sat16 (portScaled ap h acc))) := rfl

theorem mixComponent_snd_port_iff (w : Width) (ap h : Nat) (acc : Int) :
    (mixComponent w ap h acc).2 = some .port ↔ sat16 (portScaled ap h acc) ≠ portScaled ap h acc := by
  unfold mixComponent
  dsimp only
  split_ifs <;> simp_all

theorem mixComponent_snd_dac_iff (w : Width) (ap h : Nat) (acc : Int) :
    (mixComponent w ap h acc).2 = some .dac ↔ sat16 (portScaled ap h acc) = portScaled ap h acc ∧
      satBits w.bits (dacRounded w (sat16 (portScaled ap h acc))) ≠ dacRounded w (sat16 (portScaled ap h acc)) := by
  unfold mixComponent
  dsimp only
  split_ifs <;> simp_all

theorem satBits_w14 (x : Int) : satBits Width.w14.bits x = max (-8192) (min 8191 x) := rfl

theorem satBits_w12 (x : Int) : satBits Width.w12.bits x = max (-2048) (min 2047 x) := rfl

/-- R87: at 16 bits the DAC stage changes nothing that R86 has saturated. -/
theorem satBits_w16_sat16 (x : Int) : satBits Width.w16.bits (dacRounded .w16 (sat16 x)) = sat16 x :=
  sat16_of_inRange (le_satBits 16 x) (satBits_le 16 x)

/-- R87: only the largest values of a narrower width pass its range. -/
theorem dac_clamps_iff (w : Width) (x : Int) : satBits w.bits (dacRounded w (sat16 x)) ≠ dacRounded w (sat16 x) ↔
    (w = .w14 ∧ 32766 ≤ sat16 x) ∨ (w = .w12 ∧ 32760 ≤ sat16 x) := by
  have hlo : -32768 ≤ sat16 x := le_satBits 16 x
  have hhi : sat16 x ≤ 32767 := satBits_le 16 x
  cases w with
  | w12 => rw [satBits_w12]; simp only [dacRounded, reduceCtorEq, false_and, true_and, false_or]; omega
  | w14 => rw [satBits_w14]; simp only [dacRounded, reduceCtorEq, false_and, true_and, or_false]; omega
  | w16 => rw [satBits_w16_sat16]; simp [dacRounded]

/-- R87: the rounding of a width below 16 is the general formula's. -/
theorem satBits_dacRounded (w : Width) (hw : w.bits < 16) (y : Int) : satBits w.bits (dacRounded w y) =
    max (-((2 : Int) ^ (w.bits - 1))) (min ((2 : Int) ^ (w.bits - 1) - 1) ((y + (2 : Int) ^ (15 - w.bits)) / (2 : Int) ^ (16 - w.bits))) := by
  cases w with
  | w12 => rfl
  | w14 => rfl
  | w16 => exact absurd hw (by decide)

theorem portScaled_full (acc : Int) : portScaled 0 0 acc = acc := by
  rw [portScaled, factor_zero]
  norm_num
  omega

/-- R86: at headroom 5 a sum of 32 handed values, each at most full scale, is within 16 bits after the scaling, whatever the code. -/
theorem portScaled_headroom5 {acc : Int} (a : Nat) (hlo : -1048576 ≤ acc) (hhi : acc ≤ 1048544) :
    -32768 ≤ portScaled a 5 acc ∧ portScaled a 5 acc ≤ 32767 := by
  have hlow : -1048576 * 32768 ≤ acc * factor a := by nlinarith [factor_nonneg a, factor_le a]
  have hhigh : acc * factor a ≤ 1048544 * 32768 := by nlinarith [factor_nonneg a, factor_le a]
  unfold portScaled
  norm_num
  omega

end Sys2Proof.Machine

open Sys2Proof Sys2Proof.Machine

/-- Settles O42: the two saturations by their bounds, the DAC stage width by width, and headroom 5 by the bounds of the factor. -/
theorem mixesFitTheWidth : Obligations.MixesFitTheWidth := by
  refine ⟨fun _ _ => rfl, fun w a h acc => ?_, fun y hy => ⟨by omega, by omega⟩, by decide⟩
  have hout := mixComponent_fst w a h acc
  refine ⟨hout.trans ?byWidth, fun hw => hout.trans (satBits_dacRounded w hw _), le_satBits _ _, satBits_le _ _,
    mixComponent_snd_port_iff w a h acc, ?dac, portScaled_full acc, ?headroom⟩
  case byWidth =>
    cases w with
    | w12 => rfl
    | w14 => rfl
    | w16 => exact satBits_w16_sat16 _
  case dac =>
    exact (mixComponent_snd_dac_iff w a h acc).trans (and_congr_right fun _ => dac_clamps_iff w _)
  case headroom =>
    rintro hlo hhi rfl
    obtain ⟨hlow, hhigh⟩ := portScaled_headroom5 a hlo hhi
    exact sat16_of_inRange hlow hhigh
end

section
/-! PROOFS. What a posted event leaves in the notice queue (O28), from the rules of an entry's kind set, of an entry and of the queue. -/

namespace Sys2Proof.Machine

/-! ### The kind set of an entry (R176) -/

/-- R176: a kind's bit is that kind's alone, and a number past the sixteen kinds has none. -/
theorem getLsbD_kindBit (k i : Nat) : (kindBit k).getLsbD i = decide (i = k ∧ i < 16) := by
  rw [kindBit, BitVec.getLsbD_ofNat, Nat.testBit_two_pow, ← Bool.decide_and]
  exact decide_eq_decide.mpr (by omega)

/-! ### The entry after an enabled event (R178) -/

/-- The event makes the entry. -/
theorem Entry.posted_none (time level : Nat) (e : Event) :
    Entry.posted time level e none =
      { kinds := kindBit e.kind, count := 1, level := level, firstKind := e.kind, firstTime := time, detail := e.detail } := rfl

/-- The event joins the entry. -/
theorem Entry.posted_some (time level : Nat) (e : Event) (x : Entry) :
    Entry.posted time level e (some x) = { x with kinds := x.kinds ||| kindBit e.kind, count := min 255 (x.count + 1) } := rfl

/-! ### The Notice Unit after an event (R178) -/

theorem Ntu.post_of_disabled {n : Ntu} {e : Event} (h : n.enabled e.source e.kind = false) (time : Nat) : n.post time e = n := by
  simp [Ntu.post, h]

theorem Ntu.post_of_enabled {n : Ntu} {e : Event} (h : n.enabled e.source e.kind = true) (time : Nat) :
    n.post time e =
      { n with queue := n.queue.set e.source (some (Entry.posted time (n.settings[e.source]).level e n.queue[e.source])) } := by
  simp [Ntu.post, h]

/-- R178: an event changes the notice queue alone. -/
theorem Ntu.post_frame (n : Ntu) (time : Nat) (e : Event) : n.post time e = { n with queue := (n.post time e).queue } := by
  cases h : n.enabled e.source e.kind with
  | false => rw [Ntu.post_of_disabled h]
  | true => rw [Ntu.post_of_enabled h]

@[simp] theorem Ntu.post_settings (n : Ntu) (time : Nat) (e : Event) : (n.post time e).settings = n.settings := by
  rw [Ntu.post_frame]

@[simp] theorem Ntu.post_interval (n : Ntu) (time : Nat) (e : Event) : (n.post time e).interval = n.interval := by
  rw [Ntu.post_frame]

@[simp] theorem Ntu.post_report (n : Ntu) (time : Nat) (e : Event) : (n.post time e).report = n.report := by
  rw [Ntu.post_frame]

theorem Ntu.post_queue_source {n : Ntu} {e : Event} (h : n.enabled e.source e.kind = true) (time : Nat) :
    (n.post time e).queue[e.source] = some (Entry.posted time (n.settings[e.source]).level e n.queue[e.source]) := by
  rw [Ntu.post_of_enabled h]
  exact Vector.getElem_set_self e.source.isLt

/-- R178: an event changes no entry of another source, whether or not its kind is enabled. -/
theorem Ntu.post_queue_ne {n : Ntu} {e : Event} {i : Fin 43} (hi : i ≠ e.source) (time : Nat) :
    (n.post time e).queue[i] = n.queue[i] := by
  cases h : n.enabled e.source e.kind with
  | false => rw [Ntu.post_of_disabled h]
  | true =>
    rw [Ntu.post_of_enabled h]
    exact Vector.getElem_set_ne e.source.isLt i.isLt (Fin.val_ne_of_ne hi.symm)

end Sys2Proof.Machine

open Sys2Proof Sys2Proof.Machine

/-- Settles O28: the source's entry is the posted one, by whether an entry stands, and the rest of the Notice Unit is its frame. -/
theorem eventsCoalesceBySource : Obligations.EventsCoalesceBySource := by
  intro n time e
  refine ⟨fun _ => rfl, n.post_settings time e, n.post_interval time e, n.post_report time e,
    fun i hi => Ntu.post_queue_ne hi time, fun h => Ntu.post_of_disabled h time, ?makes, ?joins⟩
  case makes =>
    intro h hnone
    have hentry := Ntu.post_queue_source h time
    rw [hnone, Entry.posted_none] at hentry
    exact ⟨_, hentry, rfl, rfl, rfl, rfl, rfl, getLsbD_kindBit e.kind⟩
  case joins =>
    intro x h hsome
    have hentry := Ntu.post_queue_source h time
    rw [hsome, Entry.posted_some] at hentry
    refine ⟨_, hentry, rfl, rfl, rfl, rfl, rfl, fun k => ?_⟩
    rw [BitVec.getLsbD_or, getLsbD_kindBit]
end

section
/-! PROOFS. What every operation on a voice keeps of its cues, its codes and its state (R22, R30, R32, R79), as the step lemmas of the
voices' invariants need it. -/
namespace Sys2Proof.Machine

/-! ### Voices whose cues and codes come from another's -/

/-- R30: the parts of a cue that no operation on a voice changes: its take and its attenuation codes. -/
def Cue.Same (b c : Cue) : Prop := c.take = b.take ∧ c.entry = b.entry ∧ c.ramp = b.ramp

theorem Cue.Same.refl (c : Cue) : c.Same c := ⟨rfl, rfl, rfl⟩

theorem Cue.Same.trans {a b c : Cue} (h : a.Same b) (k : b.Same c) : a.Same c := by
  obtain ⟨h₁, h₂, h₃⟩ := h
  obtain ⟨k₁, k₂, k₃⟩ := k
  exact ⟨k₁.trans h₁, k₂.trans h₂, k₃.trans h₃⟩

/-- R79: the codes of a voice beside those its cues carry. -/
def Voice.LevelsFit (v : Voice) : Prop := v.atten ≤ 1023 ∧ ∀ r, v.ramp = some r → r.target ≤ 1023

/-- R79: a voice's codes are its own levels and those its cues carry. -/
theorem Voice.codesFit_iff (v : Voice) : v.CodesFit ↔ v.LevelsFit ∧ ∀ c ∈ v.cues, c.CodesFit :=
  ⟨fun h => ⟨⟨h.atten, h.ramp⟩, h.cues⟩, fun h => ⟨h.1.1, h.1.2, h.2⟩⟩

/-- R32: voice w lists no more cues than v, each of them one of v's but for its verdict. -/
structure Voice.Within (v w : Voice) : Prop where
  length : w.cues.length ≤ v.cues.length
  cues : ∀ c ∈ w.cues, ∃ b ∈ v.cues, b.Same c

theorem Voice.Within.of_eq {v w : Voice} (h : w.cues = v.cues) : v.Within w :=
  ⟨by rw [h], fun c hc => ⟨c, h ▸ hc, Cue.Same.refl c⟩⟩

theorem Voice.Within.refl (v : Voice) : v.Within v := .of_eq rfl

theorem Voice.Within.trans {u v w : Voice} (h : u.Within v) (k : v.Within w) : u.Within w where
  length := Nat.le_trans k.length h.length
  cues c hc := by
    obtain ⟨b, hb, hbc⟩ := k.cues c hc
    obtain ⟨a, ha, hab⟩ := h.cues b hb
    exact ⟨a, ha, hab.trans hbc⟩

/-- R30: the cues of a voice within another's carry codes that fit. -/
theorem Voice.Within.codes {v w : Voice} (h : v.Within w) (hv : ∀ c ∈ v.cues, c.CodesFit) : ∀ c ∈ w.cues, c.CodesFit := by
  intro c hc
  obtain ⟨b, hb, -, he, hr⟩ := h.cues c hc
  unfold Cue.CodesFit
  rw [he, hr]
  exact hv b hb

/-- R22: a voice is IDLE exactly when it has no cue. -/
def Voice.IdleFits (v : Voice) : Prop := v.state = .idle ↔ v.cues = []

theorem Voice.IdleFits.of_head {v : Voice} {c : Cue} (hc : c ∈ v.cues) (hs : v.state ≠ .idle) : v.IdleFits :=
  ⟨fun h => absurd h hs, fun h => by simp [h] at hc⟩

/-- What an operation on a voice keeps: its cues come from the voice's, and it keeps the agreement of state and list and the codes. -/
structure Voice.Keeps (v w : Voice) : Prop where
  within : v.Within w
  idle : v.IdleFits → w.IdleFits
  codes : v.CodesFit → w.CodesFit

theorem Voice.Keeps.refl (v : Voice) : v.Keeps v := ⟨.refl v, id, id⟩

theorem Voice.Keeps.trans {u v w : Voice} (h : u.Keeps v) (k : v.Keeps w) : u.Keeps w :=
  ⟨h.within.trans k.within, k.idle ∘ h.idle, k.codes ∘ h.codes⟩

/-- The codes of a voice within another's fit when its levels do. -/
theorem Voice.Within.codesFit {v w : Voice} (h : v.Within w) (hl : v.LevelsFit → w.LevelsFit) (hv : v.CodesFit) : w.CodesFit := by
  rw [Voice.codesFit_iff] at hv ⊢
  exact ⟨hl hv.1, h.codes hv.2⟩

/-- A voice that changes nothing but slots, cursor, request, counters, settings and the verdicts of its cues. -/
structure Voice.Walked (v w : Voice) : Prop where
  state : w.state = v.state
  length : w.cues.length = v.cues.length
  cues : ∀ c ∈ w.cues, ∃ b ∈ v.cues, b.Same c
  atten : w.atten = v.atten
  ramp : w.ramp = v.ramp

theorem Voice.Walked.of_eq {v w : Voice} (hs : w.state = v.state) (hc : w.cues = v.cues) (ha : w.atten = v.atten)
    (hr : w.ramp = v.ramp) : v.Walked w :=
  ⟨hs, by rw [hc], (Voice.Within.of_eq hc).cues, ha, hr⟩

theorem Voice.Walked.refl (v : Voice) : v.Walked v := .of_eq rfl rfl rfl rfl

theorem Voice.Walked.within {v w : Voice} (h : v.Walked w) : v.Within w := ⟨h.length.le, h.cues⟩

theorem Voice.Walked.trans {u v w : Voice} (h : u.Walked v) (k : v.Walked w) : u.Walked w :=
  ⟨k.state.trans h.state, k.length.trans h.length, (h.within.trans k.within).cues, k.atten.trans h.atten, k.ramp.trans h.ramp⟩

theorem Voice.Walked.idleFits {v w : Voice} (h : v.Walked w) : w.IdleFits ↔ v.IdleFits := by
  have hc : w.cues = [] ↔ v.cues = [] := by rw [← List.length_eq_zero_iff, ← List.length_eq_zero_iff, h.length]
  unfold Voice.IdleFits
  rw [h.state, hc]

theorem Voice.Walked.levels {v w : Voice} (h : v.Walked w) (hv : v.LevelsFit) : w.LevelsFit := by
  unfold Voice.LevelsFit at hv ⊢
  rwa [h.atten, h.ramp]

theorem Voice.Walked.keeps {v w : Voice} (h : v.Walked w) : v.Keeps w :=
  ⟨h.within, h.idleFits.2, h.within.codesFit h.levels⟩

/-- A cue's verdict changes. -/
theorem Voice.walked_verdict {v : Voice} {i : Nat} {c : Cue} (hc : v.cues[i]? = some c) (k : Verdict) :
    v.Walked { v with cues := v.cues.set i { c with verdict := k } } where
  state := rfl
  length := by simp
  cues b hb := by
    rcases List.mem_or_eq_of_mem_set hb with hb | rfl
    · exact ⟨b, hb, Cue.Same.refl b⟩
    · exact ⟨c, List.mem_of_getElem? hc, rfl, rfl, rfl⟩
  atten := rfl
  ramp := rfl

/-! ### The cursor's walk and requests -/

/-- R44, R45: the verdict on a cue that the cursor reaches. -/
def arriveVerdict (takes : Vector Take 64) (c : Cue) : Verdict :=
  if c.verdict = .undecided then judgeCue takes[c.take] c else c.verdict

/-- R54: where the cursor goes from the cue of place i once its verdict stands. -/
def arriveDecided (takes : Vector Take 64) (fuel i : Nat) (c : Cue) (verdict : Verdict) (v : Voice) : Voice :=
  match verdict with
  | .resident _ _ => { v with cursor := .atTarget i 1 (BitVec.ofNat 32 (c.start.toNat / (takes[c.take]).format.spb)) 0 }
  | .ring b => { v with cursor := .atTarget i 1 b 0, assigned := 0 }
  | .ringWaiting => { v with cursor := .held i 1 none, assigned := 0 }
  | _ => arriveAt takes fuel (i + 1) v

/-- R54: the cursor's arrival at a place: beyond the list it rests, and otherwise it judges the cue and goes on from it. -/
theorem arriveAt_succ (takes : Vector Take 64) (fuel i : Nat) (v : Voice) :
    arriveAt takes (fuel + 1) i v =
      match v.cues[i]? with
      | none => { v with cursor := endCursor v.cues.length }
      | some c =>
        arriveDecided takes fuel i c (arriveVerdict takes c) { v with cues := v.cues.set i { c with verdict := arriveVerdict takes c } } :=
  rfl

theorem Voice.arriveDecided_walked {takes : Vector Take 64} {fuel i : Nat} (c : Cue) (k : Verdict) {v : Voice}
    (h : v.Walked (arriveAt takes fuel (i + 1) v)) : v.Walked (arriveDecided takes fuel i c k v) := by
  cases k with
  | undecided => exact h
  | skipped => exact h
  | resident => exact .of_eq rfl rfl rfl rfl
  | ringWaiting => exact .of_eq rfl rfl rfl rfl
  | ring => exact .of_eq rfl rfl rfl rfl

theorem Voice.arriveAt_walked (takes : Vector Take 64) (fuel i : Nat) (v : Voice) : v.Walked (arriveAt takes fuel i v) := by
  induction fuel generalizing i v with
  | zero => exact .of_eq rfl rfl rfl rfl
  | succ fuel ih =>
    rw [arriveAt_succ]
    split
    · exact .of_eq rfl rfl rfl rfl
    · rename_i c hc
      exact (Voice.walked_verdict hc (arriveVerdict takes c)).trans (Voice.arriveDecided_walked c _ (ih _ _))

theorem Voice.arrive_walked (takes : Vector Take 64) (i : Nat) (v : Voice) : v.Walked (v.arrive takes i) :=
  v.arriveAt_walked takes _ i

theorem Voice.comeToRing_walked (takes : Vector Take 64) (t : Take) (i : Nat) (b : BlockNo) (v : Voice) :
    v.Walked (v.comeToRing takes t i b) := by
  unfold Voice.comeToRing
  split
  · exact .of_eq rfl rfl rfl rfl
  · split
    · exact .of_eq rfl rfl rfl rfl
    · split
      · exact v.arrive_walked takes _
      · exact .of_eq rfl rfl rfl rfl

theorem Voice.afterResident_walked (takes : Vector Take 64) (spb i pass b l : Nat) (c : Cue) (v : Voice) :
    v.Walked (v.afterResident takes spb i pass b l c) := by
  unfold Voice.afterResident
  split
  · exact .of_eq rfl rfl rfl rfl
  · split
    · exact .of_eq rfl rfl rfl rfl
    · exact v.arrive_walked takes _

theorem Voice.afterRing_walked (takes : Vector Take 64) (t : Take) (i : Nat) (b : BlockNo) (count : Nat) (c : Cue) (v : Voice) :
    v.Walked (v.afterRing takes t i b count c) := by
  have h : v.Walked { v with assigned := v.assigned + count } := .of_eq rfl rfl rfl rfl
  unfold Voice.afterRing
  dsimp only
  split
  · exact h.trans (Voice.arrive_walked _ _ _)
  · exact h.trans (Voice.comeToRing_walked _ _ _ _ _)

theorem Voice.reserve_walked (t : Take) (c : Cue) (i pass : Nat) (b : BlockNo) (plan : Nat × Nat) (v : Voice) :
    v.Walked (v.reserve t c i pass b plan) := .of_eq rfl rfl rfl rfl

/-- R56: a request changes slots, cursor and verdicts alone. -/
theorem Voice.request_walked (x : Ctx) (v : Voice) : v.Walked (v.request x).1 := by
  unfold Voice.request
  split
  · split
    · exact .refl v
    · dsimp only
      split
      · exact (v.reserve_walked _ _ _ _ _ _).trans (Voice.afterResident_walked _ _ _ _ _ _ _ _)
      · exact (v.reserve_walked _ _ _ _ _ _).trans (Voice.afterRing_walked _ _ _ _ _ _ _)
      · exact .refl v
  · exact .refl v

/-! ### The end of a cue -/

theorem Voice.removeHead_shape (takes : Vector Take 64) (v : Voice) :
    ∃ u : Voice, u.cues = v.cues.tail ∧ u.state = v.state ∧ u.atten = v.atten ∧ u.ramp = v.ramp ∧ u.Walked (v.removeHead takes) := by
  refine ⟨{ v.withSlots ((v.slots.filter (fun s => decide (s.cue ≠ 0))).map Slot.shifted) with
    cues := v.cues.tail, started := false, pass := 1, offset := 0 }, rfl, rfl, rfl, rfl, ?_⟩
  unfold Voice.removeHead
  dsimp only
  split
  · exact Voice.arrive_walked _ _ _
  · exact Voice.arrive_walked _ _ _
  · exact .of_eq rfl rfl rfl rfl

/-- R43: with the head removed a voice lists one cue less. -/
theorem Voice.removeHead_length (takes : Vector Take 64) (v : Voice) : (v.removeHead takes).cues.length = v.cues.length - 1 := by
  obtain ⟨u, hc, -, -, -, hw⟩ := v.removeHead_shape takes
  rw [hw.length, hc, List.length_tail]

theorem Voice.removeHead_within (takes : Vector Take 64) (v : Voice) : v.Within (v.removeHead takes) := by
  obtain ⟨u, hc, -, -, -, hw⟩ := v.removeHead_shape takes
  refine Voice.Within.trans ⟨by simp [hc], fun c h => ⟨c, ?_, Cue.Same.refl c⟩⟩ hw.within
  exact List.mem_of_mem_tail (hc ▸ h)

theorem Voice.removeHead_levels (takes : Vector Take 64) {v : Voice} (h : v.LevelsFit) : (v.removeHead takes).LevelsFit := by
  obtain ⟨u, -, -, ha, hr, hw⟩ := v.removeHead_shape takes
  refine hw.levels ?_
  unfold Voice.LevelsFit at h ⊢
  rwa [ha, hr]

theorem Voice.headState_ne_idle (v : Voice) (c : Cue) : v.headState c ≠ .idle := by
  unfold Voice.headState
  split <;> split <;> simp

/-- R43, R46: a voice that takes its head is IDLE exactly when no cue is left, whatever its state was. -/
theorem takeHead_settles (x : Ctx) (fuel : Nat) (v : Voice) (hf : v.cues.length < fuel) : (takeHead x fuel v).1.IdleFits := by
  induction fuel generalizing v with
  | zero => exact absurd hf (Nat.not_lt_zero _)
  | succ fuel ih =>
    unfold takeHead
    split
    · rename_i hc
      simp [Voice.IdleFits, hc]
    · rename_i c cs hc
      split
      · refine ih _ ?_
        rw [Voice.removeHead_length]
        simp only [hc, List.length_cons] at hf ⊢
        omega
      · exact Voice.IdleFits.of_head (c := c) (by simp [hc]) (v.headState_ne_idle c)

theorem takeHead_within (x : Ctx) (fuel : Nat) (v : Voice) : v.Within (takeHead x fuel v).1 := by
  induction fuel generalizing v with
  | zero => exact .refl v
  | succ fuel ih =>
    unfold takeHead
    split
    · exact .of_eq rfl
    · rename_i c cs hc
      split
      · rename_i r hr
        have h₁ : v.Within { v with rest := c.endAction } := .of_eq rfl
        exact (h₁.trans (Voice.removeHead_within _ _)).trans (ih _)
      · exact .of_eq rfl

theorem takeHead_levels (x : Ctx) (fuel : Nat) {v : Voice} (h : v.LevelsFit) : (takeHead x fuel v).1.LevelsFit := by
  induction fuel generalizing v with
  | zero => exact h
  | succ fuel ih =>
    unfold takeHead
    split
    · exact h
    · rename_i c cs hc
      split
      · rename_i r hr
        have h₁ : ({ v with rest := c.endAction } : Voice).LevelsFit := h
        exact ih (Voice.removeHead_levels _ h₁)
      · exact h

/-- R43, R46: taking the head makes the state agree with the list. -/
theorem Voice.settleHead_idleFits (x : Ctx) (v : Voice) : (v.settleHead x).1.IdleFits := takeHead_settles x _ v (Nat.lt_succ_self _)

theorem Voice.settleHead_keeps (x : Ctx) (v : Voice) : v.Keeps (v.settleHead x).1 :=
  ⟨takeHead_within x _ v, fun _ => v.settleHead_idleFits x, (takeHead_within x _ v).codesFit (takeHead_levels x _)⟩

/-- R43: the voice that the head's removal at a cue's end starts from. -/
def Voice.ending (c : Cue) (v : Voice) : Voice := { v with ramp := none, rest := c.endAction }

theorem Voice.endCue_voice (x : Ctx) (c : Cue) (passes : Nat) (how : EndHow) (v : Voice) :
    (v.endCue x c passes how).1 = (((v.ending c).removeHead x.takes).settleHead x).1 := rfl

/-- R42, R43: the end of a cue. -/
theorem Voice.endCue_keeps (x : Ctx) (c : Cue) (passes : Nat) (how : EndHow) (v : Voice) : v.Keeps (v.endCue x c passes how).1 := by
  rw [Voice.endCue_voice]
  have h₁ : v.Within ((v.ending c).removeHead x.takes) := Voice.Within.trans (v := v.ending c) (.of_eq rfl) (Voice.removeHead_within _ _)
  have h₂ : v.LevelsFit → ((v.ending c).removeHead x.takes).LevelsFit := fun h =>
    Voice.removeHead_levels x.takes ⟨h.1, by simp [Voice.ending]⟩
  have hw := h₁.trans (Voice.settleHead_keeps x _).within
  exact ⟨hw, fun _ => Voice.settleHead_idleFits x _, fun hv => (Voice.settleHead_keeps x _).codes (h₁.codesFit h₂ hv)⟩

theorem Voice.flushAll_keeps (v : Voice) : v.Keeps v.flushAll where
  within := ⟨by simp [Voice.flushAll], by simp [Voice.flushAll]⟩
  idle _ := by simp [Voice.IdleFits, Voice.flushAll]
  codes h := ⟨h.atten, by simp [Voice.flushAll], by simp [Voice.flushAll]⟩

theorem Voice.flushPending_keeps (v : Voice) : v.Keeps v.flushPending := by
  have hw : v.Within v.flushPending :=
    ⟨by simp only [Voice.flushPending, List.length_take]; omega, fun c hc => ⟨c, List.mem_of_mem_take hc, Cue.Same.refl c⟩⟩
  refine ⟨hw, ?_, hw.codesFit fun h => h⟩
  simp only [Voice.IdleFits, Voice.flushPending, Voice.withSlots, List.take_eq_nil_iff]
  simp

/-! ### The skip rule and recovery -/

theorem Voice.skip_moved {x : Ctx} {c : Cue} {d made : Nat} {v w : Voice} (h : v.skip x c d = .moved made w) :
    w.state = v.state ∧ w.cues = v.cues ∧ w.atten = v.atten ∧ w.ramp = v.ramp := by
  unfold Voice.skip at h
  dsimp only at h
  split at h
  · unfold Voice.skipResident at h
    dsimp only at h
    split at h
    · cases h
    · cases h
      split <;> exact ⟨rfl, rfl, rfl, rfl⟩
  · unfold Voice.skipRing at h
    dsimp only at h
    split at h
    · cases h
    · split at h
      · cases h
      · cases h
        split
        · unfold Voice.cursorOn
          split <;> exact ⟨rfl, rfl, rfl, rfl⟩
        · exact ⟨rfl, rfl, rfl, rfl⟩
  · cases h
    exact ⟨rfl, rfl, rfl, rfl⟩

/-- R22: a voice with a head that takes a state other than IDLE, its list and codes kept. -/
theorem Voice.keeps_of_head {v w : Voice} {c : Cue} (hc : c ∈ v.cues) (hs : w.state ≠ .idle) (hq : w.cues = v.cues)
    (ha : w.atten = v.atten) (hr : w.ramp = v.ramp) : v.Keeps w :=
  ⟨.of_eq hq, fun _ => Voice.IdleFits.of_head (hq ▸ hc) hs,
    (Voice.Within.of_eq hq).codesFit fun h => by unfold Voice.LevelsFit at h ⊢; rwa [ha, hr]⟩

theorem Voice.recoverKeep_keeps (x : Ctx) {c : Cue} {v : Voice} (hc : c ∈ v.cues) : v.Keeps (v.recoverKeep x c).1 := by
  unfold Voice.recoverKeep
  dsimp only
  split
  · have h₁ : v.Walked { v with starvedTicks := 0 } := .of_eq rfl rfl rfl rfl
    exact h₁.keeps.trans (Voice.endCue_keeps x c c.allPasses .skippedToEnd _)
  · rename_i made w hw
    obtain ⟨hs, hq, ha, hr⟩ := Voice.skip_moved hw
    split
    · exact Voice.keeps_of_head hc (by simp) hq ha hr
    · exact Voice.Walked.keeps (.of_eq hs hq ha hr)

/-- R26, R67: a voice re-judges its state. -/
theorem Voice.rejudge_keeps (x : Ctx) (v : Voice) : v.Keeps (v.rejudge x).1 := by
  unfold Voice.rejudge
  split
  · exact .refl v
  · rename_i c cs hq
    have hc : c ∈ v.cues := by simp [hq]
    split
    · dsimp only
      split
      · exact Voice.keeps_of_head hc (by simp) rfl rfl rfl
      · exact .refl v
    · split
      · exact v.endCue_keeps x c v.pass .complete
      · split
        · split
          · exact Voice.keeps_of_head hc (by simp [Voice.recoverSlip]) rfl rfl rfl
          · exact Voice.recoverKeep_keeps x hc
        · exact .refl v
    · split
      · exact v.endCue_keeps x c v.pass .complete
      · exact .refl v
    · exact .refl v

/-- Two operations, one after the other. -/
theorem andThen_keeps {f g : Voice → Voice × List Event} {v : Voice} (hf : v.Keeps (f v).1) (hg : ∀ w : Voice, w.Keeps (g w).1) :
    v.Keeps (andThen f g v).1 := hf.trans (hg (f v).1)

theorem Voice.proceed_keeps (x : Ctx) (v : Voice) : v.Keeps (v.proceed x).1 :=
  andThen_keeps (v.rejudge_keeps x) fun w => (w.request_walked x).keeps

/-! ### Completions, and what a ring brings about -/

theorem Voice.countConceal_walked (x : Ctx) (enabled : Bool) (s : Slot) (v : Voice) : v.Walked (v.countConceal x enabled s).1 := by
  unfold Voice.countConceal
  dsimp only
  split
  · split <;> exact .of_eq rfl rfl rfl rfl
  · split <;> exact .of_eq rfl rfl rfl rfl
  · exact .refl v

theorem Voice.fill_walked (x : Ctx) (enabled : Bool) (r : FetchReq) (b : Block) (v : Voice) : v.Walked (v.fill x enabled r b).1 := by
  unfold Voice.fill
  split
  · exact .refl v
  · rename_i s hs
    have h₁ : v.Walked { v with slots := fillSlots r b v.slots, req := .none, assigned := assignedAfter v s (s.fill r b) } :=
      .of_eq rfl rfl rfl rfl
    exact h₁.trans (Voice.countConceal_walked _ _ _ _)

/-- R60: a completed read. -/
theorem Voice.completed_keeps (x : Ctx) (enabled : Bool) (r : FetchReq) (b : Block) (v : Voice) :
    v.Keeps (v.completed x enabled r b).1 :=
  andThen_keeps (v.fill_walked x enabled r b).keeps (Voice.proceed_keeps x)

/-- R62: a ring's write. -/
theorem Voice.ringWritten_walked (x : Ctx) (t : Fin 64) (v : Voice) : v.Walked (v.ringWritten x t).1 := by
  unfold Voice.ringWritten
  split
  · split
    · rename_i i p ob _ _ _ c r hc hr
      split
      · exact .refl v
      · split
        · refine Voice.Walked.trans ?_ (Voice.request_walked x _)
          exact (Voice.walked_verdict hc _).trans (.of_eq rfl rfl rfl rfl)
        · split
          · refine Voice.Walked.trans ?_ (Voice.request_walked x _)
            exact .of_eq rfl rfl rfl rfl
          · exact .refl v
    · exact .refl v
  · exact .refl v

/-- R46, R63: a ring's end. -/
theorem Voice.ringEnded_keeps (x : Ctx) (t : Fin 64) (v : Voice) : v.Keeps (v.ringEnded x t).1 := by
  unfold Voice.ringEnded
  split
  · split
    · rename_i i p ob _ _ c hc
      split
      · exact .refl v
      · split
        · have key : ∀ w : Voice, v.Keeps w →
              v.Keeps (if i = 0 then andThen (Voice.settleHead x) (Voice.request x) w else w.request x).1 := by
            intro w hw
            split
            · exact hw.trans (andThen_keeps (Voice.settleHead_keeps x w) fun u => (u.request_walked x).keeps)
            · exact hw.trans (w.request_walked x).keeps
          exact key _ ((Voice.walked_verdict hc (.skipped .range)).trans (Voice.arrive_walked x.takes (i + 1) _)).keeps
        · exact (Voice.arrive_walked x.takes (i + 1) v).keeps.trans (Voice.proceed_keeps x _)
    · exact .refl v
  · exact .refl v

/-! ### A tick -/

theorem Voice.beginRamp_keeps {target : Nat} (interval : Nat) (v : Voice) (ht : target ≤ 1023) : v.Keeps (v.beginRamp target interval) := by
  unfold Voice.beginRamp
  split
  · exact ⟨.of_eq rfl, id, fun h => ⟨ht, by simp, h.cues⟩⟩
  · split
    · exact ⟨.of_eq rfl, id, fun h => ⟨h.atten, by simp, h.cues⟩⟩
    · exact ⟨.of_eq rfl, id, fun h => ⟨h.atten, by simpa using ht, h.cues⟩⟩

/-- R83: a step of a ramp stays within the codes. -/
theorem stepToward_le {a target n : Nat} (ha : a ≤ n) (ht : target ≤ n) : stepToward a target ≤ n := by
  unfold stepToward
  split <;> omega

theorem Voice.countRamp_keeps (v : Voice) : v.Keeps v.countRamp := by
  unfold Voice.countRamp
  split
  · exact .refl v
  · rename_i r hr
    split
    · refine ⟨.of_eq rfl, id, fun h => ⟨h.atten, ?_, h.cues⟩⟩
      rintro q hq
      cases hq
      exact h.ramp r hr
    · refine ⟨.of_eq rfl, id, fun h => ⟨stepToward_le h.atten (h.ramp r hr), ?_, h.cues⟩⟩
      dsimp only
      split
      · simp
      · rintro q hq
        cases hq
        exact h.ramp r hr

theorem Voice.countRamp_cues (v : Voice) : v.countRamp.cues = v.cues := by
  unfold Voice.countRamp
  split
  · rfl
  · split <;> rfl

/-- R41: the start actions of a cue of the list. -/
theorem Voice.startActions_keeps {c : Cue} {v : Voice} (hc : c ∈ v.cues) : v.Keeps (v.startActions c) ∧ (v.startActions c).cues = v.cues := by
  have hq : (v.startActions c).cues = v.cues ∧ (v.startActions c).state = v.state := by
    unfold Voice.startActions Voice.startRamp Voice.beginRamp
    dsimp only
    split
    · exact ⟨rfl, rfl⟩
    · split
      · exact ⟨rfl, rfl⟩
      · split <;> exact ⟨rfl, rfl⟩
  refine ⟨⟨.of_eq hq.1, ?_, fun h => ?_⟩, hq.1⟩
  · unfold Voice.IdleFits
    rw [hq.1, hq.2]
    exact id
  · obtain ⟨he, hr⟩ := h.cues c hc
    have hv : ({ v with atten := c.entry.getD v.atten } : Voice).CodesFit := by
      refine ⟨?_, h.ramp, h.cues⟩
      cases hce : c.entry with
      | none => exact h.atten
      | some a => exact he a hce
    have hs : (({ v with atten := c.entry.getD v.atten } : Voice).startRamp c).CodesFit := by
      unfold Voice.startRamp
      split
      · exact hv
      · rename_i g n hg
        exact (Voice.beginRamp_keeps n _ (hr _ hg)).codes hv
    exact ⟨hs.atten, hs.ramp, hs.cues⟩

theorem Voice.consume_keeps (s : Slot) (rest : List Slot) {c : Cue} {v : Voice} (hc : c ∈ v.cues) :
    v.Keeps (v.consume s rest) ∧ (v.consume s rest).cues = v.cues := by
  let u : Voice := { v with state := .playing, lastOut := v.sampleOut s, phase := v.phase + v.freq }
  have h₁ : v.Keeps u := Voice.keeps_of_head (w := u) hc (by simp [u]) rfl rfl rfl
  have h₂ : u.countRamp.Walked (v.consume s rest) := .of_eq rfl rfl rfl rfl
  exact ⟨(h₁.trans u.countRamp_keeps).trans h₂.keeps, u.countRamp_cues⟩

theorem Voice.advance_walked (c : Cue) (v : Voice) : v.Walked (v.advance c) := by
  unfold Voice.advance advanceResident
  split
  · split <;> exact .of_eq rfl rfl rfl rfl
  · exact .of_eq rfl rfl rfl rfl

theorem Voice.starve_keeps (x : Ctx) {c : Cue} {v : Voice} (hc : c ∈ v.cues) : v.Keeps (v.starve x c).voice :=
  Voice.keeps_of_head hc (by simp [Voice.starve]) rfl rfl rfl

theorem Voice.playOrStarve_keeps (x : Ctx) {c : Cue} {v : Voice} (hc : c ∈ v.cues) : v.Keeps (v.playOrStarve x c).voice := by
  unfold Voice.playOrStarve
  split
  · exact Voice.starve_keeps x hc
  · rename_i s rest hs
    split
    · have h := (Voice.consume_keeps s rest hc).1
      unfold Voice.playFrom
      dsimp only
      split
      · exact h.trans (Voice.endCue_keeps x c v.pass .complete _)
      · exact h.trans (Voice.advance_walked c _).keeps
    · exact Voice.starve_keeps x hc

theorem Voice.startCue_keeps (x : Ctx) (late : Bool) (before : List Event) {c : Cue} {v : Voice} (hc : c ∈ v.cues) :
    v.Keeps (v.startCue x c late before).voice := by
  obtain ⟨h, hq⟩ := Voice.startActions_keeps hc
  exact h.trans (Voice.playOrStarve_keeps x (hq.symm ▸ hc))

theorem Voice.startLate_keeps (x : Ctx) (d : Nat) {c : Cue} {v : Voice} (hc : c ∈ v.cues) : v.Keeps (v.startLate x c d).voice := by
  unfold Voice.startLate
  dsimp only
  split
  · exact Voice.startCue_keeps x _ _ hc
  · unfold Voice.startKept
    split
    · exact v.endCue_keeps x c c.allPasses .skippedToEnd
    · rename_i made w hw
      obtain ⟨hs, hq, ha, hr⟩ := Voice.skip_moved hw
      exact (Voice.Walked.of_eq hs hq ha hr).keeps.trans (Voice.startCue_keeps x _ _ (hq.symm ▸ hc))

theorem Voice.waitingTick_keeps (x : Ctx) (fired : List (Fin 8)) {c : Cue} {v : Voice} (hc : c ∈ v.cues) :
    v.Keeps (v.waitingTick x fired c).voice := by
  unfold Voice.waitingTick
  split
  · exact .refl v
  · exact Voice.startCue_keeps x _ _ hc
  · exact Voice.startLate_keeps x _ hc

theorem Voice.runningTick_keeps (x : Ctx) (fired : List (Fin 8)) (v : Voice) : v.Keeps (v.runningTick x fired).voice := by
  unfold Voice.runningTick
  split
  · exact .refl v
  · rename_i c cs hq
    have hc : c ∈ v.cues := by simp [hq]
    split
    · split
      · exact Voice.playOrStarve_keeps x hc
      · exact Voice.startCue_keeps x _ _ hc
    · exact Voice.starve_keeps x hc
    · exact Voice.waitingTick_keeps x fired hc
    · exact .refl v

/-- R22: a voice at a tick. -/
theorem Voice.tick_keeps (x : Ctx) (kind : SceneState) (fired : List (Fin 8)) (v : Voice) : v.Keeps (v.tick x kind fired).voice := by
  unfold Voice.tick
  split
  · exact (v.runningTick_keeps x fired).trans (Voice.request_walked x _).keeps
  · exact .refl v

/-- R21: a setting of VOICE_SET. -/
theorem VoiceValue.apply_walked (y : VoiceValue) (v : Voice) : v.Walked (y.apply v) := by
  cases y with
  | port p =>
    simp only [VoiceValue.apply]
    split <;> exact .of_eq rfl rfl rfl rfl
  | conceal => exact .of_eq rfl rfl rfl rfl
  | timeMode => exact .of_eq rfl rfl rfl rfl
  | prime => exact .of_eq rfl rfl rfl rfl
  | resume => exact .of_eq rfl rfl rfl rfl

/-- R49: a voice after a reset. -/
theorem Voice.reset_fits (v : Fin 32) : (Voice.reset v).IdleFits ∧ (Voice.reset v).CodesFit ∧ (Voice.reset v).cues = [] :=
  ⟨by simp [Voice.IdleFits, Voice.reset], ⟨by simp [Voice.reset], by simp [Voice.reset], by simp [Voice.reset]⟩, rfl⟩

end Sys2Proof.Machine
end

section
/-! PROOFS. What every operation of the part keeps of its invariants (O54 to O59): one rule per state operation, then the shared
operations, the controls and the events. -/
namespace Sys2Proof.Machine

/-! ### The invariants read few blocks -/

theorem Device.LinkFits.congr {d e : Device} (h : d.LinkFits) (hb : e.bli = d.bli) (hc : e.ctu = d.ctu) : e.LinkFits :=
  ⟨hb ▸ h.samples, hb ▸ h.controls, hb ▸ h.replies, fun p k hp => hb ▸ h.owed p k (hc ▸ hp), hb ▸ h.flow⟩

theorem Device.SceneFits.congr {d e : Device} (h : d.SceneFits) (hs : e.stu = d.stu) : e.SceneFits :=
  ⟨hs ▸ h.time, hs ▸ h.frozen, hs ▸ h.captures, hs ▸ h.markers⟩

theorem Device.RefreshFits.congr {d e : Device} (h : d.RefreshFits) (hd : e.smc.debt = d.smc.debt) (ht : e.smc.timerOn = d.smc.timerOn)
    (hp : e.pwc.power = d.pwc.power) : e.RefreshFits :=
  ⟨hd ▸ h.debt, fun k => by rw [hd, ht]; exact h.asleep (hp ▸ k)⟩

theorem Device.WakingHasCause.congr {d e : Device} (h : d.WakingHasCause) (hp : e.pwc = d.pwc) : e.WakingHasCause := by
  unfold Device.WakingHasCause
  rw [hp]
  exact h

theorem Device.voice_of_voices {d e : Device} (h : e.voices = d.voices) (v : Fin 32) : e.voice v = d.voice v := by
  unfold Device.voice
  rw [h]

theorem Device.take_of_takes {d e : Device} (h : e.tks.takes = d.tks.takes) (t : Fin 64) : e.take t = d.take t := by
  unfold Device.take
  rw [h]

theorem Device.CuedTakesHeld.congr {d e : Device} (h : d.CuedTakesHeld) (hv : e.voices = d.voices)
    (ht : ∀ t, (e.take t).state = .free → (d.take t).state = .free) : e.CuedTakesHeld := by
  intro v c hc hf
  rw [Device.voice_of_voices hv] at hc
  exact h v c hc (ht _ hf)

theorem Device.SegmentsOwnedOnce.congr {d e : Device} (h : d.SegmentsOwnedOnce) (ht : ∀ t, (e.take t).segments = (d.take t).segments) :
    e.SegmentsOwnedOnce :=
  ⟨fun t => ht t ▸ h.once t, fun t u k g => by rw [ht t, ht u]; exact h.apart t u k g⟩

theorem Device.StreamsAgree.congr {d e : Device} (h : d.StreamsAgree) (hs : e.siu.entries = d.siu.entries)
    (ht : ∀ t, (e.take t).tag = (d.take t).tag) (hk : ∀ t, (e.take t).state = (d.take t).state) : e.StreamsAgree :=
  ⟨hs ▸ h.tags, fun x hx => (ht _).trans (h.bound x (hs ▸ hx)), fun x hx => by rw [hk]; exact h.writable x (hs ▸ hx),
    fun t g hg => hs ▸ h.entered t g ((ht t).symm.trans hg)⟩

/-! ### What an operation on the part keeps -/

/-- What an operation of the part keeps: each invariant of the device. -/
structure Device.Keeps (d e : Device) : Prop where
  link : d.LinkFits → e.LinkFits
  scene : d.SceneFits → e.SceneFits
  refresh : d.RefreshFits → e.RefreshFits
  waking : d.WakingHasCause → e.WakingHasCause
  run : d.smc.engine.RunFits → e.smc.engine.RunFits
  idle : d.IdleExactlyWhenEmpty → e.IdleExactlyWhenEmpty
  cues : d.CueListsFit → e.CueListsFit
  codes : d.CodesFit → e.CodesFit
  cued : d.CuedTakesHeld → e.CuedTakesHeld
  segments : d.SegmentsOwnedOnce → e.SegmentsOwnedOnce
  streams : d.StreamsAgree → e.StreamsAgree

theorem Device.Keeps.refl (d : Device) : d.Keeps d := ⟨id, id, id, id, id, id, id, id, id, id, id⟩

theorem Device.Keeps.trans {d e f : Device} (h : d.Keeps e) (k : e.Keeps f) : d.Keeps f where
  link := k.link ∘ h.link
  scene := k.scene ∘ h.scene
  refresh := k.refresh ∘ h.refresh
  waking := k.waking ∘ h.waking
  run := k.run ∘ h.run
  idle := k.idle ∘ h.idle
  cues := k.cues ∘ h.cues
  codes := k.codes ∘ h.codes
  cued := k.cued ∘ h.cued
  segments := k.segments ∘ h.segments
  streams := k.streams ∘ h.streams

/-- Operations one after another on the elements of a list keep what each of them keeps. -/
theorem Device.keeps_foldl {α : Type} {f : Device → α → Device} (h : ∀ (d : Device) (a : α), d.Keeps (f d a)) (as : List α) (d : Device) :
    d.Keeps (as.foldl f d) := by
  induction as generalizing d with
  | nil => exact .refl d
  | cons a as ih => exact (h d a).trans (ih _)

/-! ### The blocks whose updates touch no invariant -/

theorem Device.setNtu_keeps (d : Device) (x : Ntu) : d.Keeps (d.setNtu x) where
  link h := h.congr rfl rfl
  scene h := h.congr rfl
  refresh h := h.congr rfl rfl rfl
  waking h := h.congr rfl
  run h := h
  idle h := h
  cues h := h
  codes h := h
  cued h := h
  segments h := h.congr fun _ => rfl
  streams h := h.congr rfl (fun _ => rfl) fun _ => rfl

theorem Device.setLines_keeps (d : Device) (x : Vector Line 8) : d.Keeps (d.setLines x) where
  link h := h.congr rfl rfl
  scene h := h.congr rfl
  refresh h := h.congr rfl rfl rfl
  waking h := h.congr rfl
  run h := h
  idle h := h
  cues h := h
  codes h := h
  cued h := h
  segments h := h.congr fun _ => rfl
  streams h := h.congr rfl (fun _ => rfl) fun _ => rfl

theorem Device.setPorts_keeps (d : Device) (x : Vector Port 4) : d.Keeps (d.setPorts x) where
  link h := h.congr rfl rfl
  scene h := h.congr rfl
  refresh h := h.congr rfl rfl rfl
  waking h := h.congr rfl
  run h := h
  idle h := h
  cues h := h
  codes h := h
  cued h := h
  segments h := h.congr fun _ => rfl
  streams h := h.congr rfl (fun _ => rfl) fun _ => rfl

theorem Device.post_keeps (d : Device) (e : Event) : d.Keeps (d.post e) := d.setNtu_keeps _

theorem Device.postAll_keeps (d : Device) (es : List Event) : d.Keeps (d.postAll es) := Device.keeps_foldl Device.post_keeps es d

theorem Device.setLine_keeps (d : Device) (l : Fin 8) (x : Line) : d.Keeps (d.setLine l x) := d.setLines_keeps _

theorem Device.setPort_keeps (d : Device) (p : Fin 4) (x : Port) : d.Keeps (d.setPort p x) := d.setPorts_keeps _

/-! ### The updates with conditions -/

theorem Device.setBli_keeps {d : Device} {x : Bli} (hl : d.LinkFits → (d.setBli x).LinkFits) : d.Keeps (d.setBli x) where
  link := hl
  scene h := h.congr rfl
  refresh h := h.congr rfl rfl rfl
  waking h := h.congr rfl
  run h := h
  idle h := h
  cues h := h
  codes h := h
  cued h := h
  segments h := h.congr fun _ => rfl
  streams h := h.congr rfl (fun _ => rfl) fun _ => rfl

theorem Device.setCtu_keeps {d : Device} {x : Ctu} (hl : d.LinkFits → (d.setCtu x).LinkFits) : d.Keeps (d.setCtu x) where
  link := hl
  scene h := h.congr rfl
  refresh h := h.congr rfl rfl rfl
  waking h := h.congr rfl
  run h := h
  idle h := h
  cues h := h
  codes h := h
  cued h := h
  segments h := h.congr fun _ => rfl
  streams h := h.congr rfl (fun _ => rfl) fun _ => rfl

theorem Device.setStu_keeps {d : Device} {x : Stu} (hs : d.SceneFits → (d.setStu x).SceneFits) : d.Keeps (d.setStu x) where
  link h := h.congr rfl rfl
  scene := hs
  refresh h := h.congr rfl rfl rfl
  waking h := h.congr rfl
  run h := h
  idle h := h
  cues h := h
  codes h := h
  cued h := h
  segments h := h.congr fun _ => rfl
  streams h := h.congr rfl (fun _ => rfl) fun _ => rfl

theorem Device.setSmc_keeps {d : Device} {x : Smc} (hf : d.RefreshFits → (d.setSmc x).RefreshFits)
    (hr : d.smc.engine.RunFits → x.engine.RunFits) : d.Keeps (d.setSmc x) where
  link h := h.congr rfl rfl
  scene h := h.congr rfl
  refresh := hf
  waking h := h.congr rfl
  run := hr
  idle h := h
  cues h := h
  codes h := h
  cued h := h
  segments h := h.congr fun _ => rfl
  streams h := h.congr rfl (fun _ => rfl) fun _ => rfl

theorem Device.setPwc_keeps {d : Device} {x : Pwc} (hf : d.RefreshFits → (d.setPwc x).RefreshFits)
    (hw : d.WakingHasCause → (d.setPwc x).WakingHasCause) : d.Keeps (d.setPwc x) where
  link h := h.congr rfl rfl
  scene h := h.congr rfl
  refresh := hf
  waking := hw
  run h := h
  idle h := h
  cues h := h
  codes h := h
  cued h := h
  segments h := h.congr fun _ => rfl
  streams h := h.congr rfl (fun _ => rfl) fun _ => rfl

/-- Voices change to voices that keep what a voice keeps. -/
theorem Device.setVoices_keeps {d : Device} {x : Vector Voice 32} (hv : ∀ v : Fin 32, (d.voice v).Keeps x[v]) :
    d.Keeps (d.setVoices x) where
  link h := h.congr rfl rfl
  scene h := h.congr rfl
  refresh h := h.congr rfl rfl rfl
  waking h := h.congr rfl
  run h := h
  idle h v := (hv v).idle (h v)
  cues h v := Nat.le_trans (hv v).within.length (h v)
  codes h v := (hv v).codes (h v)
  cued h v c hc := by
    obtain ⟨b, hb, ht, -, -⟩ := (hv v).within.cues c hc
    rw [ht]
    exact h v b hb
  segments h := h.congr fun _ => rfl
  streams h := h.congr rfl (fun _ => rfl) fun _ => rfl

theorem Device.setVoice_keeps {d : Device} {v : Fin 32} {x : Voice} (hv : (d.voice v).Keeps x) : d.Keeps (d.setVoice v x) := by
  refine Device.setVoices_keeps fun u => ?_
  have hu : (d.voices.set v x)[u] = if u = v then x else d.voice u := Device.voice_setVoice d v u x
  rw [hu]
  split
  · rename_i h
    exact h ▸ hv
  · exact .refl _

/-- The Take Store changes: what the invariants of the takes ask of it. -/
theorem Device.setTks_keeps {d : Device} {x : Tks} (hc : d.CuedTakesHeld → (d.setTks x).CuedTakesHeld)
    (hg : d.SegmentsOwnedOnce → (d.setTks x).SegmentsOwnedOnce) (hs : d.StreamsAgree → (d.setTks x).StreamsAgree) :
    d.Keeps (d.setTks x) where
  link h := h.congr rfl rfl
  scene h := h.congr rfl
  refresh h := h.congr rfl rfl rfl
  waking h := h.congr rfl
  run h := h
  idle h := h
  cues h := h
  codes h := h
  cued := hc
  segments := hg
  streams := hs

/-- The Take Store changes in something else than its takes. -/
theorem Device.setTks_keeps_of_takes {d : Device} {x : Tks} (h : x.takes = d.tks.takes) : d.Keeps (d.setTks x) := by
  have ht : ∀ t, (d.setTks x).take t = d.take t := Device.take_of_takes h
  refine Device.setTks_keeps (fun k => k.congr rfl fun t => by rw [ht]; exact id) (fun k => k.congr fun t => by rw [ht]) fun k => ?_
  exact k.congr rfl (fun t => by rw [ht]) fun t => by rw [ht]

theorem Device.setSiu_keeps {d : Device} {x : Siu} (hs : d.StreamsAgree → (d.setSiu x).StreamsAgree) : d.Keeps (d.setSiu x) where
  link h := h.congr rfl rfl
  scene h := h.congr rfl
  refresh h := h.congr rfl rfl rfl
  waking h := h.congr rfl
  run h := h
  idle h := h
  cues h := h
  codes h := h
  cued h := h
  segments h := h.congr fun _ => rfl
  streams := hs

/-- The stream table keeps its entries, but for something else than their tags and takes. -/
theorem Device.setSiu_keeps_of_routes {d : Device} {x : Siu}
    (h : x.entries.map (fun e => (e.tag, e.take)) = d.siu.entries.map (fun e => (e.tag, e.take))) : d.Keeps (d.setSiu x) := by
  refine Device.setSiu_keeps fun k => ?_
  have old : ∀ e ∈ x.entries, ∃ b ∈ d.siu.entries, b.tag = e.tag ∧ b.take = e.take := by
    intro e he
    have hm : (e.tag, e.take) ∈ d.siu.entries.map (fun e => (e.tag, e.take)) := h ▸ List.mem_map.2 ⟨e, he, rfl⟩
    obtain ⟨b, hb, hbe⟩ := List.mem_map.1 hm
    exact ⟨b, hb, congrArg Prod.fst hbe, congrArg Prod.snd hbe⟩
  refine ⟨?_, ?_, ?_, ?_⟩
  · have ht : x.entries.map StreamEntry.tag = d.siu.entries.map StreamEntry.tag := by
      have hm := congrArg (List.map Prod.fst) h
      rw [List.map_map, List.map_map] at hm
      exact hm
    simpa only [Device.setSiu_siu, ht] using k.tags
  · intro e he
    obtain ⟨b, hb, h₁, h₂⟩ := old e he
    rw [← h₁, ← h₂]
    exact k.bound b hb
  · intro e he
    obtain ⟨b, hb, h₁, h₂⟩ := old e he
    rw [← h₂]
    exact k.writable b hb
  · intro t g hg
    obtain ⟨b, hb, h₁, h₂⟩ := k.entered t g hg
    have hm : (b.tag, b.take) ∈ x.entries.map (fun e => (e.tag, e.take)) := h ▸ List.mem_map.2 ⟨b, hb, rfl⟩
    obtain ⟨e, he, hbe⟩ := List.mem_map.1 hm
    exact ⟨e, he, (congrArg Prod.fst hbe).trans h₁, (congrArg Prod.snd hbe).trans h₂⟩

/-! ### One take changes -/

/-- A take changes in something else than state, segments and tag. -/
theorem Device.setTake_keeps {d : Device} {t : Fin 64} {x : Take} (hs : x.state = (d.take t).state)
    (hg : x.segments = (d.take t).segments) (ht : x.tag = (d.take t).tag) : d.Keeps (d.setTake t x) := by
  have hstate : ∀ u, ((d.setTake t x).take u).state = (d.take u).state := by
    intro u; rw [Device.take_setTake]; split
    · rename_i h; rw [h, hs]
    · rfl
  have hsegs : ∀ u, ((d.setTake t x).take u).segments = (d.take u).segments := by
    intro u; rw [Device.take_setTake]; split
    · rename_i h; rw [h, hg]
    · rfl
  have htag : ∀ u, ((d.setTake t x).take u).tag = (d.take u).tag := by
    intro u; rw [Device.take_setTake]; split
    · rename_i h; rw [h, ht]
    · rfl
  exact Device.setTks_keeps (fun k => k.congr rfl fun u => by rw [← hstate u]; exact id) (fun k => k.congr hsegs)
    fun k => k.congr rfl htag hstate

/-- An unbound take changes and stays unbound. -/
theorem Device.StreamsAgree.setTake_unbound {d : Device} {t : Fin 64} {x : Take} (k : d.StreamsAgree) (h : (d.take t).tag = none)
    (hx : x.tag = none) : (d.setTake t x).StreamsAgree := by
  have other : ∀ e ∈ d.siu.entries, e.take ≠ t := by
    rintro e he rfl
    rw [k.bound e he] at h
    cases h
  refine ⟨k.tags, fun e he => ?_, fun e he => ?_, fun u g hu => ?_⟩
  · rw [Device.take_setTake_ne _ _ (other e he)]
    exact k.bound e he
  · rw [Device.take_setTake_ne _ _ (other e he)]
    exact k.writable e he
  · rw [Device.take_setTake] at hu
    split at hu
    · rw [hx] at hu
      cases hu
    · exact k.entered u g hu

/-- A take keeps its segments or gives them up. -/
theorem Device.SegmentsOwnedOnce.setTake {d : Device} {t : Fin 64} {x : Take} (k : d.SegmentsOwnedOnce)
    (h : x.segments = (d.take t).segments ∨ x.segments = []) : (d.setTake t x).SegmentsOwnedOnce := by
  have sub : ∀ u g, g ∈ ((d.setTake t x).take u).segments → g ∈ (d.take u).segments := by
    intro u g
    rw [Device.take_setTake]
    split
    · rename_i hu
      rcases h with h | h <;> rw [h]
      · rw [hu]; exact id
      · simp
    · exact id
  refine ⟨fun u => ?_, fun u w hne g hg hg' => k.apart u w hne g (sub u g hg) (sub w g hg')⟩
  rw [Device.take_setTake]
  split
  · rcases h with h | h <;> rw [h]
    · exact k.once t
    · exact List.nodup_nil
  · exact k.once u

/-! ### Operations on voices -/

theorem Device.onVoice_keeps {d : Device} {v : Fin 32} {f : Ctx → Voice → Voice × List Event}
    (h : (d.voice v).Keeps (f (d.ctx v) (d.voice v)).1) : d.Keeps (d.onVoice v f) :=
  (Device.setVoice_keeps h).trans (Device.postAll_keeps _ _)

theorem Device.onVoices_keeps {f : Ctx → Voice → Voice × List Event} (h : ∀ x v, Voice.Keeps v (f x v).1) (d : Device) :
    d.Keeps (d.onVoices f) :=
  Device.keeps_foldl (fun _ _ => Device.onVoice_keeps (h _ _)) _ d

end Sys2Proof.Machine
end

section
/-! PROOFS. What the operations of the link, the bench lines, the power record, the stream table and the takes keep of the invariants (O54 to O59). -/

namespace Sys2Proof.Machine

/-! ### The link's queues (R165, R185, R186) -/

/-- R186: what agreement of a flow state with a queue's length asks. -/
theorem Bli.flowFits_iff (b : Bli) :
    b.FlowFits ↔ (b.flow = .hold → 4 < b.sampleQ.length) ∧ (b.flow = .release → b.sampleQ.length < 12) := by
  unfold Bli.FlowFits
  cases b.flow <;> simp

/-- R186: a departure leaves the flow state in agreement. -/
theorem Bli.departed_flowFits {b c : Bli} (h : c.FlowFits) (hf : b.flow = c.flow) (hn : b.sampleQ.length ≤ c.sampleQ.length) :
    b.departed.FlowFits := by
  rw [Bli.flowFits_iff, ← hf] at h
  rw [Bli.flowFits_iff]
  obtain ⟨-, hr⟩ := h
  unfold Bli.departed
  split
  · exact ⟨nofun, fun _ => by simp only; omega⟩
  · rename_i k
    exact ⟨fun hb => Nat.lt_of_not_le fun hle => k ⟨hb, hle⟩, fun hb => Nat.lt_of_le_of_lt hn (hr hb)⟩

/-- R186: an arrival leaves the flow state in agreement. -/
theorem Bli.arrived_flowFits {b : Bli} (p : SamplePkt) (h : b.FlowFits) :
    ({ b with sampleQ := b.sampleQ ++ [p] } : Bli).arrived.FlowFits := by
  rw [Bli.flowFits_iff] at h ⊢
  obtain ⟨hh, hr⟩ := h
  unfold Bli.arrived
  simp only [List.length_append, List.length_singleton]
  split
  · exact ⟨fun _ => by simp only [List.length_append, List.length_singleton]; omega, nofun⟩
  · rename_i k
    simp only [List.length_append, List.length_singleton]
    refine ⟨fun hb => Nat.lt_succ_of_lt (hh hb), fun hb => ?_⟩
    have := hr hb
    have : ¬ b.sampleQ.length + 1 = 12 := fun he => k ⟨hb, he⟩
    omega

/-- R135: the packet at the head leaves the sample queue. -/
theorem Device.popSample_keeps (d : Device) : d.Keeps d.popSample := by
  refine Device.setBli_keeps fun h => ?_
  have hs : ({ d.bli with sampleQ := d.bli.sampleQ.tail } : Bli).departed.sampleQ = d.bli.sampleQ.tail := by
    rw [Bli.departed_frame]
  have hc : ({ d.bli with sampleQ := d.bli.sampleQ.tail } : Bli).departed.controlQ = d.bli.controlQ := by
    rw [Bli.departed_frame]
  have hr : ({ d.bli with sampleQ := d.bli.sampleQ.tail } : Bli).departed.replyQ = d.bli.replyQ := by
    rw [Bli.departed_frame]
  refine ⟨?_, ?_, ?_, fun p k hp => ?_, Bli.departed_flowFits h.flow rfl (by simp)⟩
  · have := h.samples
    simp only [Device.setBli_bli, hs, List.length_tail]
    omega
  · simpa only [Device.setBli_bli, hc] using h.controls
  · simpa only [Device.setBli_bli, hr] using h.replies
  · simpa only [Device.setBli_bli, hr] using h.owed p k hp

theorem Device.queueSample_keeps (p : SamplePkt) (d : Device) : d.Keeps (d.queueSample p) := by
  unfold Device.queueSample
  split
  · rename_i hn
    refine Device.setBli_keeps fun h => ?_
    have hf := Bli.arrived_frame { d.bli with sampleQ := d.bli.sampleQ ++ [p] }
    refine ⟨?_, ?_, ?_, fun q k hq => ?_, Bli.arrived_flowFits p h.flow⟩
    · rw [Device.setBli_bli, hf]
      simp only [List.length_append, List.length_singleton]
      exact hn
    · rw [Device.setBli_bli, hf]
      exact h.controls
    · rw [Device.setBli_bli, hf]
      exact h.replies
    · rw [Device.setBli_bli, hf]
      exact h.owed q k hq
  · refine Device.Keeps.trans ?_ (Device.post_keeps _ _)
    exact Device.setSiu_keeps_of_routes rfl

theorem Device.queueControl_keeps (c : CtlPkt) (d : Device) : d.Keeps (d.queueControl c) := by
  unfold Device.queueControl
  split
  · rename_i hn
    refine Device.setBli_keeps fun h => ⟨h.samples, ?_, h.replies, h.owed, h.flow⟩
    simp only [Device.setBli_bli, List.length_append, List.length_singleton]
    exact hn
  · exact d.post_keeps _

theorem Device.queuePacket_keeps (p : Packet) (d : Device) : d.Keeps (d.queuePacket p) := by
  unfold Device.queuePacket
  split
  · split
    · exact d.queueSample_keeps _
    · exact .refl d
  · split
    · exact d.queueControl_keeps _
    · exact .refl d

/-- The transmitter's records of the symbol and the packet sent. -/
theorem Device.gap_keeps (d : Device) : d.Keeps d.gap :=
  Device.setBli_keeps fun h => ⟨h.samples, h.controls, h.replies, h.owed, h.flow⟩

theorem Device.sending_keeps (p : UpPacket) (d : Device) : d.Keeps (d.sending p) :=
  Device.setBli_keeps fun h => ⟨h.samples, h.controls, h.replies, h.owed, h.flow⟩

theorem Device.reloadQuiet_keeps (d : Device) : d.Keeps d.reloadQuiet :=
  Device.setPwc_keeps (fun h => h.congr rfl rfl rfl) id

/-! ### Bench lines and waking (R4, R190) -/

theorem Device.holdEdges_keeps (before after : Vector Bool 8) (d : Device) : d.Keeps (d.holdEdges before after) := d.setLines_keeps _

/-- R190: waking from STANDBY or SLEEP. -/
theorem Device.beginWaking_keeps (cause : WakeCause) {d : Device} (h : d.pwc.power ≠ .active) : d.Keeps (d.beginWaking cause) := by
  have hw : d.Keeps (d.setPwc { d.pwc with power := .waking, wakeCause := some cause, left := some d.pwc.power }) :=
    Device.setPwc_keeps (fun k => ⟨k.debt, fun _ => k.asleep h⟩) fun _ _ => ⟨by simp, by simp⟩
  unfold Device.beginWaking
  dsimp only
  split
  · exact hw.trans (Device.holdEdges_keeps _ _ _)
  · exact hw

theorem Device.wakeUp_keeps (cause : WakeCause) (d : Device) : d.Keeps (d.wakeUp cause) := by
  unfold Device.wakeUp
  split
  · rename_i h
    exact Device.beginWaking_keeps cause (by simp [h])
  · rename_i h
    exact Device.beginWaking_keeps cause (by simp [h])
  · exact .refl d

theorem Device.noteChanges_keeps (before after : Vector Bool 8) (d : Device) : d.Keeps (d.noteChanges before after) := by
  refine (d.holdEdges_keeps before after).trans (Device.keeps_foldl (fun e l => ?_) _ _)
  unfold Device.handEdge
  split
  · exact e.wakeUp_keeps _
  · exact .refl e

theorem Device.changeLines_keeps {f : Device → Device} {d : Device} (h : d.Keeps (f d)) : d.Keeps (d.changeLines f) :=
  h.trans (Device.noteChanges_keeps _ _ _)

theorem Device.benchDrives_keeps (l : Fin 8) (level : Bool) (d : Device) : d.Keeps (d.benchDrives l level) := by
  unfold Device.benchDrives
  dsimp only
  split
  · exact d.setLine_keeps _ _
  · exact Device.changeLines_keeps (d.setLine_keeps _ _)

/-! ### Power (R150, R188 to R190) -/

theorem Device.selfRefresh_keeps (d : Device) (x : Pwc) (hw : x.power ≠ .waking) :
    d.Keeps ((d.setSmc d.smc.selfRefresh).setPwc x) := by
  have hf : (d.setSmc d.smc.selfRefresh).RefreshFits := ⟨Nat.zero_le _, fun _ => ⟨rfl, rfl⟩⟩
  refine (Device.setSmc_keeps (fun _ => hf) id).trans (Device.setPwc_keeps (fun _ => ⟨Nat.zero_le _, fun _ => ⟨rfl, rfl⟩⟩) ?_)
  exact fun _ k => absurd k hw

theorem Device.enterStandby_keeps (d : Device) : d.Keeps d.enterStandby := d.selfRefresh_keeps _ nofun

theorem Device.enterSleep_keeps (d : Device) : d.Keeps d.enterSleep :=
  (d.selfRefresh_keeps { d.pwc.reload with power := .sleep } nofun).trans (Device.noteChanges_keeps _ _ _)

/-! ### The stream table (R132, R134) -/

/-- R132: two entries of one tag are one entry. -/
theorem Device.StreamsAgree.entry_unique {d : Device} (k : d.StreamsAgree) {e e' : StreamEntry} (he : e ∈ d.siu.entries)
    (he' : e' ∈ d.siu.entries) (h : e.tag = e'.tag) : e = e' :=
  List.inj_on_of_nodup_map k.tags he he' h

/-- R134: the device with the entry e out of the stream table and its take unbound. -/
theorem Device.StreamsAgree.unbind {d : Device} (k : d.StreamsAgree) {e : StreamEntry} (he : e ∈ d.siu.entries) (st : IntakeStage) :
    ((d.setSiu { d.siu with entries := d.siu.entries.filter (fun x => decide (x.tag ≠ e.tag)), stage := st }).setTake e.take
      { d.take e.take with tag := none }).StreamsAgree := by
  have kept : ∀ b, b ∈ d.siu.entries.filter (fun x => decide (x.tag ≠ e.tag)) ↔ b ∈ d.siu.entries ∧ b.tag ≠ e.tag := by simp
  have other : ∀ b ∈ d.siu.entries, b.tag ≠ e.tag → b.take ≠ e.take := by
    intro b hb hne heq
    have h₁ := k.bound b hb
    rw [heq, k.bound e he] at h₁
    exact hne (Option.some.inj h₁).symm
  refine ⟨?_, fun b hb => ?_, fun b hb => ?_, fun t g hg => ?_⟩
  · exact k.tags.sublist (List.Sublist.map _ List.filter_sublist)
  · obtain ⟨hb, hne⟩ := (kept b).1 hb
    rw [Device.take_setTake_ne _ _ (other b hb hne)]
    exact k.bound b hb
  · obtain ⟨hb, hne⟩ := (kept b).1 hb
    rw [Device.take_setTake_ne _ _ (other b hb hne)]
    exact k.writable b hb
  · rw [Device.take_setTake] at hg
    split at hg
    · cases hg
    · rename_i hne
      obtain ⟨b, hb, hbg, hbt⟩ := k.entered t g hg
      refine ⟨b, (kept b).2 ⟨hb, fun h => hne ?_⟩, hbg, hbt⟩
      rw [← hbt, k.entry_unique hb he h]

/-- R134: one stream is unbound. -/
theorem Device.unbind_keeps (tag : BitVec 16) (d : Device) : d.Keeps (d.unbind tag) := by
  unfold Device.unbind
  split
  · exact .refl d
  · rename_i e he
    obtain ⟨rfl, hm⟩ := Siu.entry_some he
    let w := d.setSiu { d.siu with entries := d.siu.entries.filter (fun x => decide (x.tag ≠ e.tag)), stage := d.siu.stage.without e.tag }
    have hfree : ∀ t, ((w.setTake e.take { d.take e.take with tag := none }).take t).state = (d.take t).state := by
      intro t
      rw [Device.take_setTake]
      split
      · rename_i h
        rw [h]
      · rfl
    have hsegs : ∀ t, ((w.setTake e.take { d.take e.take with tag := none }).take t).segments = (d.take t).segments := by
      intro t
      rw [Device.take_setTake]
      split
      · rename_i h
        rw [h]
      · rfl
    exact {
      link := fun h => h.congr rfl rfl
      scene := fun h => h.congr rfl
      refresh := fun h => h.congr rfl rfl rfl
      waking := fun h => h.congr rfl
      run := id
      idle := id
      cues := id
      codes := id
      cued := fun h => h.congr rfl fun t ht => (hfree t).symm.trans ht
      segments := fun h => h.congr hsegs
      streams := fun h => h.unbind hm _ }

theorem Device.unbindTake_keeps (t : Fin 64) (d : Device) : d.Keeps (d.unbindTake t) := by
  unfold Device.unbindTake
  split
  · exact .refl d
  · exact d.unbind_keeps _

/-- R134: a take that was unbound has no bound stream, while table and directory agree. -/
theorem Device.unbindTake_tag (t : Fin 64) (d : Device) (k : (d.unbindTake t).StreamsAgree) : ((d.unbindTake t).take t).tag = none := by
  cases hg : ((d.unbindTake t).take t).tag with
  | none => rfl
  | some g =>
    exfalso
    obtain ⟨b, hb, hbg, -⟩ := k.entered t g hg
    unfold Device.unbindTake at hb hg
    cases ht : (d.take t).tag with
    | none =>
      simp only [ht] at hg
      cases hg
    | some tag =>
      simp only [ht] at hb hg
      have hkeep : ((d.unbind tag).take t).tag = some g → tag = g := by
        unfold Device.unbind
        split
        · intro h; rw [ht] at h; exact Option.some.inj h
        · rw [Device.take_setTake]
          split
          · intro h; cases h
          · intro h
            rw [Device.take_setSiu, ht] at h
            exact Option.some.inj h
      have hgone : ∀ x ∈ (d.unbind tag).siu.entries, x.tag ≠ tag := by
        unfold Device.unbind
        split
        · rename_i hn
          exact Siu.entry_none.1 hn
        · intro x hx
          simpa using (List.mem_filter.1 hx).2
      exact hgone b hb (hbg.trans (hkeep hg).symm)

@[simp] theorem Device.unbind_voices (tag : BitVec 16) (d : Device) : (d.unbind tag).voices = d.voices := by
  unfold Device.unbind; split <;> rfl

@[simp] theorem Device.unbindTake_voices (t : Fin 64) (d : Device) : (d.unbindTake t).voices = d.voices := by
  unfold Device.unbindTake; split <;> simp

/-- R121, R122, R124: a take that has lost its stream changes: it keeps its segments or gives them up, and is FREE only when no cue names it. -/
theorem Device.unbindTake_setTake_keeps {t : Fin 64} {d w : Device} {x : Take} (hw : w = d.unbindTake t)
    (hf : x.state = .free → ∀ v, ∀ c ∈ (d.voice v).cues, c.take ≠ t)
    (hg : x.segments = (w.take t).segments ∨ x.segments = []) (hx : w.StreamsAgree → x.tag = none) :
    d.Keeps (w.setTake t x) := by
  subst hw
  refine (d.unbindTake_keeps t).trans (Device.setTks_keeps (fun k v c hc hfree => ?_) (fun k => k.setTake hg) fun k => ?_)
  · have hv : ∀ v, (d.unbindTake t).voice v = d.voice v := Device.voice_of_voices (Device.unbindTake_voices t d)
    have hfree' : (((d.unbindTake t).setTake t x).take c.take).state = .free := hfree
    rw [Device.take_setTake] at hfree'
    split at hfree'
    · rename_i h
      exact hf hfree' v c (hv v ▸ hc) h
    · exact k v c hc hfree'
  · exact k.setTake_unbound (Device.unbindTake_tag t d k) (hx k)

/-! ### The intake (R135 to R144) -/

theorem Siu.onEntry_routes (s : Siu) (tag : BitVec 16) {f : StreamEntry → StreamEntry} (hf : ∀ e, (f e).tag = e.tag ∧ (f e).take = e.take) :
    (s.onEntry tag f).entries.map (fun e => (e.tag, e.take)) = s.entries.map (fun e => (e.tag, e.take)) := by
  simp only [Siu.onEntry, List.map_map]
  refine List.map_congr_left fun e _ => ?_
  simp only [Function.comp]
  split
  · rw [(hf e).1, (hf e).2]
  · rfl

theorem Device.actOn_keeps (p : SamplePkt) (j : Judgement) (d : Device) : d.Keeps (d.actOn p j) := by
  cases j with
  | unrouted =>
    refine Device.Keeps.trans (d.popSample_keeps.trans ?_) (Device.post_keeps _ _)
    exact Device.setSiu_keeps_of_routes rfl
  | drop e ev =>
    refine Device.Keeps.trans (d.popSample_keeps.trans ?_) (Device.post_keeps _ _)
    exact Device.setSiu_keeps_of_routes (d.siu.onEntry_routes e.tag fun _ => ⟨rfl, rfl⟩)
  | accept j => exact Device.setSiu_keeps_of_routes rfl

theorem Device.judgeHead_keeps (d : Device) : d.Keeps d.judgeHead := by
  unfold Device.judgeHead
  split
  · split
    · exact d.actOn_keeps _ _
    · exact .refl d
  · exact .refl d

theorem Device.rejudgeIntake_keeps (d : Device) : d.Keeps d.rejudgeIntake := by
  unfold Device.rejudgeIntake
  split
  · split
    · exact .refl d
    · refine Device.Keeps.trans ?_ (Device.judgeHead_keeps _)
      exact Device.setSiu_keeps_of_routes rfl
  · exact .refl d

/-! ### Takes (R117 to R129) -/

theorem Device.setVerify_keeps (t : Fin 64) (r : Verify) (d : Device) : d.Keeps (d.setVerify t r) := Device.setTake_keeps rfl rfl rfl

theorem Device.setVerifyStage_keeps (k : Stage) (d : Device) : d.Keeps (d.setVerifyStage k) := Device.setTks_keeps_of_takes rfl

theorem Device.verifyDone_keeps (t : Fin 64) (d : Device) : d.Keeps (d.verifyDone t) :=
  ((d.setVerify_keeps _ _).trans (Device.setVerifyStage_keeps _ _)).trans (Device.post_keeps _ _)

theorem Device.startVerify_keeps (t : Fin 64) (d : Device) : d.Keeps (d.startVerify t) := by
  unfold Device.startVerify
  dsimp only
  split
  · exact (d.setVerify_keeps _ _).trans (Device.verifyDone_keeps _ _)
  · exact (d.setVerify_keeps _ _).trans (Device.setTks_keeps_of_takes rfl)

theorem Device.verifyRead_keeps (b : Block) (d : Device) : d.Keeps (d.verifyRead b) := by
  unfold Device.verifyRead
  dsimp only
  split
  · exact (d.setVerify_keeps _ _).trans (Device.setVerifyStage_keeps _ _)
  · exact (d.setVerify_keeps _ _).trans (Device.verifyDone_keeps _ _)

theorem Device.abortVerify_keeps (t : Fin 64) (d : Device) : d.Keeps (d.abortVerify t) := by
  unfold Device.abortVerify
  dsimp only
  split
  · exact ((d.setVerify_keeps _ _).trans (Device.setVerifyStage_keeps _ _)).trans (Device.post_keeps _ _)
  · exact .refl d

@[simp] theorem Device.abortVerify_voices (t : Fin 64) (d : Device) : (d.abortVerify t).voices = d.voices := by
  unfold Device.abortVerify
  dsimp only
  split <;> rfl

theorem Device.closeResident_keeps (t : Fin 64) (cause : CloseCause) (d : Device) : d.Keeps (d.closeResident t cause) := by
  refine Device.Keeps.trans ?_ (Device.post_keeps _ _)
  exact Device.unbindTake_setTake_keeps rfl (fun h => by cases h) (.inl rfl) (Device.unbindTake_tag t d)

theorem Device.endRing_keeps (t : Fin 64) (cause : CloseCause) (d : Device) : d.Keeps (d.endRing t cause) := by
  refine Device.Keeps.trans ?_ (Device.onVoices_keeps (fun x v => Voice.ringEnded_keeps x t v) _)
  refine Device.Keeps.trans ?_ (Device.post_keeps _ _)
  exact Device.unbindTake_setTake_keeps rfl (fun h => by cases h) (.inl rfl) (Device.unbindTake_tag t d)

end Sys2Proof.Machine
end

section
/-! PROOFS. What the drop and the opening of takes, the self-test engine and the arbiter keep of the invariants (O54 to O59). -/

namespace Sys2Proof.Machine

/-- R123: no cue names a take that no cue is counted for. -/
theorem Device.cuesNaming_eq_zero {d : Device} {t : Fin 64} (h : d.cuesNaming t = 0) : ∀ v, ∀ c ∈ (d.voice v).cues, c.take ≠ t := by
  intro v c hc ht
  unfold Device.cuesNaming at h
  rw [List.sum_eq_zero_iff] at h
  have h₁ := h _ (List.mem_map.2 ⟨v, mem_allVoices v, rfl⟩)
  rw [List.length_eq_zero_iff, List.filter_eq_nil_iff] at h₁
  exact h₁ c hc (by simpa using ht)

/-- R161: a drop changes the check-injection record alone. -/
theorem Smc.forgetTake_frame (t : Fin 64) (s : Smc) : ∃ i, s.forgetTake t = { s with injection := i } := by
  unfold Smc.forgetTake
  split
  · exact ⟨_, rfl⟩
  · split
    · exact ⟨none, rfl⟩
    · exact ⟨_, rfl⟩

/-- R124: a take that no cue names is dropped. -/
theorem Device.dropTake_keeps {t : Fin 64} {d : Device} (h : d.cuesNaming t = 0) : d.Keeps (d.dropTake t) := by
  have hv : ∀ v, (d.abortVerify t).voice v = d.voice v := Device.voice_of_voices (Device.abortVerify_voices t d)
  let w := (d.abortVerify t).unbindTake t
  refine Device.Keeps.trans ?_ (Device.rejudgeIntake_keeps _)
  have h₁ : d.Keeps (w.setTake t (Take.free (w.take t).verify)) := (d.abortVerify_keeps t).trans
    (Device.unbindTake_setTake_keeps rfl (fun _ v c hc => Device.cuesNaming_eq_zero h v c (hv v ▸ hc)) (.inr rfl) fun _ => rfl)
  obtain ⟨i, hi⟩ := Smc.forgetTake_frame t w.smc
  have h₂ : (w.setTake t (Take.free (w.take t).verify)).Keeps
      ((w.setTake t (Take.free (w.take t).verify)).setSmc (w.smc.forgetTake t)) := by
    rw [hi]
    exact Device.setSmc_keeps (fun k => k.congr rfl rfl rfl) id
  exact h₁.trans h₂

/-- R118: the free GOOD segments are in no take, and listed once. -/
theorem Device.goodSegments_free (d : Device) : d.goodSegments.Nodup ∧ ∀ g ∈ d.goodSegments, ∀ t, g ∉ (d.take t).segments := by
  refine ⟨List.Nodup.filter _ (by decide), fun g hg t ht => ?_⟩
  have hf := (List.mem_filter.1 hg).2
  simp only [Bool.and_eq_true, Device.segmentFree, List.all_eq_true] at hf
  simpa [List.contains_iff_mem, ht] using hf.1 t (mem_all64 t)

/-- R119: a FREE take is opened. -/
theorem Device.openTake_keeps {t : Fin 64} {d : Device} (kind : TakeKind) (format : Format) (k : Nat)
    (h : (d.take t).state = .free) : d.Keeps (d.openTake t kind format k) := by
  let x := Take.opened kind format (d.goodSegments.take k) d.tks.counter
  obtain ⟨hn, hfree⟩ := d.goodSegments_free
  have hkind : x.state ≠ .free := by
    simp only [x, Take.opened]
    cases kind <;> simp
  refine Device.Keeps.trans (e := d.setTake t x) (Device.setTks_keeps (fun c v b hb hf => ?_) (fun g => ?_) fun s => ?_)
    (Device.setTks_keeps_of_takes rfl)
  · have hf' : ((d.setTake t x).take b.take).state = .free := hf
    rw [Device.take_setTake] at hf'
    split at hf'
    · exact hkind hf'
    · exact c v b hb hf'
  · have mem : ∀ a ∈ x.segments, ∀ u, a ∉ (d.take u).segments := fun a ha => hfree a (List.mem_of_mem_take ha)
    refine ⟨fun u => ?_, fun u w hne a ha hb => ?_⟩
    · show ((d.setTake t x).take u).segments.Nodup
      rw [Device.take_setTake]
      split
      · exact hn.sublist (List.take_sublist _ _)
      · exact g.once u
    · have ha' : a ∈ ((d.setTake t x).take u).segments := ha
      have hb' : a ∈ ((d.setTake t x).take w).segments := hb
      rw [Device.take_setTake] at ha' hb'
      split at ha' <;> split at hb'
      · rename_i h₁ h₂
        exact hne (h₁.trans h₂.symm)
      · exact mem a ha' _ hb'
      · exact mem a hb' _ ha'
      · exact g.apart u w hne a ha' hb'
  · have htag : (d.take t).tag = none := by
      cases hg : (d.take t).tag with
      | none => rfl
      | some g =>
        obtain ⟨e, he, -, rfl⟩ := s.entered t g hg
        rcases s.writable e he with hw | hw <;> rw [h] at hw <;> cases hw
    exact s.setTake_unbound htag rfl

/-- R146: the table after a new entry took its place. -/
theorem insertEntry_perm (e : StreamEntry) (es : List StreamEntry) : (insertEntry e es).Perm (e :: es) := by
  induction es with
  | nil => exact .refl _
  | cons x xs ih =>
    unfold insertEntry
    split
    · exact (ih.cons x).trans (.swap e x xs)
    · exact .refl _

/-- R133: a stream that no entry holds is bound to an open take that is not bound. -/
theorem Device.bind_keeps {tag : BitVec 16} {t : Fin 64} {d : Device} (hn : d.siu.entry tag = none) (ht : (d.take t).tag = none)
    (ho : (d.take t).state = .filling ∨ (d.take t).state = .live) : d.Keeps (d.bind tag t) := by
  have hstate : ∀ u, ((d.bind tag t).take u).state = (d.take u).state := by
    intro u
    unfold Device.bind
    rw [Device.take_setTake]
    split
    · rename_i h
      rw [h]
    · rfl
  have hsegs : ∀ u, ((d.bind tag t).take u).segments = (d.take u).segments := by
    intro u
    unfold Device.bind
    rw [Device.take_setTake]
    split
    · rename_i h
      rw [h]
    · rfl
  have hmem : ∀ e, e ∈ (d.bind tag t).siu.entries ↔ e = ⟨tag, t, 0, 0⟩ ∨ e ∈ d.siu.entries := by
    intro e
    rw [← List.mem_cons]
    exact (insertEntry_perm _ _).mem_iff
  have hself : ((d.bind tag t).take t).tag = some tag := by
    unfold Device.bind
    rw [Device.take_setTake_self]
  have hother : ∀ u, u ≠ t → (d.bind tag t).take u = d.take u := by
    intro u hu
    unfold Device.bind
    rw [Device.take_setTake_ne _ _ hu]
    rfl
  exact {
    link := fun h => h.congr rfl rfl
    scene := fun h => h.congr rfl
    refresh := fun h => h.congr rfl rfl rfl
    waking := fun h => h.congr rfl
    run := id
    idle := id
    cues := id
    codes := id
    cued := fun h => h.congr rfl fun u hu => (hstate u).symm.trans hu
    segments := fun h => h.congr hsegs
    streams := fun k => by
      have hne : ∀ e ∈ d.siu.entries, e.take ≠ t := by
        rintro e he rfl
        rw [k.bound e he] at ht
        cases ht
      refine ⟨?_, fun e he => ?_, fun e he => ?_, fun u g hg => ?_⟩
      · have hp : ((d.bind tag t).siu.entries.map StreamEntry.tag).Perm (tag :: d.siu.entries.map StreamEntry.tag) :=
          (insertEntry_perm ⟨tag, t, 0, 0⟩ d.siu.entries).map StreamEntry.tag
        rw [hp.nodup_iff, List.nodup_cons]
        refine ⟨fun hm => ?_, k.tags⟩
        obtain ⟨e, he, rfl⟩ := List.mem_map.1 hm
        exact Siu.entry_none.1 hn e he rfl
      · rcases (hmem e).1 he with rfl | he
        · exact hself
        · rw [hother _ (hne e he)]
          exact k.bound e he
      · rw [hstate]
        rcases (hmem e).1 he with rfl | he
        · exact ho
        · exact k.writable e he
      · by_cases hu : u = t
        · subst hu
          rw [hself] at hg
          exact ⟨⟨tag, u, 0, 0⟩, (hmem _).2 (.inl rfl), Option.some.inj hg, rfl⟩
        · rw [hother u hu] at hg
          obtain ⟨e, he, h₁, h₂⟩ := k.entered u g hg
          exact ⟨e, (hmem e).2 (.inr he), h₁, h₂⟩ }

theorem Device.recordIntake_keeps (j : Judged) (d : Device) : d.Keeps (d.recordIntake j) := by
  unfold Device.recordIntake
  dsimp only
  split
  · exact Device.setTake_keeps rfl rfl rfl
  · refine Device.Keeps.trans ?_ (Device.onVoices_keeps (fun x v => (Voice.ringWritten_walked x j.take v).keeps) _)
    refine Device.Keeps.trans ?_ (Device.postAll_keeps _ _)
    exact Device.setTake_keeps rfl rfl rfl

theorem Device.closeByLast_keeps (t : Fin 64) (d : Device) : d.Keeps (d.closeByLast t) := by
  unfold Device.closeByLast
  split
  · exact d.closeResident_keeps _ _
  · exact d.endRing_keeps _ _

/-- An operation under a condition keeps what it keeps. -/
theorem Device.Keeps.ite {d e : Device} {b : Prop} [Decidable b] (h : d.Keeps e) : d.Keeps (if b then e else d) := by
  split
  · exact h
  · exact .refl d

theorem Device.intakeWritten_keeps (j : Judged) (d : Device) : d.Keeps (d.intakeWritten j) := by
  have h₁ : d.Keeps (d.setSiu { d.siu with stage := .idle }) := Device.setSiu_keeps_of_routes rfl
  have h₂ : ∀ e : Device, e.Keeps (e.setSiu (e.siu.onEntry j.packet.tag StreamEntry.countAccept)) := fun e =>
    Device.setSiu_keeps_of_routes (e.siu.onEntry_routes _ fun _ => ⟨rfl, rfl⟩)
  exact ((h₁.trans (Device.recordIntake_keeps j _).ite).trans (h₂ _).ite).trans (Device.closeByLast_keeps j.take _).ite

/-! ### The self-test engine (R151 to R160) -/

/-- The engine changes to one that fits a run. -/
theorem Device.setEngine_keeps {d : Device} {e : Engine} (h : d.smc.engine.RunFits → e.RunFits) : d.Keeps (d.setEngine e) :=
  Device.setSmc_keeps (fun k => k.congr rfl rfl rfl) h

/-- An engine whose step is not granted fits a run unless it is CLEARING with nothing to clear. -/
theorem Engine.runFits_of_stage {e : Engine} (hs : e.stage ≠ .granted) (hc : e.state = .clearing → e.clearing ≠ []) : e.RunFits :=
  ⟨hc, fun _ h => absurd h hs⟩

theorem Device.finishRun_keeps (d : Device) : d.Keeps d.finishRun := by
  refine Device.Keeps.trans ?_ (Device.post_keeps _ _)
  exact Device.setEngine_keeps fun _ => Engine.runFits_of_stage nofun nofun

theorem Device.endRun_keeps (cause : EndCause) (d : Device) : d.Keeps (d.endRun cause) := by
  unfold Device.endRun
  dsimp only
  split
  · refine Device.Keeps.trans ?_ (Device.post_keeps _ _)
    exact Device.setSmc_keeps (fun k => k.congr rfl rfl rfl) fun _ => Engine.runFits_of_stage nofun nofun
  · rename_i h
    exact Device.setEngine_keeps fun _ => Engine.runFits_of_stage nofun fun _ hn => h (by simpa using hn)

theorem Device.endPass_keeps (d : Device) : d.Keeps d.endPass := by
  unfold Device.endPass
  dsimp only
  have h₁ : d.Keeps (d.setEngine { d.smc.engine with passesDone := satAdd Config.max32 d.smc.engine.passesDone 1 }) :=
    Device.setEngine_keeps fun h => ⟨h.clearing, h.granted⟩
  refine h₁.trans ?_
  split
  · rename_i hs
    refine Device.setEngine_keeps fun _ => Engine.runFits_of_stage nofun fun hc => ?_
    have hs' : d.smc.engine.state = .running := hs
    rw [show d.smc.engine.state = .clearing from hc] at hs'
    cases hs'
  · exact Device.endRun_keeps _ _
  · exact Device.endRun_keeps _ _

theorem Device.endSegment_keeps (d : Device) : d.Keeps d.endSegment := by
  unfold Device.endSegment
  dsimp only
  have h₁ : d.Keeps (d.setSmc d.smc.gradeSegment) := Device.setSmc_keeps (fun k => k.congr rfl rfl rfl) fun h => ⟨h.clearing, h.granted⟩
  refine h₁.trans ?_
  split
  · exact Device.setEngine_keeps fun h => Engine.runFits_of_stage nofun h.clearing
  · exact Device.endPass_keeps _

theorem Device.advanceTest_keeps (word : Nat) (d : Device) : d.Keeps (d.advanceTest word) := by
  unfold Device.advanceTest
  dsimp only
  split
  · exact Device.setEngine_keeps fun h => Engine.runFits_of_stage nofun h.clearing
  · split
    · exact Device.setEngine_keeps fun h => Engine.runFits_of_stage nofun h.clearing
    · exact d.endSegment_keeps

/-- R156: the words of a step change the device by its engine, segments and notices. -/
theorem testWords_keeps (pos : TestPos) (upsets : List (Nat × BitVec 64)) (n place : Nat) (x : Testing) :
    x.dev.Keeps (testWords pos upsets n place x).dev := by
  induction n generalizing place x with
  | zero => exact .refl _
  | succ n ih =>
    have hm : ∀ f, x.dev.Keeps (x.dev.setSmc (x.dev.smc.mismatched f)) := fun f =>
      Device.setSmc_keeps (fun k => k.congr rfl rfl rfl) fun h => ⟨h.clearing, h.granted⟩
    unfold testWords
    dsimp only
    split
    · exact ih (place + 1) ⟨x.dev, writeWord x.dev.smc.engine.pattern x.dev.smc.engine.pass pos place x.mem⟩
    · rename_i f hf
      split
      · refine Device.Keeps.trans ?_ (Device.post_keeps _ _)
        exact Device.setSmc_keeps (fun k => k.congr rfl rfl rfl) fun _ => Engine.runFits_of_stage nofun nofun
      · exact (hm f).trans (ih (place + 1) { dev := _, mem := _ })

theorem Testing.complete_keeps (pt : Pattern) (pass : Nat) (pos : TestPos) (upsets : List (Nat × BitVec 64)) (x : Testing) :
    x.dev.Keeps (x.complete pt pass pos upsets).dev := by
  unfold Testing.complete
  split
  · unfold Testing.step
    dsimp only
    have h := testWords_keeps x.dev.smc.engine.pos upsets (stepWords x.dev.smc.engine.pos) x.dev.smc.engine.pos.word
      { x with mem := writeOwed x.dev.smc.engine.pattern x.dev.smc.engine.pass x.dev.smc.engine.pos x.mem }
    split
    · exact h
    · exact h.trans (Device.advanceTest_keeps _ _)
  · exact .refl _

/-- R158: a clearing write. -/
theorem Device.cleared_keeps (d : Device) : d.Keeps d.cleared := by
  unfold Device.cleared
  dsimp only
  split
  · split
    · exact Device.setEngine_keeps fun h => Engine.runFits_of_stage nofun h.clearing
    · split
      · exact d.finishRun_keeps
      · rename_i hne
        exact Device.setEngine_keeps fun _ => Engine.runFits_of_stage nofun fun _ => hne
  · exact .refl d

theorem Device.startRun_keeps (m : TestMode) (p : Pattern) (d : Device) : d.Keeps (d.setSmc (d.smc.startRun m p)) :=
  Device.setSmc_keeps (fun k => k.congr rfl rfl rfl) fun _ => Engine.runFits_of_stage nofun nofun

theorem Device.continueRun_keeps (d : Device) : d.Keeps d.continueRun := by
  unfold Device.continueRun
  dsimp only
  have h : d.Keeps (d.setEngine { d.smc.engine with state := .running, failure := none, stage := .waiting }) :=
    Device.setEngine_keeps fun _ => Engine.runFits_of_stage nofun nofun
  split
  · exact h
  · exact h.trans (Device.advanceTest_keeps _ _)

/-! ### The arbiter (R147 to R149) -/

theorem Device.occupy_keeps (b : Burst) (d : Device) : d.Keeps (d.occupy b) := Device.setSmc_keeps (fun k => k.congr rfl rfl rfl) id

theorem Device.grantFetch_keeps (v : Fin 32) (d : Device) : d.Keeps (d.grantFetch v) := by
  unfold Device.grantFetch
  split
  · rename_i r _
    have h₁ : (d.voice v).Walked { d.voice v with req := .granted r } := .of_eq rfl rfl rfl rfl
    exact (Device.setVoice_keeps h₁.keeps).trans (Device.setSmc_keeps (fun k => k.congr rfl rfl rfl) id)
  · exact .refl d

theorem Device.grantIntake_keeps (d : Device) : d.Keeps d.grantIntake := by
  unfold Device.grantIntake
  split
  · rename_i j _
    dsimp only
    refine (d.popSample_keeps.trans (Device.setSiu_keeps_of_routes (x := { d.siu with stage := .writing j }) rfl)).trans ?_
    split
    · exact Device.setSmc_keeps (fun k => k.congr rfl rfl rfl) id
    · exact Device.setSmc_keeps (fun k => k.congr rfl rfl rfl) id
  · exact .refl d

theorem Device.grantPeek_keeps (d : Device) : d.Keeps d.grantPeek := by
  unfold Device.grantPeek
  split
  · rename_i p stage hc
    refine Device.Keeps.trans ?_ (Device.occupy_keeps _ _)
    exact Device.setCtu_keeps fun h => ⟨h.samples, h.controls, h.replies, fun _ _ _ => h.owed p stage hc, h.flow⟩
  · exact .refl d

theorem Device.grantVerify_keeps (d : Device) : d.Keeps d.grantVerify := by
  refine Device.Keeps.trans ?_ (Device.occupy_keeps _ _)
  exact Device.setTks_keeps_of_takes rfl

theorem Device.grantSelftest_keeps (d : Device) : d.Keeps d.grantSelftest := by
  unfold Device.grantSelftest
  dsimp only
  split
  · rename_i hs
    exact Device.setSmc_keeps (fun k => k.congr rfl rfl rfl) fun h => ⟨h.clearing, fun hr => by simp [hs] at hr⟩
  · rename_i hs
    refine Device.setSmc_keeps (fun k => k.congr rfl rfl rfl) fun _ => ⟨fun hc => absurd hc hs, fun _ _ => ?_⟩
    dsimp only
    split
    · rename_i hm
      intro hn
      rw [hn] at hm
      cases hm
    · simp

/-- R149: a refresh is granted in ACTIVE. -/
theorem Device.grantRefresh_keeps {d : Device} (h : d.pwc.power = .active) : d.Keeps d.grantRefresh :=
  Device.setSmc_keeps (fun k => ⟨Nat.le_trans (Nat.sub_le _ _) k.debt, fun hp => absurd h hp⟩) id

theorem Device.grantChoice_keeps (c : Choice) {d : Device} (h : d.pwc.power = .active) : d.Keeps (d.grantChoice c) := by
  cases c with
  | refresh => exact Device.grantRefresh_keeps h
  | fetch v => exact d.grantFetch_keeps v
  | intake => exact d.grantIntake_keeps
  | peek => exact d.grantPeek_keeps
  | verify => exact d.grantVerify_keeps
  | selftest => exact d.grantSelftest_keeps

/-- R147: the arbiter may grant in ACTIVE alone, with the port free and the DRAM initialised. -/
theorem Device.mayGrant_iff (d : Device) : d.mayGrant = true ↔ d.smc.port = none ∧ d.pwc.power = .active ∧ d.smc.reinit = false := by
  simp [Device.mayGrant, and_assoc]

/-- R147: a grant decision. -/
theorem Device.grant_keeps (d : Device) : d.Keeps d.grant := by
  rcases d.grant_cases with ⟨h, -⟩ | ⟨hm, c, -, h⟩
  · rw [h]
    exact .refl d
  · rw [h]
    exact Device.grantChoice_keeps c (d.mayGrant_iff.1 hm).2.1

theorem Device.freePort_keeps (d : Device) : d.Keeps d.freePort := by
  refine Device.Keeps.trans ?_ (Device.grant_keeps _)
  exact Device.setSmc_keeps (fun k => k.congr rfl rfl rfl) id

end Sys2Proof.Machine
end

section
/-! PROOFS. What the controls of takes, streams, cues and voices keep of the invariants (O54 to O59). -/

namespace Sys2Proof.Machine

/-! ### Controls (R165 to R175) -/

/-- What a control that a FREE Control Unit takes keeps: the invariants, the replies, and, when it is answered, a Control Unit that
holds no peek. -/
structure Carried.Sound (d : Device) (c : Carried) : Prop where
  keeps : d.Keeps c.1
  replies : c.1.bli.replyQ = d.bli.replyQ
  answered : c.2.isSome → ∀ p k, c.1.ctu ≠ .holding p k

theorem refuse_sound {d : Device} (h : d.ctu = .free) (st : Status) : Carried.Sound d (refuse d st) :=
  ⟨.refl d, rfl, fun _ p k => by simp [refuse, h]⟩

/-- A control that is answered by a device with the replies and the Control Unit as they were. -/
theorem Carried.Sound.of_keeps {d e : Device} {a : Option Answer} (h : d.ctu = .free) (hk : d.Keeps e)
    (hr : e.bli.replyQ = d.bli.replyQ) (hc : e.ctu = d.ctu) : Carried.Sound d (e, a) :=
  ⟨hk, hr, fun _ p k => by simp [hc, h]⟩

theorem accept_sound {d e : Device} {fs : List Field} (h : d.ctu = .free) (hk : d.Keeps e)
    (hr : e.bli.replyQ = d.bli.replyQ) (hc : e.ctu = d.ctu) : Carried.Sound d (accept e fs) := .of_keeps h hk hr hc

theorem ctlIdent_sound {d : Device} (h : d.ctu = .free) (ts : List Tuple) : Carried.Sound d (ctlIdent ts d) :=
  accept_sound h (.refl d) rfl rfl

theorem queryOf_sound {d : Device} (h : d.ctu = .free) (n i : Nat) (f : Fin n → List Field) : Carried.Sound d (queryOf n i d f) := by
  unfold queryOf
  split
  · exact accept_sound h (.refl d) rfl rfl
  · exact refuse_sound h _

theorem ctlQuery_sound {d : Device} (h : d.ctu = .free) (ts : List Tuple) : Carried.Sound d (ctlQuery ts d) := by
  unfold ctlQuery
  split
  · exact refuse_sound h _
  · split
    · exact accept_sound h (.refl d) rfl rfl
    · exact queryOf_sound h _ _ _
    · exact queryOf_sound h _ _ _
    · exact queryOf_sound h _ _ _
    · exact accept_sound h (.refl d) rfl rfl
    · exact accept_sound h (.refl d) rfl rfl
    · exact accept_sound h (.refl d) rfl rfl
    · exact refuse_sound h _

theorem ctlCaptureRead_sound {d : Device} (h : d.ctu = .free) (ts : List Tuple) : Carried.Sound d (ctlCaptureRead ts d) :=
  accept_sound h (Device.setStu_keeps fun k => ⟨k.time, k.frozen, Nat.zero_le _, k.markers⟩) rfl rfl

/-! ### Frames of the take operations: the replies and the Control Unit -/

@[simp] theorem Device.unbind_bli (tag : BitVec 16) (d : Device) : (d.unbind tag).bli = d.bli := by
  unfold Device.unbind; split <;> rfl
@[simp] theorem Device.unbind_ctu (tag : BitVec 16) (d : Device) : (d.unbind tag).ctu = d.ctu := by
  unfold Device.unbind; split <;> rfl
@[simp] theorem Device.unbindTake_bli (t : Fin 64) (d : Device) : (d.unbindTake t).bli = d.bli := by
  unfold Device.unbindTake; split <;> simp
@[simp] theorem Device.unbindTake_ctu (t : Fin 64) (d : Device) : (d.unbindTake t).ctu = d.ctu := by
  unfold Device.unbindTake; split <;> simp
@[simp] theorem Device.popSample_replyQ (d : Device) : d.popSample.bli.replyQ = d.bli.replyQ := by
  simp only [Device.popSample, Device.setBli_bli]
  rw [Bli.departed_frame]
@[simp] theorem Device.popSample_ctu (d : Device) : d.popSample.ctu = d.ctu := rfl
@[simp] theorem Device.actOn_replyQ (p : SamplePkt) (j : Judgement) (d : Device) : (d.actOn p j).bli.replyQ = d.bli.replyQ := by
  cases j <;> simp [Device.actOn]
@[simp] theorem Device.actOn_ctu (p : SamplePkt) (j : Judgement) (d : Device) : (d.actOn p j).ctu = d.ctu := by
  cases j <;> simp [Device.actOn]
@[simp] theorem Device.judgeHead_replyQ (d : Device) : d.judgeHead.bli.replyQ = d.bli.replyQ := by
  unfold Device.judgeHead
  split
  · split <;> simp
  · rfl
@[simp] theorem Device.judgeHead_ctu (d : Device) : d.judgeHead.ctu = d.ctu := by
  unfold Device.judgeHead
  split
  · split <;> simp
  · rfl
@[simp] theorem Device.rejudgeIntake_replyQ (d : Device) : d.rejudgeIntake.bli.replyQ = d.bli.replyQ := by
  unfold Device.rejudgeIntake
  split
  · split <;> simp
  · rfl
@[simp] theorem Device.rejudgeIntake_ctu (d : Device) : d.rejudgeIntake.ctu = d.ctu := by
  unfold Device.rejudgeIntake
  split
  · split <;> simp
  · rfl
@[simp] theorem Device.closeResident_bli (t : Fin 64) (cause : CloseCause) (d : Device) : (d.closeResident t cause).bli = d.bli := by
  simp [Device.closeResident]
@[simp] theorem Device.closeResident_ctu (t : Fin 64) (cause : CloseCause) (d : Device) : (d.closeResident t cause).ctu = d.ctu := by
  simp [Device.closeResident]
@[simp] theorem Device.endRing_bli (t : Fin 64) (cause : CloseCause) (d : Device) : (d.endRing t cause).bli = d.bli := by
  simp [Device.endRing]
@[simp] theorem Device.endRing_ctu (t : Fin 64) (cause : CloseCause) (d : Device) : (d.endRing t cause).ctu = d.ctu := by
  simp [Device.endRing]
@[simp] theorem Device.abortVerify_bli (t : Fin 64) (d : Device) : (d.abortVerify t).bli = d.bli := by
  unfold Device.abortVerify
  dsimp only
  split <;> rfl
@[simp] theorem Device.abortVerify_ctu (t : Fin 64) (d : Device) : (d.abortVerify t).ctu = d.ctu := by
  unfold Device.abortVerify
  dsimp only
  split <;> rfl
@[simp] theorem Device.dropTake_replyQ (t : Fin 64) (d : Device) : (d.dropTake t).bli.replyQ = d.bli.replyQ := by
  simp [Device.dropTake]
@[simp] theorem Device.dropTake_ctu (t : Fin 64) (d : Device) : (d.dropTake t).ctu = d.ctu := by simp [Device.dropTake]
@[simp] theorem Device.verifyDone_bli (t : Fin 64) (d : Device) : (d.verifyDone t).bli = d.bli := rfl
@[simp] theorem Device.verifyDone_ctu (t : Fin 64) (d : Device) : (d.verifyDone t).ctu = d.ctu := rfl
@[simp] theorem Device.startVerify_bli (t : Fin 64) (d : Device) : (d.startVerify t).bli = d.bli := by
  unfold Device.startVerify
  dsimp only
  split <;> rfl
@[simp] theorem Device.startVerify_ctu (t : Fin 64) (d : Device) : (d.startVerify t).ctu = d.ctu := by
  unfold Device.startVerify
  dsimp only
  split <;> rfl

/-! ### The controls of the takes and streams -/

theorem ctlTakeOpen_sound {d : Device} (h : d.ctu = .free) (ts : List Tuple) : Carried.Sound d (ctlTakeOpen ts d) := by
  unfold ctlTakeOpen
  split
  · exact refuse_sound h _
  · split
    · exact refuse_sound h _
    · split
      · exact refuse_sound h _
      · split
        · exact refuse_sound h _
        · rename_i hfree
          split
          · exact refuse_sound h _
          · split
            · exact refuse_sound h _
            · exact accept_sound h (Device.openTake_keeps _ _ _ (by simpa using hfree)) rfl rfl

theorem ctlTakeClose_sound {d : Device} (h : d.ctu = .free) (ts : List Tuple) : Carried.Sound d (ctlTakeClose ts d) := by
  unfold ctlTakeClose
  split
  · exact refuse_sound h _
  · split
    · exact refuse_sound h _
    · exact accept_sound h ((d.closeResident_keeps _ _).trans (Device.rejudgeIntake_keeps _)) (by simp) (by simp)
    · exact accept_sound h ((d.endRing_keeps _ _).trans (Device.rejudgeIntake_keeps _)) (by simp) (by simp)
    · exact refuse_sound h _

theorem ctlTakeDrop_sound {d : Device} (h : d.ctu = .free) (ts : List Tuple) : Carried.Sound d (ctlTakeDrop ts d) := by
  unfold ctlTakeDrop
  split
  · exact refuse_sound h _
  · split
    · exact refuse_sound h _
    · split
      · exact refuse_sound h _
      · rename_i hn
        exact accept_sound h (Device.dropTake_keeps (by simpa using hn)) (by simp) (by simp)

theorem ctlTakeVerify_sound {d : Device} (h : d.ctu = .free) (ts : List Tuple) : Carried.Sound d (ctlTakeVerify ts d) := by
  unfold ctlTakeVerify
  split
  · exact refuse_sound h _
  · split
    · exact refuse_sound h _
    · split
      · exact refuse_sound h _
      · exact .of_keeps h (d.startVerify_keeps _) (by simp) (by simp)

/-- R128: a peek is requested while the reply queue has room for its reply. -/
theorem ctlTakePeek_sound {d : Device} (h : d.ctu = .free) (hroom : d.bli.replyQ.length < 4) (tag : BitVec 16) (ts : List Tuple) :
    Carried.Sound d (ctlTakePeek tag ts d) := by
  unfold ctlTakePeek
  split
  · exact refuse_sound h _
  · exact refuse_sound h _
  · dsimp only
    split
    · exact refuse_sound h _
    · split
      · exact refuse_sound h _
      · refine ⟨Device.setCtu_keeps fun k => ?_, rfl, nofun⟩
        exact ⟨k.samples, k.controls, k.replies, fun _ _ _ => hroom, k.flow⟩

theorem ctlStreamBind_sound {d : Device} (h : d.ctu = .free) (ts : List Tuple) : Carried.Sound d (ctlStreamBind ts d) := by
  unfold ctlStreamBind
  split
  · exact refuse_sound h _
  · exact refuse_sound h _
  · rename_i a t _ _
    dsimp only
    split
    · exact refuse_sound h _
    · rename_i he
      split
      · exact refuse_sound h _
      · rename_i hf
        split
        · exact refuse_sound h _
        · rename_i hs
          split
          · exact refuse_sound h _
          · rename_i ht
            refine accept_sound h (Device.bind_keeps (by simpa using he) (by simpa using ht) ?_) rfl rfl
            cases hk : (d.take t).state <;> simp [hk] at hf hs ⊢

theorem ctlStreamUnbind_sound {d : Device} (h : d.ctu = .free) (ts : List Tuple) : Carried.Sound d (ctlStreamUnbind ts d) := by
  unfold ctlStreamUnbind
  split
  · exact refuse_sound h _
  · dsimp only
    split
    · exact refuse_sound h _
    · exact accept_sound h ((d.unbind_keeps _).trans (Device.rejudgeIntake_keeps _)) (by simp) (by simp)

/-! ### The controls of the voices -/

/-- R30: a loaded cue's codes are clamped. -/
theorem RawCue.cue_codesFit (c : RawCue) : c.cue.CodesFit := by
  unfold Cue.CodesFit RawCue.cue
  refine ⟨fun a ha => ?_, fun r hr => ?_⟩
  · obtain ⟨b, -, rfl⟩ := Option.map_eq_some_iff.1 ha
    exact Nat.min_le_left _ _
  · obtain ⟨b, -, rfl⟩ := Option.map_eq_some_iff.1 hr
    exact Nat.min_le_left _ _

/-- R32: a voice with cues appended to its list. -/
def Voice.appended (cs : List Cue) (v : Voice) : Voice := { v with cues := v.cues ++ cs }

/-- R25: a load into an empty list. -/
theorem Voice.loaded_first (x : Ctx) {cs : List Cue} {v : Voice} (hcs : cs ≠ []) (hv : v.cues = []) :
    v.loaded x cs = andThen (Voice.settleHead x) (Voice.request x) (({ v.appended cs with state := .priming } : Voice).arrive x.takes 0) := by
  unfold Voice.loaded
  split
  · exact absurd rfl hcs
  · rfl
  · exact (‹v.cues = [] → False› hv).elim
  · exact (‹v.cues = [] → False› hv).elim

/-- R32, R54: a load behind other cues: a cursor at its end goes on, and otherwise the list alone changes. -/
theorem Voice.loaded_behind (x : Ctx) {cs : List Cue} {v : Voice} (hcs : cs ≠ []) (hv : v.cues ≠ []) :
    v.loaded x cs =
      match v.cursor with
      | .atEnd _ => ((v.appended cs).arrive x.takes v.cues.length).request x
      | _ => (v.appended cs, []) := by
  unfold Voice.loaded
  split
  · exact absurd rfl hcs
  · rename_i h
    exact absurd h hv
  · split
    · rfl
    · exact (‹∀ cue, v.cursor = .atEnd cue → False› _ ‹v.cursor = .atEnd _›).elim
  · split
    · rename_i h
      exact (‹∀ cue, v.cursor = .atEnd cue → False› _ h).elim
    · rfl

/-- R25, R32: what a load of cues makes of a voice: its cues come from the list with the cues appended, and it keeps the agreement of
state and list and its levels. -/
theorem Voice.loaded_shape (x : Ctx) (cs : List Cue) (v : Voice) :
    (v.appended cs).Within (v.loaded x cs).1 ∧ (v.IdleFits → (v.loaded x cs).1.IdleFits) ∧
      (v.LevelsFit → (v.loaded x cs).1.LevelsFit) := by
  by_cases hcs : cs = []
  · subst hcs
    exact ⟨.of_eq (by simp [Voice.appended, Voice.loaded]), id, id⟩
  · by_cases hv : v.cues = []
    · rw [Voice.loaded_first x hcs hv]
      let w : Voice := { v.appended cs with state := .priming }
      have h₀ : (v.appended cs).Within w := .of_eq rfl
      have hw := (h₀.trans (Voice.arrive_walked x.takes 0 w).within).trans (Voice.settleHead_keeps x _).within
      have hr := Voice.request_walked x ((w.arrive x.takes 0).settleHead x).1
      refine ⟨hw.trans hr.within, fun _ => hr.idleFits.2 (Voice.settleHead_idleFits x _), fun hl => hr.levels ?_⟩
      exact takeHead_levels x _ ((Voice.arrive_walked x.takes 0 w).levels hl)
    · have walk : ∀ u, (v.appended cs).Walked u →
          (v.appended cs).Within u ∧ (v.IdleFits → u.IdleFits) ∧ (v.LevelsFit → u.LevelsFit) := by
        intro u hu
        refine ⟨hu.within, fun h => hu.idleFits.2 ?_, fun h => hu.levels h⟩
        exact ⟨fun hi => absurd (h.1 hi) hv, fun he => absurd (List.append_eq_nil_iff.1 he).1 hv⟩
      rw [Voice.loaded_behind x hcs hv]
      split
      · exact walk _ ((Voice.arrive_walked _ _ _).trans (Voice.request_walked _ _))
      · exact walk _ (.refl _)

/-- R32: a load that is not refused names no FREE take and leaves at most 16 cues. -/
theorem loadRefusal_none {d : Device} {v : Voice} {cs : List RawCue} (h : loadRefusal d v cs = none) :
    (∀ c ∈ cs, (d.take c.cue.take).state ≠ .free) ∧ v.cues.length + cs.length ≤ 16 := by
  simp only [loadRefusal] at h
  split at h
  · cases h
  · split at h
    · cases h
    · rename_i hfree
      split at h
      · cases h
      · rename_i hlen
        refine ⟨fun c hc hf => hfree ?_, Nat.le_of_not_lt hlen⟩
        exact List.any_eq_true.2 ⟨c, hc, decide_eq_true hf⟩

/-- R32: what a load that passed its checks keeps. -/
theorem Device.loaded_keeps {d : Device} {v : Fin 32} {cs : List RawCue} (h : loadRefusal d (d.voice v) cs = none) :
    d.Keeps (d.onVoice v (fun x y => y.loaded x (cs.map RawCue.cue))) := by
  refine Device.Keeps.trans ?_ (Device.postAll_keeps _ _)
  show d.Keeps (d.setVoice v ((d.voice v).loaded (d.ctx v) (cs.map RawCue.cue)).1)
  obtain ⟨hw, hi, hl⟩ := Voice.loaded_shape (d.ctx v) (cs.map RawCue.cue) (d.voice v)
  obtain ⟨hfree, hlen⟩ := loadRefusal_none h
  have hcues : ∀ b ∈ ((d.voice v).appended (cs.map RawCue.cue)).cues, b ∈ (d.voice v).cues ∨ ∃ r ∈ cs, r.cue = b := by
    intro b hb
    simpa [Voice.appended] using hb
  have hsize : ((d.voice v).appended (cs.map RawCue.cue)).cues.length ≤ 16 := by simpa [Voice.appended] using hlen
  generalize ((d.voice v).loaded (d.ctx v) (cs.map RawCue.cue)).1 = w at hw hi hl
  have each : ∀ P : Voice → Prop, (P (d.voice v) → P w) → (∀ u, P (d.voice u)) → ∀ u, P ((d.setVoice v w).voice u) := by
    intro P hP hall u
    rw [Device.voice_setVoice]
    split
    · exact hP (hall v)
    · exact hall u
  exact {
    link := fun k => k.congr rfl rfl
    scene := fun k => k.congr rfl
    refresh := fun k => k.congr rfl rfl rfl
    waking := fun k => k.congr rfl
    run := id
    idle := each Voice.IdleFits hi
    cues := each (fun u => u.cues.length ≤ 16) fun _ => Nat.le_trans hw.length hsize
    codes := each Voice.CodesFit fun k => by
      rw [Voice.codesFit_iff] at k ⊢
      obtain ⟨hk, hc⟩ := k
      refine ⟨hl hk, hw.codes fun b hb => ?_⟩
      rcases hcues b hb with hb | ⟨r, -, rfl⟩
      · exact hc b hb
      · exact r.cue_codesFit
    cued := each (fun u => ∀ c ∈ u.cues, (d.take c.take).state ≠ .free) fun k c hc => by
      obtain ⟨b, hb, ht, -, -⟩ := hw.cues c hc
      rw [ht]
      rcases hcues b hb with hb | ⟨r, hr, rfl⟩
      · exact k b hb
      · exact hfree r hr
    segments := fun k => k.congr fun _ => rfl
    streams := fun k => k.congr rfl (fun _ => rfl) fun _ => rfl }

theorem ctlCueLoad_sound {d : Device} (h : d.ctu = .free) (ts : List Tuple) : Carried.Sound d (ctlCueLoad ts d) := by
  unfold ctlCueLoad
  split
  · exact refuse_sound h _
  · exact refuse_sound h _
  · split
    · exact refuse_sound h _
    · split
      · exact refuse_sound h _
      · rename_i hl
        exact accept_sound h (Device.loaded_keeps hl) (by simp) (by simp)

theorem ctlCueFlush_sound {d : Device} (h : d.ctu = .free) (ts : List Tuple) : Carried.Sound d (ctlCueFlush ts d) := by
  unfold ctlCueFlush
  split
  · split
    · exact refuse_sound h _
    · split
      · exact refuse_sound h _
      · split
        · exact refuse_sound h _
        · dsimp only
          split
          · exact accept_sound h (Device.setVoice_keeps (Voice.flushAll_keeps _)) rfl rfl
          · refine accept_sound h (Device.onVoice_keeps ?_) (by simp [Device.flushPending]) (by simp [Device.flushPending])
            exact (Voice.flushPending_keeps _).trans (Voice.request_walked _ _).keeps
  · exact refuse_sound h _

theorem Device.applyVoice_keeps (d : Device) (s : VoiceSetting) : d.Keeps (d.applyVoice s) := by
  unfold Device.applyVoice
  split
  · exact Device.setVoice_keeps (VoiceValue.apply_walked _ _).keeps
  · exact .refl d

theorem Device.judgeDepth_keeps (ss : List VoiceSetting) (d : Device) (v : Fin 32) : d.Keeps (d.judgeDepth ss v) := by
  unfold Device.judgeDepth
  split
  · exact Device.onVoice_keeps (Voice.proceed_keeps _ _)
  · exact .refl d

theorem Device.setVoicesBy_keeps (ss : List VoiceSetting) (d : Device) : d.Keeps (d.setVoicesBy ss) :=
  (Device.keeps_foldl Device.applyVoice_keeps ss d).trans (Device.keeps_foldl (Device.judgeDepth_keeps ss) _ _)

/-- Operations one after another leave a part of the device that each of them leaves. -/
theorem Device.foldl_frame {α β : Type} {f : Device → α → Device} (g : Device → β) (h : ∀ d a, g (f d a) = g d) (as : List α)
    (d : Device) : g (as.foldl f d) = g d := by
  induction as generalizing d with
  | nil => rfl
  | cons a as ih => rw [List.foldl_cons, ih, h]

theorem Device.applyVoice_frame (d : Device) (s : VoiceSetting) : (d.applyVoice s).bli = d.bli ∧ (d.applyVoice s).ctu = d.ctu := by
  unfold Device.applyVoice
  split <;> exact ⟨rfl, rfl⟩

theorem Device.judgeDepth_frame (ss : List VoiceSetting) (d : Device) (v : Fin 32) :
    (d.judgeDepth ss v).bli = d.bli ∧ (d.judgeDepth ss v).ctu = d.ctu := by
  unfold Device.judgeDepth
  split <;> simp

theorem Device.setVoicesBy_frame (ss : List VoiceSetting) (d : Device) :
    (d.setVoicesBy ss).bli = d.bli ∧ (d.setVoicesBy ss).ctu = d.ctu := by
  unfold Device.setVoicesBy
  constructor
  · rw [Device.foldl_frame Device.bli fun d v => (d.judgeDepth_frame ss v).1,
      Device.foldl_frame Device.bli fun d s => (d.applyVoice_frame s).1]
  · rw [Device.foldl_frame Device.ctu fun d v => (d.judgeDepth_frame ss v).2,
      Device.foldl_frame Device.ctu fun d s => (d.applyVoice_frame s).2]

theorem ctlVoiceSet_sound {d : Device} (h : d.ctu = .free) (ts : List Tuple) : Carried.Sound d (ctlVoiceSet ts d) := by
  unfold ctlVoiceSet
  split
  · exact refuse_sound h _
  · rename_i ss _
    split
    · exact refuse_sound h _
    · split
      · exact refuse_sound h _
      · exact accept_sound h (d.setVoicesBy_keeps ss) (by rw [(d.setVoicesBy_frame ss).1]) (d.setVoicesBy_frame ss).2

end Sys2Proof.Machine
end

section
/-! PROOFS. What the other controls, and the Control Unit that takes them, keep of the invariants (O54 to O59). -/

namespace Sys2Proof.Machine

/-! ### The controls of ports, lines, markers and the scene -/

theorem Device.applyPort_keeps (d : Device) (s : PortSetting) : d.Keeps (d.applyPort s) := by
  unfold Device.applyPort
  split
  · exact d.setPort_keeps _ _
  · exact .refl d

theorem Device.applyPort_frame (d : Device) (s : PortSetting) : (d.applyPort s).bli = d.bli ∧ (d.applyPort s).ctu = d.ctu := by
  unfold Device.applyPort
  split <;> exact ⟨rfl, rfl⟩

theorem ctlPortSet_sound {d : Device} (h : d.ctu = .free) (ts : List Tuple) : Carried.Sound d (ctlPortSet ts d) := by
  unfold ctlPortSet
  split
  · exact refuse_sound h _
  · rename_i ss _
    split
    · exact refuse_sound h _
    · split
      · exact refuse_sound h _
      · refine accept_sound h (Device.keeps_foldl Device.applyPort_keeps ss d) ?_ ?_
        · rw [Device.foldl_frame Device.bli fun d s => (d.applyPort_frame s).1]
        · exact Device.foldl_frame Device.ctu (fun d s => (d.applyPort_frame s).2) ss d

theorem Device.applyLine_keeps (d : Device) (s : LineSetting) : d.Keeps (d.applyLine s) := by
  unfold Device.applyLine
  split
  · exact d.setLine_keeps _ _
  · exact .refl d

/-- What changing lines leaves: everything but the lines and the power record. -/
theorem Device.wakeUp_frame (cause : WakeCause) (d : Device) :
    d.wakeUp cause = ((d.setLines (d.wakeUp cause).lines).setPwc (d.wakeUp cause).pwc) := by
  unfold Device.wakeUp Device.beginWaking
  dsimp only
  split
  · split <;> rfl
  · split <;> rfl
  · rfl

theorem Device.handEdge_frame (before after : Vector Bool 8) (d : Device) (l : Fin 8) :
    d.handEdge before after l = ((d.setLines (d.handEdge before after l).lines).setPwc (d.handEdge before after l).pwc) := by
  unfold Device.handEdge
  split
  · exact d.wakeUp_frame _
  · rfl

/-- R4, R100: changes noted on the lines change lines and the power record alone. -/
theorem Device.noteChanges_frame (before after : Vector Bool 8) (d : Device) :
    d.noteChanges before after = ((d.setLines (d.noteChanges before after).lines).setPwc (d.noteChanges before after).pwc) := by
  have key : ∀ (ls : List (Fin 8)) (e : Device), ls.foldl (Device.handEdge before after) e =
      (e.setLines (ls.foldl (Device.handEdge before after) e).lines).setPwc (ls.foldl (Device.handEdge before after) e).pwc := by
    intro ls
    induction ls with
    | nil => intro e; rfl
    | cons l ls ih =>
      intro e
      rw [List.foldl_cons, ih (e.handEdge before after l)]
      rw [Device.handEdge_frame before after e l]
      rfl
  unfold Device.noteChanges
  rw [key]
  rfl

@[simp] theorem Device.noteChanges_bli (before after : Vector Bool 8) (d : Device) : (d.noteChanges before after).bli = d.bli := by
  rw [Device.noteChanges_frame]; rfl
@[simp] theorem Device.noteChanges_ctu (before after : Vector Bool 8) (d : Device) : (d.noteChanges before after).ctu = d.ctu := by
  rw [Device.noteChanges_frame]; rfl
@[simp] theorem Device.noteChanges_stu (before after : Vector Bool 8) (d : Device) : (d.noteChanges before after).stu = d.stu := by
  rw [Device.noteChanges_frame]; rfl
@[simp] theorem Device.noteChanges_voices (before after : Vector Bool 8) (d : Device) :
    (d.noteChanges before after).voices = d.voices := by
  rw [Device.noteChanges_frame]; rfl
@[simp] theorem Device.noteChanges_ports (before after : Vector Bool 8) (d : Device) :
    (d.noteChanges before after).ports = d.ports := by
  rw [Device.noteChanges_frame]; rfl
@[simp] theorem Device.noteChanges_tks (before after : Vector Bool 8) (d : Device) : (d.noteChanges before after).tks = d.tks := by
  rw [Device.noteChanges_frame]; rfl
@[simp] theorem Device.noteChanges_siu (before after : Vector Bool 8) (d : Device) : (d.noteChanges before after).siu = d.siu := by
  rw [Device.noteChanges_frame]; rfl
@[simp] theorem Device.noteChanges_smc (before after : Vector Bool 8) (d : Device) : (d.noteChanges before after).smc = d.smc := by
  rw [Device.noteChanges_frame]; rfl
@[simp] theorem Device.noteChanges_ntu (before after : Vector Bool 8) (d : Device) : (d.noteChanges before after).ntu = d.ntu := by
  rw [Device.noteChanges_frame]; rfl

theorem Device.applyLine_frame (d : Device) (s : LineSetting) : (d.applyLine s).bli = d.bli ∧ (d.applyLine s).ctu = d.ctu := by
  unfold Device.applyLine
  split <;> exact ⟨rfl, rfl⟩

theorem ctlLineSet_sound {d : Device} (h : d.ctu = .free) (ts : List Tuple) : Carried.Sound d (ctlLineSet ts d) := by
  unfold ctlLineSet
  split
  · exact refuse_sound h _
  · rename_i ss _
    split
    · exact refuse_sound h _
    · split
      · exact refuse_sound h _
      · refine accept_sound h (Device.changeLines_keeps (Device.keeps_foldl Device.applyLine_keeps ss d)) ?_ ?_
        · simp only [Device.changeLines, Device.noteChanges_bli]
          rw [Device.foldl_frame Device.bli fun d s => (d.applyLine_frame s).1]
        · simp only [Device.changeLines, Device.noteChanges_ctu]
          exact Device.foldl_frame Device.ctu (fun d s => (d.applyLine_frame s).2) ss d

theorem insertMarker_length (m : Marker) (table : List Marker) : (insertMarker m table).length = table.length + 1 := by
  induction table with
  | nil => rfl
  | cons x xs ih =>
    unfold insertMarker
    split
    · rw [List.length_cons, ih, List.length_cons]
    · rfl

/-- R105: a load of markers lengthens the table by at most their number. -/
theorem loadMarkers_length (ms : List RawMarker) (table : List Marker) :
    (ms.foldl loadMarker table).length ≤ table.length + ms.length := by
  induction ms generalizing table with
  | nil => exact Nat.le_refl _
  | cons m ms ih =>
    have h₁ : (loadMarker table m).length ≤ table.length + 1 := by
      unfold loadMarker
      split
      · exact (insertMarker_length _ _).le
      · exact Nat.le_succ _
    have h₂ := ih (loadMarker table m)
    simp only [List.foldl_cons, List.length_cons]
    omega

theorem ctlMarkLoad_sound {d : Device} (h : d.ctu = .free) (ts : List Tuple) : Carried.Sound d (ctlMarkLoad ts d) := by
  unfold ctlMarkLoad
  split
  · exact refuse_sound h _
  · rename_i ms _
    split
    · exact refuse_sound h _
    · split
      · exact refuse_sound h _
      · split
        · exact refuse_sound h _
        · rename_i hn
          refine accept_sound h (Device.setStu_keeps fun k => ⟨k.time, k.frozen, k.captures, ?_⟩) rfl rfl
          exact Nat.le_trans (loadMarkers_length ms d.stu.markers) (Nat.le_of_not_lt hn)

theorem ctlMarkClear_sound {d : Device} (h : d.ctu = .free) (ts : List Tuple) : Carried.Sound d (ctlMarkClear ts d) := by
  unfold ctlMarkClear
  split
  · exact refuse_sound h _
  · exact accept_sound h (Device.setStu_keeps fun k => ⟨k.time, k.frozen, k.captures, Nat.zero_le _⟩) rfl rfl

/-- R1: the scene moves: to STOPPED only when it is not frozen. -/
theorem Device.moveScene_keeps {s : SceneState} {d : Device} (h : s = .stopped → d.stu.frozen = false) : d.Keeps (d.moveScene s) := by
  refine Device.Keeps.trans ?_ (Device.post_keeps _ _)
  refine Device.setStu_keeps fun k => ⟨k.time, fun hf hs => ?_, k.captures, k.markers⟩
  have hf' : d.stu.frozen = true := hf
  rw [h hs] at hf'
  cases hf'

theorem Voice.atGo_walked (v : Voice) : v.Walked v.atGo := .of_eq rfl rfl rfl rfl

theorem goState_ne_stopped (cond : StartCond) (primed : Bool) : goState cond primed ≠ .stopped := by
  unfold goState
  split <;> simp

theorem Device.go_keeps (cond : StartCond) (primed : Bool) (d : Device) : d.Keeps (d.go cond primed) := by
  refine Device.Keeps.trans ?_ (Device.moveScene_keeps fun h => absurd h (goState_ne_stopped cond primed))
  have hv : d.Keeps (d.setVoices (d.voices.map Voice.atGo)) := by
    refine Device.setVoices_keeps fun v => ?_
    have : (d.voices.map Voice.atGo)[v] = (d.voice v).atGo := by simp [Device.voice]
    rw [this]
    exact (d.voice v).atGo_walked.keeps
  refine (hv.trans (Device.setPorts_keeps _ (d.ports.map Port.atGo))).trans ?_
  exact Device.setStu_keeps fun k => ⟨Nat.zero_le _, k.frozen, k.captures, k.markers⟩

theorem ctlSceneGo_sound {d : Device} (h : d.ctu = .free) (ts : List Tuple) : Carried.Sound d (ctlSceneGo ts d) := by
  unfold ctlSceneGo
  dsimp only
  split
  · exact refuse_sound h _
  · split
    · exact refuse_sound h _
    · split
      · exact accept_sound h (d.go_keeps _ _) rfl rfl
      · split
        · exact refuse_sound h _
        · split
          · exact refuse_sound h _
          · exact accept_sound h (d.go_keeps _ _) rfl rfl

theorem ctlScenePause_sound {d : Device} (h : d.ctu = .free) (ts : List Tuple) : Carried.Sound d (ctlScenePause ts d) := by
  unfold ctlScenePause
  split
  · exact accept_sound h (Device.moveScene_keeps nofun) rfl rfl
  · exact refuse_sound h _

theorem ctlSceneResume_sound {d : Device} (h : d.ctu = .free) (ts : List Tuple) : Carried.Sound d (ctlSceneResume ts d) := by
  unfold ctlSceneResume
  split
  · exact accept_sound h (Device.moveScene_keeps nofun) rfl rfl
  · exact refuse_sound h _

theorem Device.stopScene_keeps (d : Device) : d.Keeps d.stopScene := by
  have hl : d.Keeps (d.changeLines (fun d => d.setLines (d.lines.map Line.abandonPulse))) := Device.changeLines_keeps (d.setLines_keeps _)
  have hv : (d.changeLines (fun d => d.setLines (d.lines.map Line.abandonPulse))).Keeps
      ((d.changeLines (fun d => d.setLines (d.lines.map Line.abandonPulse))).setVoices (d.voices.map Voice.flushAll)) := by
    refine Device.setVoices_keeps fun v => ?_
    have h₁ : (d.changeLines (fun d => d.setLines (d.lines.map Line.abandonPulse))).voice v = d.voice v :=
      Device.voice_of_voices (by simp [Device.changeLines]) v
    have h₂ : (d.voices.map Voice.flushAll)[v] = (d.voice v).flushAll := by simp [Device.voice]
    rw [h₁, h₂]
    exact (d.voice v).flushAll_keeps
  refine (hl.trans hv).trans (Device.setStu_keeps fun k => ⟨?_, nofun, ?_, Nat.zero_le _⟩)
  · simpa [Device.changeLines] using k.time
  · simpa [Device.changeLines] using k.captures

theorem ctlSceneStop_sound {d : Device} (h : d.ctu = .free) (ts : List Tuple) : Carried.Sound d (ctlSceneStop ts d) := by
  unfold ctlSceneStop
  have hb : d.stopScene.bli = d.bli := by simp [Device.stopScene, Device.changeLines]
  have hc : d.stopScene.ctu = d.ctu := by simp [Device.stopScene, Device.changeLines]
  split
  · exact accept_sound h d.stopScene_keeps (by rw [hb]) hc
  · refine accept_sound h (d.stopScene_keeps.trans (Device.moveScene_keeps fun _ => rfl)) ?_ hc
    exact congrArg Bli.replyQ hb

theorem ctlSceneFreeze_sound {d : Device} (h : d.ctu = .free) (ts : List Tuple) : Carried.Sound d (ctlSceneFreeze ts d) := by
  unfold ctlSceneFreeze
  split
  · exact refuse_sound h _
  · rename_i hs
    exact accept_sound h (Device.setStu_keeps fun k => ⟨k.time, fun _ => hs, k.captures, k.markers⟩) rfl rfl

/-! ### The controls of notices, memory and power -/

theorem ctlNoticeSet_sound {d : Device} (h : d.ctu = .free) (ts : List Tuple) : Carried.Sound d (ctlNoticeSet ts d) := by
  unfold ctlNoticeSet
  split
  · exact refuse_sound h _
  · split
    · exact refuse_sound h _
    · exact accept_sound h (d.setNtu_keeps _) rfl rfl

theorem ctlReportSet_sound {d : Device} (h : d.ctu = .free) (ts : List Tuple) : Carried.Sound d (ctlReportSet ts d) := by
  unfold ctlReportSet
  split
  · exact refuse_sound h _
  · exact accept_sound h (d.setNtu_keeps _) rfl rfl

/-! The end of a run leaves the link and the Control Unit. -/

@[simp] theorem Device.finishRun_bli (d : Device) : d.finishRun.bli = d.bli := rfl
@[simp] theorem Device.finishRun_ctu (d : Device) : d.finishRun.ctu = d.ctu := rfl
@[simp] theorem Device.setEngine_bli (e : Engine) (d : Device) : (d.setEngine e).bli = d.bli := rfl
@[simp] theorem Device.setEngine_ctu (e : Engine) (d : Device) : (d.setEngine e).ctu = d.ctu := rfl
@[simp] theorem Device.endRun_bli (cause : EndCause) (d : Device) : (d.endRun cause).bli = d.bli := by
  unfold Device.endRun
  dsimp only
  split <;> rfl
@[simp] theorem Device.endRun_ctu (cause : EndCause) (d : Device) : (d.endRun cause).ctu = d.ctu := by
  unfold Device.endRun
  dsimp only
  split <;> rfl
@[simp] theorem Device.endPass_bli (d : Device) : d.endPass.bli = d.bli := by
  unfold Device.endPass
  dsimp only
  split <;> simp
@[simp] theorem Device.endPass_ctu (d : Device) : d.endPass.ctu = d.ctu := by
  unfold Device.endPass
  dsimp only
  split <;> simp
@[simp] theorem Device.endSegment_bli (d : Device) : d.endSegment.bli = d.bli := by
  unfold Device.endSegment
  dsimp only
  split <;> simp
@[simp] theorem Device.endSegment_ctu (d : Device) : d.endSegment.ctu = d.ctu := by
  unfold Device.endSegment
  dsimp only
  split <;> simp
@[simp] theorem Device.advanceTest_bli (word : Nat) (d : Device) : (d.advanceTest word).bli = d.bli := by
  unfold Device.advanceTest
  dsimp only
  split
  · rfl
  · split <;> simp
@[simp] theorem Device.advanceTest_ctu (word : Nat) (d : Device) : (d.advanceTest word).ctu = d.ctu := by
  unfold Device.advanceTest
  dsimp only
  split
  · rfl
  · split <;> simp
@[simp] theorem Device.continueRun_bli (d : Device) : d.continueRun.bli = d.bli := by
  unfold Device.continueRun
  dsimp only
  split <;> simp
@[simp] theorem Device.continueRun_ctu (d : Device) : d.continueRun.ctu = d.ctu := by
  unfold Device.continueRun
  dsimp only
  split <;> simp

theorem ctlSelftest_sound {d : Device} (h : d.ctu = .free) (ts : List Tuple) : Carried.Sound d (ctlSelftest ts d) := by
  unfold ctlSelftest
  split
  · exact refuse_sound h _
  · unfold selftestStart
    split
    · exact refuse_sound h _
    · split
      · exact refuse_sound h _
      · split
        · exact refuse_sound h _
        · exact .of_keeps h (d.startRun_keeps _ _) rfl rfl
  · unfold selftestContinue
    split
    · exact accept_sound h d.continueRun_keeps (by simp) (by simp)
    · exact refuse_sound h _
  · unfold selftestStop
    split
    · rename_i hs _
      refine accept_sound h (Device.setEngine_keeps fun k => ⟨nofun, fun _ hg => k.granted (.inl hs) hg⟩) rfl rfl
    · exact accept_sound h (d.endRun_keeps _) (by simp) (by simp)
    · exact accept_sound h (d.endRun_keeps _) (by simp) (by simp)
    · exact accept_sound h (.refl d) rfl rfl
    · exact refuse_sound h _
  · exact refuse_sound h _

/-- R162: MEM_SET changes the refresh rate and the check-injection record alone. -/
theorem Smc.applyMems_frame (ms : List MemTuple) (s : Smc) :
    ∃ r i, ms.foldl Smc.applyMem s = { s with rate := r, injection := i } := by
  induction ms generalizing s with
  | nil => exact ⟨s.rate, s.injection, rfl⟩
  | cons m ms ih =>
    have h₁ : ∃ r i, s.applyMem m = { s with rate := r, injection := i } := by
      unfold Smc.applyMem
      split
      · exact ⟨_, s.injection, rfl⟩
      · split
        · exact ⟨s.rate, _, rfl⟩
        · exact ⟨s.rate, s.injection, rfl⟩
      · exact ⟨s.rate, none, rfl⟩
    obtain ⟨r, i, hs⟩ := h₁
    obtain ⟨r', i', hs'⟩ := ih (s.applyMem m)
    exact ⟨r', i', by rw [List.foldl_cons, hs', hs]⟩

theorem ctlMemSet_sound {d : Device} (h : d.ctu = .free) (ts : List Tuple) : Carried.Sound d (ctlMemSet ts d) := by
  unfold ctlMemSet
  split
  · exact refuse_sound h _
  · rename_i ms _
    split
    · exact refuse_sound h _
    · dsimp only
      obtain ⟨r, i, hs⟩ := Smc.applyMems_frame ms d.smc
      rw [hs]
      exact accept_sound h (Device.setSmc_keeps (fun k => k.congr rfl rfl rfl) id) rfl rfl

/-- R175: a control closes the Control Unit. -/
theorem closed_sound (d : Device) (why : Closing) (fs : List Field) : Carried.Sound d (accept (d.setCtu (.closed why false)) fs) :=
  ⟨Device.setCtu_keeps fun k => ⟨k.samples, k.controls, k.replies, nofun, k.flow⟩, rfl, fun _ _ _ => nofun⟩

theorem ctlPower_sound {d : Device} (h : d.ctu = .free) (ts : List Tuple) : Carried.Sound d (ctlPower ts d) := by
  unfold ctlPower
  split
  · exact refuse_sound h _
  · unfold powerAction
    split
    · split
      · exact refuse_sound h _
      · exact accept_sound h d.enterStandby_keeps rfl rfl
    · split
      · exact refuse_sound h _
      · exact closed_sound d _ _
    · exact accept_sound h (Device.setPwc_keeps (fun k => k.congr rfl rfl rfl) id) rfl rfl
    · exact refuse_sound h _

/-! ### The Control Unit takes controls (R165) -/

theorem controlOf_sound {d : Device} (h : d.ctu = .free) (hroom : d.bli.replyQ.length < 4) {tag : BitVec 16} {code : Nat}
    {f : List Tuple → Device → Carried} (hf : controlOf tag code = some f) (ts : List Tuple) : Carried.Sound d (f ts d) := by
  unfold controlOf at hf
  split at hf <;> cases hf
  · exact ctlIdent_sound h ts
  · exact ctlQuery_sound h ts
  · exact ctlCaptureRead_sound h ts
  · exact ctlTakeOpen_sound h ts
  · exact ctlTakeClose_sound h ts
  · exact ctlTakeDrop_sound h ts
  · exact ctlTakeVerify_sound h ts
  · exact ctlTakePeek_sound h hroom tag ts
  · exact ctlStreamBind_sound h ts
  · exact ctlStreamUnbind_sound h ts
  · exact ctlCueLoad_sound h ts
  · exact ctlCueFlush_sound h ts
  · exact ctlVoiceSet_sound h ts
  · exact ctlPortSet_sound h ts
  · exact ctlLineSet_sound h ts
  · exact ctlMarkLoad_sound h ts
  · exact ctlMarkClear_sound h ts
  · exact ctlSceneGo_sound h ts
  · exact ctlScenePause_sound h ts
  · exact ctlSceneResume_sound h ts
  · exact ctlSceneStop_sound h ts
  · exact ctlSceneFreeze_sound h ts
  · exact ctlNoticeSet_sound h ts
  · exact ctlReportSet_sound h ts
  · exact ctlSelftest_sound h ts
  · exact ctlMemSet_sound h ts
  · exact ctlPower_sound h ts
  · exact closed_sound d _ _

theorem carryOut_sound {d : Device} (h : d.ctu = .free) (hroom : d.bli.replyQ.length < 4) (c : CtlPkt) :
    Carried.Sound d (carryOut c d) := by
  unfold carryOut
  split
  · exact refuse_sound h _
  · rename_i f hf
    split
    · exact refuse_sound h _
    · exact controlOf_sound h hroom hf _

/-- R165, R166: a FREE Control Unit with room for a reply carries out a control. -/
theorem Device.execControl_keeps {d : Device} (h : d.ctu = .free) (hroom : d.bli.replyQ.length < 4) (c : CtlPkt) :
    d.Keeps (d.execControl c) := by
  obtain ⟨hk, hr, ha⟩ := carryOut_sound h hroom c
  unfold Device.execControl
  split
  · rename_i w a hw
    rw [hw] at hk hr ha
    replace hr : w.bli.replyQ = d.bli.replyQ := hr
    refine (hk.trans (Device.setBli_keeps fun k => ?_)).trans (Device.grant_keeps _)
    refine ⟨k.samples, k.controls, ?_, fun p st hp => absurd hp (ha rfl p st), k.flow⟩
    simp only [Device.setBli_bli, List.length_append, List.length_singleton, hr]
    exact hroom
  · rename_i w hw
    rw [hw] at hk
    exact hk.trans (Device.grant_keeps _)

theorem Device.mayTake_iff (d : Device) : d.mayTake = true ↔ d.ctu = .free ∧ d.bli.replyQ.length < 4 ∧ d.pwc.power = .active := by
  simp only [Device.mayTake, Bool.and_eq_true, decide_eq_true_eq, and_assoc]
  exact Iff.rfl

theorem takeControls_keeps (fuel : Nat) (d : Device) : d.Keeps (takeControls fuel d) := by
  induction fuel generalizing d with
  | zero => exact .refl d
  | succ fuel ih =>
    unfold takeControls
    split
    · exact .refl d
    · rename_i c rest hq
      split
      · rename_i hm
        obtain ⟨hfree, hroom, -⟩ := d.mayTake_iff.1 hm
        have h₁ : d.Keeps (d.setBli { d.bli with controlQ := rest }) := Device.setBli_keeps fun k => by
          refine ⟨k.samples, ?_, k.replies, k.owed, k.flow⟩
          have := k.controls
          rw [hq, List.length_cons] at this
          exact Nat.le_of_succ_le this
        exact (h₁.trans (Device.execControl_keeps (d := d.setBli { d.bli with controlQ := rest }) hfree hroom c)).trans (ih _)
      · exact .refl d

theorem Device.runCtu_keeps (d : Device) : d.Keeps d.runCtu := takeControls_keeps _ d

end Sys2Proof.Machine
end

section
/-! PROOFS. What the link, the resets, the power events, the ticks and the completions keep of the invariants, and so every step (O54 to O59). -/

namespace Sys2Proof.Machine

/-! ### The link (R179 to R187, R190) -/

theorem Device.receive_keeps (p : Packet) (d : Device) : d.Keeps (d.receive p) := by
  unfold Device.receive
  split
  · exact .refl d
  · split
    · unfold Device.hearsAsleep
      exact (d.wakeUp_keeps .link).ite
    · unfold Device.hears
      split
      · exact d.reloadQuiet_keeps.trans (Device.post_keeps _ _)
      · dsimp only
        have h := d.reloadQuiet_keeps.trans (Device.queuePacket_keeps p _)
        split
        · exact h.trans (Device.wakeUp_keeps _ _)
        · exact h.trans (Device.runCtu_keeps _)

/-- R175: the sending of a reply makes no Control Unit hold a peek. -/
theorem closingReply_holding {rest : List Reply} {c : Ctu} {p : PeekReq} {k : Stage} (h : closingReply rest c = .holding p k) :
    c = .holding p k := by
  unfold closingReply at h
  split at h
  · cases h
  · exact h

theorem Device.sendReply_keeps (d : Device) : d.Keeps d.sendReply := by
  unfold Device.sendReply
  split
  · exact .refl d
  · rename_i r rest hq
    split
    · dsimp only
      refine Device.Keeps.trans ?_ (Device.runCtu_keeps _)
      have h₁ := d.gap_keeps.trans (Device.sending_keeps (.reply r) _)
      have h₂ : (d.gap.sending (.reply r)).Keeps ((d.gap.sending (.reply r)).setCtu (closingReply rest d.ctu)) :=
        Device.setCtu_keeps fun k => ⟨k.samples, k.controls, k.replies, fun p st hp => k.owed p st (closingReply_holding hp), k.flow⟩
      refine (h₁.trans h₂).trans (Device.setBli_keeps fun k => ⟨k.samples, k.controls, ?_, fun p st hp => ?_, k.flow⟩)
      · have hr : d.bli.replyQ.length ≤ 4 := k.replies
        rw [hq, List.length_cons] at hr
        exact Nat.le_of_succ_le hr
      · have hr : d.bli.replyQ.length < 4 := k.owed p st hp
        rw [hq, List.length_cons] at hr
        exact Nat.lt_of_succ_lt hr
    · exact .refl d

theorem Device.clearReported_keeps (s : Fin 43) (d : Device) : d.Keeps (d.clearReported s) := by
  unfold Device.clearReported
  split
  · rename_i v _
    have h : (d.voice v).Walked { d.voice v with concealReported := false } := .of_eq rfl rfl rfl rfl
    exact Device.Keeps.ite (Device.setVoice_keeps h.keeps)
  · exact .refl d

theorem Device.sendNotice_keeps (d : Device) : d.Keeps d.sendNotice := by
  unfold Device.sendNotice
  split
  · split
    · exact .refl d
    · split
      · exact ((d.gap_keeps.trans (Device.sending_keeps _ _)).trans (Device.setNtu_keeps _ _)).trans (Device.clearReported_keeps _ _)
      · exact .refl d
  · exact .refl d

theorem Device.sendReport_keeps (d : Device) : d.Keeps d.sendReport := by
  unfold Device.sendReport
  split
  · split
    · exact (d.gap_keeps.trans (Device.sending_keeps _ _)).trans (Device.setNtu_keeps _ _)
    · exact .refl d
  · exact .refl d

theorem Device.sendSymbol_keeps (d : Device) : d.Keeps d.sendSymbol := d.gap_keeps.ite

theorem Device.sleepNow_keeps (d : Device) : d.Keeps d.sleepNow := by
  unfold Device.sleepNow
  split
  · exact d.enterSleep_keeps.ite
  · exact .refl d

/-! ### Resets (R191) -/

theorem Device.voice_reset {d : Device} (h : d.voices = Vector.ofFn Voice.reset) (v : Fin 32) : d.voice v = Voice.reset v := by
  simp [Device.voice, h]

/-- R19, R49, R165, R186: what the blocks that every reset clears fit. -/
theorem Device.reset_fits {d : Device} (hb : d.bli = Bli.reset) (hc : d.ctu = .free) (hs : d.stu = Stu.reset)
    (hv : d.voices = Vector.ofFn Voice.reset) :
    d.LinkFits ∧ d.SceneFits ∧ d.IdleExactlyWhenEmpty ∧ d.CueListsFit ∧ d.CodesFit ∧ d.CuedTakesHeld := by
  have hvoice := Device.voice_reset hv
  refine ⟨⟨?_, ?_, ?_, ?_, ?_⟩, ⟨?_, ?_, ?_, ?_⟩, fun v => ?_, fun v => ?_, fun v => ?_, fun v c hm => ?_⟩
  · rw [hb]; exact Nat.zero_le _
  · rw [hb]; exact Nat.zero_le _
  · rw [hb]; exact Nat.zero_le _
  · rw [hc]; exact nofun
  · rw [hb]; exact (Bli.flowFits_iff _).2 ⟨nofun, fun _ => by simp [Bli.reset]⟩
  · rw [hs]; exact Nat.zero_le _
  · rw [hs]; exact nofun
  · rw [hs]; exact Nat.zero_le _
  · rw [hs]; exact Nat.zero_le _
  · rw [hvoice]; exact (Voice.reset_fits v).1
  · rw [hvoice, (Voice.reset_fits v).2.2]; exact Nat.zero_le _
  · rw [hvoice]; exact (Voice.reset_fits v).2.1
  · rw [hvoice, (Voice.reset_fits v).2.2] at hm; cases hm

/-- R131, R132: an unbound directory agrees with an empty stream table. -/
theorem Device.streamsAgree_empty {d : Device} (hs : d.siu.entries = []) (ht : ∀ t, (d.take t).tag = none) : d.StreamsAgree :=
  ⟨by simp [hs], by simp [hs], by simp [hs], fun t g hg => by rw [ht] at hg; cases hg⟩

theorem Device.warmBlocks_take (d : Device) (x : Pwc) (t : Fin 64) : (d.warmBlocks.setPwc x).take t = (d.take t).warm := by
  simp [Device.take, Device.warmBlocks, Tks.warm]

/-- R191: what the blocks' warm reset keeps, with a power record in order. -/
theorem Device.warmBlocks_keeps {d : Device} {x : Pwc} (hp : x.power ≠ .active → d.pwc.power ≠ .active)
    (hw : d.WakingHasCause → x.power = .waking → x.wakeCause ≠ none ∧ x.left ≠ none) : d.Keeps (d.warmBlocks.setPwc x) := by
  obtain ⟨h₁, h₂, h₃, h₄, h₅, h₆⟩ := Device.reset_fits (d := d.warmBlocks.setPwc x) rfl rfl rfl rfl
  exact {
    link := fun _ => h₁
    scene := fun _ => h₂
    refresh := fun k => ⟨k.debt, fun h => k.asleep (hp h)⟩
    waking := hw
    run := fun _ => Engine.runFits_of_stage nofun nofun
    idle := fun _ => h₃
    cues := fun _ => h₄
    codes := fun _ => h₅
    cued := fun _ => h₆
    segments := fun k => k.congr fun t => by rw [Device.warmBlocks_take]; rfl
    streams := fun _ => Device.streamsAgree_empty rfl fun t => by rw [Device.warmBlocks_take]; rfl }

theorem Device.warmReset_keeps (cause : ResetCause) (d : Device) : d.Keeps (d.warmReset cause) := by
  refine Device.Keeps.trans (Device.warmBlocks_keeps ?_ ?_) (Device.grant_keeps _)
  · unfold Pwc.warm
    split
    · exact fun h => absurd rfl h
    · exact fun _ => by assumption
  · unfold Pwc.warm
    split
    · exact fun _ => nofun
    · exact fun _ _ => ⟨nofun, nofun⟩

theorem Device.assertRstn_keeps (d : Device) : d.Keeps d.assertRstn := by
  refine Device.Keeps.trans ?_ (Device.grant_keeps _)
  exact Device.warmBlocks_keeps id fun h => h

theorem Device.resetNow_keeps (d : Device) : d.Keeps d.resetNow := by
  unfold Device.resetNow
  split
  · exact d.warmReset_keeps _
  · exact .refl d

/-- R191: a cold reset meets every invariant, whatever stood before it. -/
theorem Device.cold_keeps (d : Device) (cause : ResetCause) (bench : Fin 8 → Bool) {x : Pwc} (hx : x.power = .active) :
    d.Keeps ((Device.cold cause bench).setPwc x) := by
  obtain ⟨h₁, h₂, h₃, h₄, h₅, h₆⟩ := Device.reset_fits (d := (Device.cold cause bench).setPwc x) rfl rfl rfl rfl
  have ht : ∀ t, ((Device.cold cause bench).setPwc x).take t = Take.free Verify.none := fun t => by
    simp [Device.take, Device.cold, Tks.reset]
  exact {
    link := fun _ => h₁
    scene := fun _ => h₂
    refresh := fun _ => ⟨Nat.zero_le _, fun h => absurd hx h⟩
    waking := fun _ h => by
      have h' : x.power = .waking := h
      rw [hx] at h'
      cases h'
    run := fun _ => Engine.runFits_of_stage nofun nofun
    idle := fun _ => h₃
    cues := fun _ => h₄
    codes := fun _ => h₅
    cued := fun _ => h₆
    segments := fun _ => ⟨fun t => by rw [ht]; exact List.nodup_nil, fun t u _ g hg => by rw [ht] at hg; cases hg⟩
    streams := fun _ => Device.streamsAgree_empty rfl fun t => by rw [ht]; rfl }

theorem Device.coldReset_keeps (cause : ResetCause) (d : Device) : d.Keeps (d.coldReset cause) :=
  d.cold_keeps cause (fun l => (d.line l).bench) (x := Pwc.reset cause) rfl

theorem Device.powerOn_keeps (d : Device) : d.Keeps d.powerOn := d.cold_keeps .powerOn (fun l => (d.line l).bench) rfl

/-! ### Power events (R149, R150, R189, R190) -/

theorem Device.postWoke_keeps (d : Device) : d.Keeps d.postWoke := by
  unfold Device.postWoke
  split
  · exact d.post_keeps _
  · exact .refl d

theorem Ctu.opened_holding {c : Ctu} {p : PeekReq} {k : Stage} (h : c.opened = .holding p k) : c = .holding p k := by
  unfold Ctu.opened at h
  split at h
  · cases h
  · exact h

theorem Device.exitEnds_keeps (d : Device) : d.Keeps d.exitEnds := by
  have h₁ : d.Keeps (d.setPwc { d.pwc with power := .active }) :=
    Device.setPwc_keeps (fun k => ⟨k.debt, fun h => absurd rfl h⟩) fun _ => nofun
  have h₂ : (d.setPwc { d.pwc with power := .active }).Keeps
      ((d.setPwc { d.pwc with power := .active }).setSmc { d.smc with timerOn := true, debt := 0 }) :=
    Device.setSmc_keeps (fun _ => ⟨Nat.zero_le _, fun h => absurd rfl h⟩) id
  have h₃ : ∀ e : Device, e.ctu = d.ctu → e.Keeps (e.setCtu d.ctu.opened) := fun e he => Device.setCtu_keeps fun k =>
    ⟨k.samples, k.controls, k.replies, fun p st hp => k.owed p st (he.trans (Ctu.opened_holding hp)), k.flow⟩
  exact ((((h₁.trans h₂).trans (h₃ _ rfl)).trans (Device.postWoke_keeps _)).trans (Device.grant_keeps _)).trans (Device.runCtu_keeps _)

theorem Device.exitCompletes_keeps (d : Device) : d.Keeps d.exitCompletes := d.exitEnds_keeps.ite

theorem Device.quietExpires_keeps (d : Device) : d.Keeps d.quietExpires := d.enterStandby_keeps.ite

theorem Device.reinitCompletes_keeps (d : Device) : d.Keeps d.reinitCompletes := by
  refine Device.Keeps.ite (Device.Keeps.trans ?_ (Device.grant_keeps _))
  refine Device.setSmc_keeps (fun k => ⟨k.debt, fun h => ⟨(k.asleep h).1, ?_⟩⟩) id
  exact decide_eq_false h

theorem Device.intervalElapses_keeps (d : Device) : d.Keeps d.intervalElapses := by
  unfold Device.intervalElapses
  split
  · rename_i ht
    refine Device.Keeps.trans ?_ (Device.grant_keeps _)
    unfold Device.refreshElapses
    split
    · rename_i hd
      refine Device.setSmc_keeps (fun k => ⟨hd, fun h => ?_⟩) id
      have := (k.asleep h).2
      rw [ht] at this
      cases this
    · split
      · exact .refl d
      · exact d.post_keeps _
  · exact .refl d

/-! ### A scene tick (R2, R3) -/

theorem Device.appendCapture_keeps (d : Device) (c : Capture) : d.Keeps (d.appendCapture c) := by
  unfold Device.appendCapture
  split
  · rename_i hn
    dsimp only
    have h : d.Keeps (d.setStu { d.stu with captures := d.stu.captures ++ [c] }) := by
      refine Device.setStu_keeps fun k => ⟨k.time, k.frozen, ?_, k.markers⟩
      simp only [Device.setStu_stu, List.length_append, List.length_singleton]
      exact hn
    split
    · exact h.trans (Device.post_keeps _ _)
    · exact h
  · exact Device.setStu_keeps fun k => ⟨k.time, k.frozen, k.captures, k.markers⟩

theorem Device.capture_keeps (kind : SceneState) (d : Device) (t : Taken) : d.Keeps (d.capture kind t) := (d.appendCapture_keeps _).ite

theorem Device.openTick_keeps (d : Device) : d.Keeps d.openTick := by
  have h₁ : d.Keeps (d.clearEdges.latchGo (d.firedLines d.pendingEdges)) := by
    refine Device.Keeps.trans (d.setLines_keeps _) (Device.Keeps.ite ?_)
    exact Device.setStu_keeps fun k => ⟨k.time, k.frozen, k.captures, k.markers⟩
  have h₂ : ∀ e : Device, e.Keeps e.enterRunning := fun e =>
    Device.Keeps.trans (e := e.setStu { e.stu with go := none })
      (Device.setStu_keeps fun k => ⟨k.time, k.frozen, k.captures, k.markers⟩) (Device.moveScene_keeps nofun)
  exact (h₁.trans (h₂ _).ite).trans (Device.keeps_foldl (Device.capture_keeps _) _ _)

theorem Device.actMarkers_keeps (d : Device) : d.Keeps d.actMarkers := by
  refine Device.Keeps.trans ?_ (Device.keeps_foldl (fun e m => e.setLine_keeps _ _) _ _)
  exact Device.setStu_keeps fun k => ⟨k.time, k.frozen, k.captures, Nat.le_trans (List.length_filter_le _ _) k.markers⟩

theorem Device.tickLatches_keeps (d : Device) : d.Keeps d.tickLatches :=
  Device.changeLines_keeps ((d.setLines_keeps _).trans (Device.actMarkers_keeps _))

theorem Device.judgeDrained_keeps (d : Device) : d.Keeps d.judgeDrained := by
  unfold Device.judgeDrained
  split
  · refine Device.Keeps.trans ?_ (Device.post_keeps _ _)
    exact Device.setStu_keeps fun k => ⟨k.time, k.frozen, k.captures, k.markers⟩
  · exact .refl d

theorem Handing.voice_keeps (kind : SceneState) (fired : List (Fin 8)) (h : Handing) (v : Fin 32) :
    h.dev.Keeps (h.voice kind fired v).dev := by
  let p := (h.dev.voice v).tick (h.dev.ctx v) kind fired
  have h₁ : h.dev.Keeps ((h.dev.setVoice v p.voice).postAll p.events) :=
    (Device.setVoice_keeps (Voice.tick_keeps (h.dev.ctx v) kind fired (h.dev.voice v))).trans (Device.postAll_keeps _ _)
  refine h₁.trans (Device.Keeps.ite ?_)
  exact Device.setStu_keeps fun k => ⟨k.time, k.frozen, k.captures, k.markers⟩

theorem Device.playVoices_keeps (kind : SceneState) (fired : List (Fin 8)) (d : Device) : d.Keeps (d.playVoices kind fired).dev := by
  have key : ∀ (vs : List (Fin 32)) (h : Handing), h.dev.Keeps (vs.foldl (Handing.voice kind fired) h).dev := by
    intro vs
    induction vs with
    | nil => exact fun h => .refl _
    | cons v vs ih => exact fun h => (h.voice_keeps kind fired v).trans (ih _)
  exact key allVoices ⟨d, []⟩

theorem Handing.deliver_keeps (kind : SceneState) (h : Handing) : h.dev.Keeps (h.deliver kind) :=
  Device.keeps_foldl (fun e i => (e.setPort_keeps i _).trans (Device.postAll_keeps _ _)) _ _

theorem Device.runTick_keeps (fired : List (Fin 8)) (d : Device) : d.Keeps (d.runTick fired) := by
  unfold Device.runTick
  dsimp only
  have h₁ := (((d.judgeDrained_keeps.trans (Device.tickLatches_keeps _)).trans (Device.playVoices_keeps .running fired _)).trans
    (Handing.deliver_keeps .running _))
  have h₂ : ∀ e : Device, e.Keeps (e.formReport e.stu.time) := fun e => (e.setNtu_keeps _).ite
  have h₃ : ∀ e : Device, e.Keeps e.advanceTime := fun e =>
    Device.setStu_keeps fun k => ⟨Nat.min_le_left _ _, k.frozen, k.captures, k.markers⟩
  exact (h₁.trans (h₂ _)).trans (h₃ _)

theorem Device.sceneTick_keeps (d : Device) : d.Keeps d.sceneTick := by
  unfold Device.sceneTick
  dsimp only
  refine Device.Keeps.trans (d.openTick_keeps.trans ?_) (Device.grant_keeps _)
  split
  · exact Device.runTick_keeps _ _
  · exact (Device.playVoices_keeps _ [] _).trans (Handing.deliver_keeps _ _)

theorem Device.sclkPeriod_keeps (d : Device) : d.Keeps d.sclkPeriod := by
  unfold Device.sclkPeriod
  split
  · exact d.sceneTick_keeps
  · exact d.setPorts_keeps _

theorem Device.tickIf_keeps (due : Bool) (d : Device) : d.Keeps (d.tickIf due) := d.sceneTick_keeps.ite

/-! ### Completions at the store port (R60, R126, R128, R138, R149, R154, R158) -/

theorem fetchCompletes_keeps (m : List Host.Cell) (d : Device) : d.Keeps (fetchCompletes m d) := by
  unfold fetchCompletes
  split
  · refine Device.Keeps.trans ?_ (Device.freePort_keeps _)
    exact Device.Keeps.ite (Device.onVoice_keeps (Voice.completed_keeps _ _ _ _ _))
  · exact .refl d

theorem verifyCompletes_keeps (m : List Host.Cell) (d : Device) : d.Keeps (verifyCompletes m d) := by
  unfold verifyCompletes
  split
  · exact (d.verifyRead_keeps _).ite.trans (Device.freePort_keeps _)
  · exact .refl d

theorem Device.takePeek_keeps (b : Block) (d : Device) : d.Keeps (d.takePeek b) := by
  unfold Device.takePeek
  split
  · rename_i p hc
    exact {
      link := fun k => by
        refine ⟨k.samples, k.controls, ?_, nofun, k.flow⟩
        simp only [Device.setCtu_bli, Device.pushReply, Device.setBli_bli, List.length_append, List.length_singleton]
        exact k.owed p .granted hc
      scene := fun k => k.congr rfl
      refresh := fun k => k.congr rfl rfl rfl
      waking := id
      run := id
      idle := id
      cues := id
      codes := id
      cued := id
      segments := fun k => k.congr fun _ => rfl
      streams := fun k => k.congr rfl (fun _ => rfl) fun _ => rfl }
  · exact .refl d

theorem peekCompletes_keeps (m : List Host.Cell) (d : Device) : d.Keeps (peekCompletes m d) := by
  unfold peekCompletes
  split
  · exact ((d.takePeek_keeps _).trans (Device.freePort_keeps _)).trans (Device.runCtu_keeps _)
  · exact .refl d

theorem refreshCompletes_keeps (d : Device) : d.Keeps (refreshCompletes d) := by
  unfold refreshCompletes
  split
  · exact d.freePort_keeps
  · exact .refl d

theorem intakeCompletes_keeps (x : Testing) : x.dev.Keeps (intakeCompletes x).dev := by
  unfold intakeCompletes
  split
  · refine Device.Keeps.trans ?_ (Device.freePort_keeps _)
    unfold Device.takeIntake
    split
    · exact Device.intakeWritten_keeps _ _
    · exact .refl _
  · exact .refl _

theorem selftestCompletes_keeps (upsets : List (Nat × BitVec 64)) (x : Testing) : x.dev.Keeps (selftestCompletes upsets x).dev := by
  unfold selftestCompletes
  split
  · exact (Testing.complete_keeps _ _ _ upsets x).trans (Device.freePort_keeps _)
  · exact .refl _

theorem clearingCompletes_keeps (x : Testing) : x.dev.Keeps (clearingCompletes x).dev := by
  unfold clearingCompletes
  split
  · exact (Device.cleared_keeps _).trans (Device.freePort_keeps _)
  · exact .refl _

theorem releasesCold_keeps (x : Testing) : x.dev.Keeps (releasesCold x).dev := x.dev.coldReset_keeps _

theorem releasesWarm_keeps (x : Testing) : x.dev.Keeps (releasesWarm x).dev := by
  unfold releasesWarm
  split
  · exact releasesCold_keeps x
  · exact x.dev.warmReset_keeps _

/-! ### Every command -/

/-- What a command does to a device whose store holds `m`, when it acts on the device alone: a packet's arrival, a control's being one,
or an event of its own. -/
inductive DeviceAct (m : List Host.Cell) : (Device → Device) → Prop where
  | receive (p : Packet) : DeviceAct m (Device.receive p)
  | sendSymbol : DeviceAct m Device.sendSymbol
  | sendReply : DeviceAct m Device.sendReply
  | sendNotice : DeviceAct m Device.sendNotice
  | sendReport : DeviceAct m Device.sendReport
  | sleepNow : DeviceAct m Device.sleepNow
  | resetNow : DeviceAct m Device.resetNow
  | sclkPeriod : DeviceAct m Device.sclkPeriod
  | pulseDue (l : Fin 8) : DeviceAct m (fun d => d.tickIf (d.pulseDue l))
  | stepDue (v : Fin 32) : DeviceAct m (fun d => d.tickIf (d.stepDue v))
  | reportNext : DeviceAct m (fun d => d.tickIf d.reportNext)
  | benchDrives (l : Fin 8) (level : Bool) : DeviceAct m (Device.benchDrives l level)
  | deliverZero : DeviceAct m Device.deliverZero
  | fetchCompletes : DeviceAct m (fetchCompletes m)
  | intakeJudges : DeviceAct m Device.intakeJudges
  | verifyCompletes : DeviceAct m (verifyCompletes m)
  | peekCompletes : DeviceAct m (peekCompletes m)
  | intervalElapses : DeviceAct m Device.intervalElapses
  | refreshCompletes : DeviceAct m refreshCompletes
  | exitCompletes : DeviceAct m Device.exitCompletes
  | quietExpires : DeviceAct m Device.quietExpires
  | reinitCompletes : DeviceAct m Device.reinitCompletes
  | assertRstn : DeviceAct m Device.assertRstn

/-- What the six commands that act on the store do. -/
inductive StoreAct : Instr → (Testing → Testing) → Prop where
  | intakeCompletes : StoreAct .intakeWriteComplete intakeCompletes
  | selftestCompletes (upsets : List (Nat × BitVec 64)) : StoreAct (.selftestStepComplete upsets) (selftestCompletes upsets)
  | clearingCompletes : StoreAct .clearingWriteComplete clearingCompletes
  | powersOn : StoreAct .powerOn powersOn
  | releasesCold : StoreAct .coldReset releasesCold
  | releasesWarm : StoreAct .warmReset releasesWarm

/-- Every command acts on the device alone, or is one of the six that act on the store. -/
theorem exec_acts (c : Instr) (s : State) :
    (∃ f, DeviceAct s.mem f ∧ exec c s = onDevice f s) ∨ (∃ f, StoreAct c f ∧ exec c s = onStore f s) := by
  cases c
  case intakeWriteComplete => exact .inr ⟨_, .intakeCompletes, rfl⟩
  case selftestStepComplete upsets => exact .inr ⟨_, .selftestCompletes upsets, rfl⟩
  case clearingWriteComplete => exact .inr ⟨_, .clearingCompletes, rfl⟩
  case powerOn => exact .inr ⟨_, .powersOn, rfl⟩
  case coldReset => exact .inr ⟨_, .releasesCold, rfl⟩
  case warmReset => exact .inr ⟨_, .releasesWarm, rfl⟩
  case flowSymbolSend => exact .inl ⟨_, .sendSymbol, rfl⟩
  case replySend => exact .inl ⟨_, .sendReply, rfl⟩
  case noticeSend => exact .inl ⟨_, .sendNotice, rfl⟩
  case reportSend => exact .inl ⟨_, .sendReport, rfl⟩
  case sleepEntry => exact .inl ⟨_, .sleepNow, rfl⟩
  case resetReplySent => exact .inl ⟨_, .resetNow, rfl⟩
  case sceneTick => exact .inl ⟨_, .sclkPeriod, rfl⟩
  case pulseEnd l => exact .inl ⟨_, .pulseDue l, rfl⟩
  case rampStep v => exact .inl ⟨_, .stepDue v, rfl⟩
  case reportDue => exact .inl ⟨_, .reportNext, rfl⟩
  case benchLineEdge l level => exact .inl ⟨_, .benchDrives l level, rfl⟩
  case sclkPeriodNoTick => exact .inl ⟨_, .deliverZero, rfl⟩
  case fetchComplete => exact .inl ⟨_, .fetchCompletes, rfl⟩
  case intakeJudgement => exact .inl ⟨_, .intakeJudges, rfl⟩
  case verifyReadComplete => exact .inl ⟨_, .verifyCompletes, rfl⟩
  case peekReadComplete => exact .inl ⟨_, .peekCompletes, rfl⟩
  case refreshInterval => exact .inl ⟨_, .intervalElapses, rfl⟩
  case refreshComplete => exact .inl ⟨_, .refreshCompletes, rfl⟩
  case selfRefreshExitEnd => exact .inl ⟨_, .exitCompletes, rfl⟩
  case quietTimerExpiry => exact .inl ⟨_, .quietExpires, rfl⟩
  case dramReinitEnd => exact .inl ⟨_, .reinitCompletes, rfl⟩
  case rstnAssert => exact .inl ⟨_, .assertRstn, rfl⟩
  all_goals exact .inl ⟨_, .receive _, rfl⟩

theorem DeviceAct.keeps {m : List Host.Cell} {f : Device → Device} (h : DeviceAct m f) (d : Device) : d.Keeps (f d) := by
  cases h with
  | receive p => exact d.receive_keeps p
  | sendSymbol => exact d.sendSymbol_keeps
  | sendReply => exact d.sendReply_keeps
  | sendNotice => exact d.sendNotice_keeps
  | sendReport => exact d.sendReport_keeps
  | sleepNow => exact d.sleepNow_keeps
  | resetNow => exact d.resetNow_keeps
  | sclkPeriod => exact d.sclkPeriod_keeps
  | pulseDue l => exact d.tickIf_keeps _
  | stepDue v => exact d.tickIf_keeps _
  | reportNext => exact d.tickIf_keeps _
  | benchDrives l level => exact d.benchDrives_keeps l level
  | deliverZero => exact d.setPorts_keeps _
  | fetchCompletes => exact fetchCompletes_keeps m d
  | intakeJudges => exact d.judgeHead_keeps.trans (Device.grant_keeps _)
  | verifyCompletes => exact verifyCompletes_keeps m d
  | peekCompletes => exact peekCompletes_keeps m d
  | intervalElapses => exact d.intervalElapses_keeps
  | refreshCompletes => exact refreshCompletes_keeps d
  | exitCompletes => exact d.exitCompletes_keeps
  | quietExpires => exact d.quietExpires_keeps
  | reinitCompletes => exact d.reinitCompletes_keeps
  | assertRstn => exact d.assertRstn_keeps

theorem StoreAct.keeps {c : Instr} {f : Testing → Testing} (h : StoreAct c f) (x : Testing) : x.dev.Keeps (f x).dev := by
  cases h with
  | intakeCompletes => exact intakeCompletes_keeps x
  | selftestCompletes upsets => exact selftestCompletes_keeps upsets x
  | clearingCompletes => exact clearingCompletes_keeps x
  | powersOn => exact x.dev.powerOn_keeps
  | releasesCold => exact releasesCold_keeps x
  | releasesWarm => exact releasesWarm_keeps x

/-- Every command keeps what an operation keeps. -/
theorem exec_keeps {c : Instr} {s t : State} (h : exec c s = .next t) : s.dev.Keeps t.dev := by
  rcases exec_acts c s with ⟨f, hf, he⟩ | ⟨f, hf, he⟩
  · rw [he] at h
    cases h
    exact hf.keeps s.dev
  · rw [he] at h
    cases h
    exact hf.keeps ⟨s.dev, s.mem⟩

/-- A step idles, or is the command at the front of the queue. -/
theorem step_cases {s t : State} (h : step s = .next t) : t = s ∨ ∃ c rest, exec c (s.setPending rest) = .next t := by
  unfold step at h
  split at h
  · cases h
    exact .inl rfl
  · exact .inr ⟨_, _, h⟩

/-- Every step keeps what an operation keeps. -/
theorem step_keeps {s t : State} (h : step s = .next t) : s.dev.Keeps t.dev := by
  rcases step_cases h with rfl | ⟨c, rest, hc⟩
  · exact .refl _
  · exact exec_keeps (s := s.setPending rest) hc

end Sys2Proof.Machine

open Sys2Proof Sys2Proof.Machine

/-- Settles O54: every operation keeps the link's invariant, by `Device.Keeps`. -/
theorem linkQueuesStayFit : Obligations.LinkQueuesStayFit := fun _ _ hs h => (step_keeps h).link hs

/-- Settles O55: every operation keeps the invariants of the scene, of refresh, of waking and of the self-test run. -/
theorem sceneAndRefreshStayFit : Obligations.SceneAndRefreshStayFit :=
  ⟨⟨fun _ _ hs h => (step_keeps h).scene hs, fun _ _ hs h => (step_keeps h).refresh hs⟩,
    fun _ _ hs h => (step_keeps h).waking hs, fun _ _ hs h => (step_keeps h).run hs⟩

/-- Settles O56: every operation on a voice keeps the agreement of state and list, the list's length and the codes. -/
theorem voiceRegistersStayFit : Obligations.VoiceRegistersStayFit :=
  ⟨fun _ _ hs h => (step_keeps h).idle hs, fun _ _ hs h => (step_keeps h).cues hs, fun _ _ hs h => (step_keeps h).codes hs⟩

/-- Settles O57: a load names no FREE take, a drop asks that no cue names the take, and a cold reset empties the lists. -/
theorem cuedTakesStayHeld : Obligations.CuedTakesStayHeld := fun _ _ hs h => (step_keeps h).cued hs

/-- Settles O58: an opened take's segments come from the free ones, and no other operation gives a take a segment. -/
theorem segmentsStayOwnedOnce : Obligations.SegmentsStayOwnedOnce := fun _ _ hs h => (step_keeps h).segments hs

/-- Settles O59: entries and bound tags come and go together, and a take that is closed, ended or dropped is unbound first. -/
theorem streamsStayInAgreement : Obligations.StreamsStayInAgreement := fun _ _ hs h => (step_keeps h).streams hs
end

section
/-! PROOFS. The store's canonical form (O53), the completion of every command (O2), the step at the front of the queue (O1) and the reset
state (O52). -/

namespace Sys2Proof.Machine

/-! ### Writes of a self-test step keep the canonical form -/

theorem writeWord_wf (pt : Pattern) (pass : Nat) (pos : TestPos) (place : Nat) {m : List Host.Cell} (h : memWf m = true) :
    memWf (writeWord pt pass pos place m) = true := by
  unfold writeWord
  dsimp only
  split
  · exact memSetWord_wf _ _ h
  · exact h

theorem writeOwed_wf (pt : Pattern) (pass : Nat) (pos : TestPos) {m : List Host.Cell} (h : memWf m = true) :
    memWf (writeOwed pt pass pos m) = true := by
  unfold writeOwed
  split
  · exact writeWord_wf _ _ _ _ h
  · exact h

theorem writeWords_wf (pt : Pattern) (pass : Nat) (pos : TestPos) (n place : Nat) {m : List Host.Cell} (h : memWf m = true) :
    memWf (writeWords pt pass pos n place m) = true := by
  induction n generalizing place m with
  | zero => exact h
  | succ n ih => exact ih (place + 1) (writeWord_wf _ _ _ _ h)

theorem testWords_wf (pos : TestPos) (upsets : List (Nat × BitVec 64)) (n place : Nat) {x : Testing} (h : memWf x.mem = true) :
    memWf (testWords pos upsets n place x).mem = true := by
  induction n generalizing place x with
  | zero => exact h
  | succ n ih =>
    unfold testWords
    dsimp only
    split
    · exact ih _ (writeWord_wf _ _ _ _ h)
    · split
      · exact h
      · exact ih _ (writeWord_wf _ _ _ _ h)

theorem Testing.complete_wf (pt : Pattern) (pass : Nat) (pos : TestPos) (upsets : List (Nat × BitVec 64)) {x : Testing}
    (h : memWf x.mem = true) : memWf (x.complete pt pass pos upsets).mem = true := by
  unfold Testing.complete
  split
  · unfold Testing.step
    dsimp only
    split
    · exact testWords_wf _ _ _ _ (writeOwed_wf _ _ _ h)
    · exact testWords_wf _ _ _ _ (writeOwed_wf _ _ _ h)
  · exact writeWords_wf _ _ _ _ _ (writeOwed_wf _ _ _ h)

/-- R110: each command that acts on the store writes whole bytes, or empties it. -/
theorem storeAct_wf {c : Instr} {f : Testing → Testing} (h : StoreAct c f) {x : Testing} (hx : memWf x.mem = true) :
    memWf (f x).mem = true := by
  cases h with
  | intakeCompletes =>
    unfold intakeCompletes
    split
    · exact memStore_wf _ _ hx
    · exact hx
  | selftestCompletes upsets =>
    unfold selftestCompletes
    split
    · exact Testing.complete_wf _ _ _ _ hx
    · exact hx
  | clearingCompletes =>
    unfold clearingCompletes
    split
    · exact memStore_wf _ _ hx
    · exact hx
  | powersOn => rfl
  | releasesCold => rfl
  | releasesWarm =>
    unfold releasesWarm
    split
    · rfl
    · exact hx

theorem exec_wf {c : Instr} {s t : State} (hs : memWf s.mem = true) (h : exec c s = .next t) : memWf t.mem = true := by
  rcases exec_acts c s with ⟨f, -, he⟩ | ⟨f, hf, he⟩
  · rw [he] at h
    cases h
    exact hs
  · rw [he] at h
    cases h
    exact storeAct_wf hf (x := ⟨s.dev, s.mem⟩) hs

/-! ### The reset state -/

/-- R147: during the re-initialisation nothing is granted. -/
theorem Device.settled_of_reinit {d : Device} (h : d.smc.reinit = true) : d.Settled := by
  refine Device.settled_of_not_mayGrant (Bool.eq_false_iff.2 fun hm => ?_)
  rw [(d.mayGrant_iff.1 hm).2.2] at h
  cases h

end Sys2Proof.Machine

open Sys2Proof Sys2Proof.Machine

/-- Settles O53: every write of the store is a `memStore`, which keeps the form, and the other changes empty it. -/
theorem storeStaysCanonical : Obligations.StoreStaysCanonical := by
  intro s t hs h
  rcases step_cases h with rfl | ⟨c, rest, hc⟩
  · exact hs
  · exact exec_wf (s := s.setPending rest) hs hc

/-- Settles O1: by the definition of a step. -/
theorem stepRunsFrontCommand : Obligations.StepRunsFrontCommand := by
  refine ⟨fun _ _ _ => rfl, fun s h => ?_⟩
  unfold step
  rw [h]

/-- Settles O2: a command acts on the device alone, or is one of the six that act on the store. -/
theorem everyCommandCompletes : Obligations.EveryCommandCompletes := by
  intro c s
  rcases exec_acts c s with ⟨f, -, he⟩ | ⟨f, hf, he⟩
  · exact ⟨_, he, rfl, .inl rfl⟩
  · refine ⟨_, he, rfl, ?_⟩
    cases hf with
    | intakeCompletes => exact .inr (.inl rfl)
    | selftestCompletes upsets => exact .inr (.inr (.inl ⟨upsets, rfl⟩))
    | clearingCompletes => exact .inr (.inr (.inr (.inl rfl)))
    | powersOn => exact .inr (.inr (.inr (.inr (.inl rfl))))
    | releasesCold => exact .inr (.inr (.inr (.inr (.inr (.inl rfl)))))
    | releasesWarm =>
      cases hp : s.dev.pwc.powerHeld with
      | true => exact .inr (.inr (.inr (.inr (.inr (.inr ⟨rfl, rfl⟩)))))
      | false =>
        refine .inl ?_
        rw [(releases_free (x := ⟨s.dev, s.mem⟩) hp).1]
        rfl

/-- Settles O52: the blocks' reset values meet each invariant, and during the re-initialisation nothing is granted. -/
theorem resetStateIsSafe : Obligations.ResetStateIsSafe := by
  obtain ⟨hlink, hscene, hidle, hcues, hcodes, hcued⟩ := Device.reset_fits (d := State.reset.dev) rfl rfl rfl rfl
  have htake : ∀ t, State.reset.dev.take t = Take.free Verify.none := fun t => by
    simp [Device.take, State.reset, Device.cold, Tks.reset]
  exact {
    store := reset_mem_wf
    link := hlink
    scene := hscene
    idle := hidle
    cues := hcues
    codes := hcodes
    cued := hcued
    segments := ⟨fun t => by rw [htake]; exact List.nodup_nil, fun t u _ g hg => by rw [htake] at hg; cases hg⟩
    streams := Device.streamsAgree_empty rfl fun t => by rw [htake]; rfl
    refresh := ⟨Nat.zero_le _, fun h => absurd rfl h⟩
    waking := nofun
    run := Engine.runFits_of_stage nofun nofun
    settled := Device.settled_of_reinit rfl }
end

section
/-! PROOFS. A store port that could serve a waiting request is serving one (O60): every command ends with a grant decision, leaves the
arbiter unable to grant, or changes nothing that a grant decision reads. -/

namespace Sys2Proof.Machine

/-- R147, R148: the port's arbiter reads the waiting requests of the voices, the intake, the Control Unit and the verify, the memory
controller, and whether the part is ACTIVE. -/
theorem Device.Settled.of_requests {d e : Device} (h : d.Settled) (hc : e.ctu.waits = d.ctu.waits)
    (hv : ∀ v, (e.voice v).waits = (d.voice v).waits ∧ (e.voice v).urgent = (d.voice v).urgent)
    (ht : e.tks.verifyStage = d.tks.verifyStage) (hi : e.siu.waits = d.siu.waits) (hs : e.smc = d.smc)
    (hp : e.pwc.power = .active → d.pwc.power = .active) : e.Settled := by
  intro hm
  obtain ⟨h₁, h₂, h₃⟩ := e.mayGrant_iff.1 hm
  have hd : d.choose = none := h (d.mayGrant_iff.2 ⟨hs ▸ h₁, hp h₂, hs ▸ h₃⟩)
  have hpick : ∀ f : Bool → Bool,
      e.pickVoice (fun v => f v.urgent) = d.pickVoice (fun v => f v.urgent) := by
    intro f
    simp only [Device.pickVoice, hs, (hv _).1, (hv _).2]
  have hlast : e.chooseLast = d.chooseLast := by simp only [Device.chooseLast, hc, ht, hs]
  have h₄ : e.pickVoice Voice.urgent = d.pickVoice Voice.urgent := hpick id
  have h₅ : e.pickVoice (fun v => !v.urgent) = d.pickVoice (fun v => !v.urgent) := hpick not
  rw [← hd]
  simp only [Device.choose, h₄, h₅, hlast, hi, hs]

/-- R147: after a grant decision the device is settled. -/
theorem Device.grant_isSettled (d : Device) : d.grant.Settled := by
  rcases d.grant_cases with ⟨h, hs⟩ | ⟨-, c, hc, h⟩
  · rw [h]
    exact hs
  · rw [h]
    refine Device.settled_of_not_mayGrant (Bool.eq_false_iff.2 fun hm => ?_)
    exact Device.grantChoice_port hc ((Device.mayGrant_iff _).1 hm).1

/-- R150: outside ACTIVE nothing is granted. -/
theorem Device.settled_of_inactive {d : Device} (h : d.pwc.power ≠ .active) : d.Settled :=
  Device.settled_of_not_mayGrant (Bool.eq_false_iff.2 fun hm => h (d.mayGrant_iff.1 hm).2.1)

/-! ### Waking and edges -/

/-- R190: waking makes no part ACTIVE. -/
theorem Device.wakeUp_active (cause : WakeCause) (d : Device) : (d.wakeUp cause).pwc.power = .active ↔ d.pwc.power = .active := by
  have hb : (d.beginWaking cause).pwc.power = .waking := by
    unfold Device.beginWaking
    dsimp only
    split <;> rfl
  unfold Device.wakeUp
  split
  · rename_i h
    rw [hb, h]
    simp
  · rename_i h
    rw [hb, h]
    simp
  · rfl

theorem Device.noteChanges_active (before after : Vector Bool 8) (d : Device) :
    (d.noteChanges before after).pwc.power = .active ↔ d.pwc.power = .active := by
  have key : ∀ (ls : List (Fin 8)) (e : Device),
      (ls.foldl (Device.handEdge before after) e).pwc.power = .active ↔ e.pwc.power = .active := by
    intro ls
    induction ls with
    | nil => exact fun e => Iff.rfl
    | cons l ls ih =>
      intro e
      rw [List.foldl_cons, ih]
      unfold Device.handEdge
      split
      · exact e.wakeUp_active _
      · rfl
  exact key allLines _

/-- R4: changes of the lines leave a settled device settled. -/
theorem Device.changeLines_settled {f : Device → Device} {d : Device} {x : Vector Line 8} (hf : f d = d.setLines x) (h : d.Settled) :
    (d.changeLines f).Settled := by
  unfold Device.changeLines
  dsimp only
  rw [hf]
  refine h.of_requests (by simp) (fun v => ?_) (by simp) (by simp) (by simp) fun hp => ?_
  · rw [Device.voice_of_voices (d := d) (by simp) v]
    exact ⟨rfl, rfl⟩
  · exact (Device.noteChanges_active _ _ (d.setLines x)).1 hp

/-! ### The Control Unit and the link -/

theorem Device.execControl_settled (c : CtlPkt) (d : Device) : (d.execControl c).Settled := by
  unfold Device.execControl
  split
  · exact Device.grant_isSettled _
  · exact Device.grant_isSettled _

theorem takeControls_settled (fuel : Nat) {d : Device} (h : d.Settled) : (takeControls fuel d).Settled := by
  induction fuel generalizing d with
  | zero => exact h
  | succ fuel ih =>
    unfold takeControls
    split
    · exact h
    · split
      · exact ih (Device.execControl_settled _ _)
      · exact h

theorem Device.runCtu_settled {d : Device} (h : d.Settled) : d.runCtu.Settled := takeControls_settled _ h

/-- R185: the queueing of a packet leaves what a grant decision reads. -/
theorem Device.queuePacket_settled {d : Device} (p : Packet) (h : d.Settled) : (d.queuePacket p).Settled := by
  have hs : ∀ q, (d.queueSample q).Settled := by
    intro q
    unfold Device.queueSample
    split
    · exact h.congr rfl rfl rfl rfl rfl rfl
    · exact h.of_requests rfl (fun _ => ⟨rfl, rfl⟩) rfl rfl rfl id
  have hc : ∀ q, (d.queueControl q).Settled := by
    intro q
    unfold Device.queueControl
    split
    · exact h.congr rfl rfl rfl rfl rfl rfl
    · exact h.congr rfl rfl rfl rfl rfl rfl
  unfold Device.queuePacket
  split
  · split
    · exact hs _
    · exact h
  · split
    · exact hc _
    · exact h

theorem Device.queuePacket_power (p : Packet) (d : Device) : (d.queuePacket p).pwc = d.pwc := by
  unfold Device.queuePacket
  split
  · split
    · unfold Device.queueSample
      split <;> rfl
    · rfl
  · split
    · unfold Device.queueControl
      split <;> rfl
    · rfl

theorem Device.receive_settled {d : Device} (p : Packet) (h : d.Settled) : (d.receive p).Settled := by
  have hr : d.reloadQuiet.Settled := h.congr rfl rfl rfl rfl rfl rfl
  unfold Device.receive
  split
  · exact h
  · split
    · rename_i hp
      unfold Device.hearsAsleep
      split
      · refine Device.settled_of_inactive fun ha => ?_
        rw [Device.wakeUp_active, hp] at ha
        cases ha
      · exact h
    · unfold Device.hears
      split
      · exact hr.congr rfl rfl rfl rfl rfl rfl
      · dsimp only
        split
        · rename_i hp
          refine Device.settled_of_inactive fun ha => ?_
          rw [Device.wakeUp_active, Device.queuePacket_power] at ha
          have ha' : d.pwc.power = .active := ha
          rw [hp] at ha'
          cases ha'
        · exact Device.runCtu_settled (Device.queuePacket_settled p hr)

theorem closingReply_waits (rest : List Reply) (c : Ctu) : (closingReply rest c).waits = c.waits := by
  unfold closingReply
  split <;> rfl

theorem Device.sendReply_settled {d : Device} (h : d.Settled) : d.sendReply.Settled := by
  unfold Device.sendReply
  split
  · exact h
  · split
    · refine Device.runCtu_settled (h.of_requests ?_ (fun _ => ⟨rfl, rfl⟩) rfl rfl rfl id)
      exact closingReply_waits _ _
    · exact h

theorem Device.clearReported_settled {d : Device} (s : Fin 43) (h : d.Settled) : (d.clearReported s).Settled := by
  unfold Device.clearReported
  split
  · split
    · refine h.of_requests rfl (fun v => ?_) rfl rfl rfl id
      rw [Device.voice_setVoice]
      split
      · rename_i hv
        rw [hv]
        exact ⟨rfl, rfl⟩
      · exact ⟨rfl, rfl⟩
    · exact h
  · exact h

theorem Device.sendNotice_settled {d : Device} (h : d.Settled) : d.sendNotice.Settled := by
  unfold Device.sendNotice
  split
  · split
    · exact h
    · split
      · exact Device.clearReported_settled _ (h.congr rfl rfl rfl rfl rfl rfl)
      · exact h
  · exact h

theorem Device.sendReport_settled {d : Device} (h : d.Settled) : d.sendReport.Settled := by
  unfold Device.sendReport
  split
  · split
    · exact h.congr rfl rfl rfl rfl rfl rfl
    · exact h
  · exact h

theorem Device.sendSymbol_settled {d : Device} (h : d.Settled) : d.sendSymbol.Settled := by
  unfold Device.sendSymbol
  split
  · exact h.congr rfl rfl rfl rfl rfl rfl
  · exact h

theorem Device.sleepNow_settled {d : Device} (h : d.Settled) : d.sleepNow.Settled := by
  unfold Device.sleepNow
  split
  · split
    · refine Device.settled_of_inactive fun ha => ?_
      have := (Device.noteChanges_active _ _ _).1 ha
      cases this
    · exact h
  · exact h

/-! ### Every command -/

theorem Device.sclkPeriod_settled {d : Device} (h : d.Settled) : d.sclkPeriod.Settled := by
  unfold Device.sclkPeriod
  split
  · exact Device.grant_isSettled _
  · exact h.congr rfl rfl rfl rfl rfl rfl

theorem Device.tickIf_settled {d : Device} (due : Bool) (h : d.Settled) : (d.tickIf due).Settled := by
  unfold Device.tickIf
  split
  · exact Device.grant_isSettled _
  · exact h

theorem Device.benchDrives_settled {d : Device} (l : Fin 8) (level : Bool) (h : d.Settled) : (d.benchDrives l level).Settled := by
  unfold Device.benchDrives
  dsimp only
  split
  · exact h.congr rfl rfl rfl rfl rfl rfl
  · exact Device.changeLines_settled rfl h

theorem DeviceAct.settled {m : List Host.Cell} {f : Device → Device} (hf : DeviceAct m f) {d : Device} (h : d.Settled) :
    (f d).Settled := by
  cases hf with
  | receive p => exact Device.receive_settled p h
  | sendSymbol => exact Device.sendSymbol_settled h
  | sendReply => exact Device.sendReply_settled h
  | sendNotice => exact Device.sendNotice_settled h
  | sendReport => exact Device.sendReport_settled h
  | sleepNow => exact Device.sleepNow_settled h
  | resetNow =>
    unfold Device.resetNow
    split
    · exact Device.grant_isSettled _
    · exact h
  | sclkPeriod => exact Device.sclkPeriod_settled h
  | pulseDue l => exact Device.tickIf_settled _ h
  | stepDue v => exact Device.tickIf_settled _ h
  | reportNext => exact Device.tickIf_settled _ h
  | benchDrives l level => exact Device.benchDrives_settled l level h
  | deliverZero => exact h.congr rfl rfl rfl rfl rfl rfl
  | fetchCompletes =>
    unfold Machine.fetchCompletes
    split
    · exact Device.grant_isSettled _
    · exact h
  | intakeJudges => exact Device.grant_isSettled _
  | verifyCompletes =>
    unfold Machine.verifyCompletes
    split
    · exact Device.grant_isSettled _
    · exact h
  | peekCompletes =>
    unfold Machine.peekCompletes
    split
    · exact Device.runCtu_settled (Device.grant_isSettled _)
    · exact h
  | intervalElapses =>
    unfold Device.intervalElapses
    split
    · exact Device.grant_isSettled _
    · exact h
  | refreshCompletes =>
    unfold Machine.refreshCompletes
    split
    · exact Device.grant_isSettled _
    · exact h
  | exitCompletes =>
    unfold Device.exitCompletes
    split
    · exact Device.runCtu_settled (Device.grant_isSettled _)
    · exact h
  | quietExpires =>
    unfold Device.quietExpires
    split
    · exact Device.settled_of_inactive nofun
    · exact h
  | reinitCompletes =>
    unfold Device.reinitCompletes
    split
    · exact Device.grant_isSettled _
    · exact h
  | assertRstn => exact Device.grant_isSettled _

theorem StoreAct.settled {c : Instr} {f : Testing → Testing} (hf : StoreAct c f) {x : Testing} (h : x.dev.Settled) :
    (f x).dev.Settled := by
  cases hf with
  | intakeCompletes =>
    unfold Machine.intakeCompletes
    split
    · exact Device.grant_isSettled _
    · exact h
  | selftestCompletes upsets =>
    unfold Machine.selftestCompletes
    split
    · exact Device.grant_isSettled _
    · exact h
  | clearingCompletes =>
    unfold Machine.clearingCompletes
    split
    · exact Device.grant_isSettled _
    · exact h
  | powersOn => exact Device.settled_of_reinit rfl
  | releasesCold => exact Device.settled_of_reinit rfl
  | releasesWarm =>
    unfold Machine.releasesWarm
    split
    · exact Device.settled_of_reinit rfl
    · exact Device.grant_isSettled _

end Sys2Proof.Machine

open Sys2Proof Sys2Proof.Machine

/-- Settles O60: by the commands' last grant decision, or because what the arbiter reads is as it was. -/
theorem storePortNeverIdles : Obligations.StorePortNeverIdles := by
  intro s t hs h
  rcases step_cases h with rfl | ⟨c, rest, hc⟩
  · exact hs
  · rcases exec_acts c (s.setPending rest) with ⟨f, hf, he⟩ | ⟨f, hf, he⟩
    · rw [he] at hc
      cases hc
      exact hf.settled hs
    · rw [he] at hc
      cases hc
      exact hf.settled (x := ⟨s.dev, s.mem⟩) hs
end

section
/-! PROOFS. Chains of tuples read back (O3). -/

namespace Sys2Proof.Machine

/-- R169: NULL bytes are passed. -/
theorem readItems_null (fuel n : Nat) (bytes : List Byte) (ts : List Tuple)
    (h : ∀ k, bytes.length < k → readItems k bytes = some ts) (hf : n + bytes.length < fuel) :
    readItems fuel (List.replicate n 0x00#8 ++ bytes) = some ts := by
  induction n generalizing fuel with
  | zero => exact h fuel (by omega)
  | succ n ih =>
    cases fuel with
    | zero => omega
    | succ fuel =>
      show readItems fuel (List.replicate n 0x00#8 ++ bytes) = some ts
      exact ih fuel (by omega)

/-- A byte that stands for a number below 256. -/
theorem byte_toNat {n : Nat} (h : n < 256) : (BitVec.ofNat 8 n).toNat = n := Nat.mod_eq_of_lt h

/-- R169: a tuple with a code and data that the tuple table allows is read, and the chain goes on behind it. -/
theorem readItems_tuple {t : Tuple} (hc : 1 ≤ t.code ∧ t.code ≤ 254) (hd : t.data.length ≤ 254) (ht : tupleFits t.code t.data = true)
    (fuel : Nat) (bytes : List Byte) :
    readItems (fuel + 1) (tupleBytes t.code t.data ++ bytes) = (readItems fuel bytes).map (fun ts => t :: ts) := by
  have hcode : (BitVec.ofNat 8 t.code).toNat = t.code := byte_toNat (by omega)
  have hlink : (BitVec.ofNat 8 t.data.length).toNat = t.data.length := byte_toNat (by omega)
  have h0 : BitVec.ofNat 8 t.code ≠ 0x00#8 := fun h => by
    have := congrArg BitVec.toNat h
    rw [hcode] at this
    simp at this
    omega
  have h1 : BitVec.ofNat 8 t.code ≠ 0xFF#8 := fun h => by
    have := congrArg BitVec.toNat h
    rw [hcode] at this
    simp at this
    omega
  have h2 : BitVec.ofNat 8 t.data.length ≠ 0xFF#8 := fun h => by
    have := congrArg BitVec.toNat h
    rw [hlink] at this
    simp at this
    omega
  simp [tupleBytes, readItems, h0, h1, h2, hcode, hlink, ht]

/-- R169: the bytes of a chain's items: before each tuple its NULL bytes. -/
def itemBytes (items : List (Nat × Tuple)) : List Byte :=
  items.flatMap (fun x => List.replicate x.1 (0x00#8 : Byte) ++ tupleBytes x.2.code x.2.data)

theorem readItems_items (items : List (Nat × Tuple)) (after : List Byte)
    (h : ∀ x ∈ items, 1 ≤ x.2.code ∧ x.2.code ≤ 254 ∧ x.2.data.length ≤ 254 ∧ tupleFits x.2.code x.2.data = true) (fuel : Nat)
    (hf : (itemBytes items ++ 0xFF#8 :: after).length < fuel) :
    readItems fuel (itemBytes items ++ 0xFF#8 :: after) = some (items.map (·.2)) := by
  induction items generalizing fuel with
  | nil =>
    cases fuel with
    | zero => omega
    | succ fuel => rfl
  | cons x items ih =>
    have hx := h x (List.mem_cons_self ..)
    have hrest := ih fun y hy => h y (List.mem_cons_of_mem _ hy)
    have hsplit : itemBytes (x :: items) ++ 0xFF#8 :: after =
        List.replicate x.1 0x00#8 ++ (tupleBytes x.2.code x.2.data ++ (itemBytes items ++ 0xFF#8 :: after)) := by
      simp [itemBytes]
    rw [hsplit] at hf ⊢
    refine readItems_null fuel x.1 _ _ (fun k hk => ?_) (by simpa using hf)
    cases k with
    | zero => omega
    | succ k =>
      rw [readItems_tuple ⟨hx.1, hx.2.1⟩ hx.2.2.1 hx.2.2.2, hrest k]
      · rfl
      · simp only [tupleBytes, List.length_append, List.length_cons] at hk ⊢
        omega

end Sys2Proof.Machine

open Sys2Proof Sys2Proof.Machine

/-- Settles O3: by induction on the items, with more fuel than bytes. -/
theorem chainsReadBack : Obligations.ChainsReadBack := by
  intro items after h
  have hread := readItems_items items after h _ (Nat.lt_succ_self _)
  show readChain (itemBytes items ++ 0xFF#8 :: after) = _
  unfold readChain
  split
  · rename_i hnil
    simp at hnil
  · exact hread
end

section
/-! PROOFS. What the controls read of their bodies, the refusals of form (O6), and the block an intake write forms (O4). -/

namespace Sys2Proof.Machine

/-! ### Arguments (R168, R170) -/

/-- The number at the start of a tuple's data. -/
theorem field_zero_leBytes (n x : Nat) : field (leBytes n x) 0 n = x % 256 ^ n := by
  rw [field, List.drop_zero, List.take_of_length_le (by simp), leNat_leBytes]

theorem field_zero_byte (b : Byte) (bs : List Byte) : field (b :: bs) 0 1 = b.toNat := by simp [field, leNat]

theorem field_one_byte (a b : Byte) (bs : List Byte) : field (a :: b :: bs) 1 1 = b.toNat := by simp [field, leNat]

theorem field_two_byte (a b c : Byte) (bs : List Byte) : field (a :: b :: c :: bs) 2 1 = c.toNat := by simp [field, leNat]

theorem field_three_byte (a b c e : Byte) (bs : List Byte) : field (a :: b :: c :: e :: bs) 3 1 = e.toNat := by simp [field, leNat]

/-- A 16-bit argument reads back. -/
theorem field_word (g : BitVec 16) : BitVec.ofNat 16 (field (leBytes 2 g.toNat) 0 2) = g := by
  rw [field_zero_leBytes]
  exact BitVec.eq_of_toNat_eq (by have := g.isLt; simp; omega)

/-- A 32-bit argument reads back. -/
theorem field_double (g : BitVec 32) : BitVec.ofNat 32 (field (leBytes 4 g.toNat) 0 4) = g := by
  rw [field_zero_leBytes]
  exact BitVec.eq_of_toNat_eq (by have := g.isLt; simp; omega)

theorem numberOf_of_lt {n k : Nat} (h : k < n) : numberOf n k = some ⟨k, h⟩ := by simp [numberOf, h]

theorem numberOf_of_le {n k : Nat} (h : n ≤ k) : numberOf n k = none := by simp [numberOf, Nat.not_lt.2 h]

@[simp] theorem numberOf_val {n : Nat} (i : Fin n) : numberOf n i.val = some i := numberOf_of_lt i.isLt

theorem testModeOf_of_le {n : Nat} (h : 3 ≤ n) : testModeOf n = none := by
  obtain ⟨k, rfl⟩ := Nat.exists_eq_add_of_le' h
  rfl

theorem patternOf_of_le {n : Nat} (h : 2 ≤ n) : patternOf n = none := by
  obtain ⟨k, rfl⟩ := Nat.exists_eq_add_of_le' h
  rfl

/-- R170: an argument is there exactly when its tuple is given once. -/
theorem argument_eq_none {code : Nat} {ts : List Tuple} (h : ¬ (ts.filter (fun t => decide (t.code = code))).length = 1) :
    argument code ts = none := by
  unfold argument tuplesOf
  split
  · rename_i t ht
    rw [ht] at h
    exact absurd rfl h
  · rfl

theorem argument_isSome {code : Nat} {ts : List Tuple} (h : (ts.filter (fun t => decide (t.code = code))).length = 1) :
    ∃ a, argument code ts = some a := by
  obtain ⟨t, ht⟩ := List.length_eq_one_iff.1 h
  exact ⟨t.data, by simp [argument, tuplesOf, ht]⟩

theorem numbered_missing {n code : Nat} {ts : List Tuple} (h : argument code ts = none) : numbered n code ts = .error .malformed := by
  simp [numbered, h]

theorem numbered_range {n code : Nat} {ts : List Tuple} {id : Byte} (h : argument code ts = some [id]) (hn : n ≤ id.toNat) :
    numbered n code ts = .error .range := by
  simp [numbered, h, field_zero_byte, numberOf_of_le hn]

theorem byte_take (t : Fin 64) : (BitVec.ofNat 8 t.val).toNat = t.val := by
  have := t.isLt
  simp only [BitVec.toNat_ofNat]
  omega

theorem numbered_take {code : Nat} {ts : List Tuple} {t : Fin 64} (h : argument code ts = some [BitVec.ofNat 8 t.val]) :
    numbered 64 code ts = .ok t := by
  unfold numbered
  rw [h]
  simp only [field_zero_byte, byte_take, numberOf_val]

/-! ### A control that is refused, or answered at once (R166, R167) -/

/-- R167: a refused control is answered by the device as it was. -/
theorem arriveControl_refused {s : State} {body : List Byte} {ts : List Tuple} (h : s.Takes body ts) (tag : BitVec 16) (code : Byte)
    {f : List Tuple → Device → Carried} {st : Status} (hf : controlOf tag code.toNat = some f)
    (he : f ts s.dev.reloadQuiet = refuse s.dev.reloadQuiet st) :
    arriveControl tag code body s = .next (s.setDev (s.dev.answered tag code st [])) :=
  arriveControl_answered h tag code hf he h.settled

/-- R165 to R168: a control that is answered before its packet's body is read as a chain. -/
theorem arriveControl_refused_of_carryOut {s : State} {tag : BitVec 16} {code : Byte} {body : List Byte} {st : Status}
    (h : s.Listening) (hs : s.dev.Settled) (hb : body.length ≤ 1024)
    (he : ∀ d, carryOut ⟨tag, code, body⟩ d = refuse d st) :
    arriveControl tag code body s = .next (s.setDev (s.dev.answered tag code st [])) := by
  rw [arriveControl_listening h tag code body hb]
  unfold Device.execControl
  rw [he]
  have hset : (s.dev.reloadQuiet.pushReply (replyTo ⟨tag, code, body⟩ (st, []))).Settled := hs.congr rfl rfl rfl rfl rfl rfl
  simp only [refuse, Device.grant_settled hset]
  rfl

/-- R168: the codes of the table of controls. -/
theorem controlOf_isSome (tag : BitVec 16) (code : Nat) :
    (controlOf tag code).isSome ↔ code ∈ [0x01, 0x02, 0x03, 0x10, 0x11, 0x12, 0x13, 0x14, 0x18, 0x19, 0x20, 0x21, 0x22, 0x28, 0x29, 0x2A,
      0x2B, 0x30, 0x31, 0x32, 0x33, 0x34, 0x38, 0x39, 0x40, 0x41, 0x48, 0x4F] := by
  constructor
  · intro h
    unfold controlOf at h
    split at h <;> simp at h ⊢
  · intro h
    fin_cases h <;> rfl

/-- R184: a control word's low byte is the code it was made from. -/
theorem controlPacket_exec (tag : BitVec 16) (code : Byte) (body : List Byte) (s : State) :
    exec (.controlPacket tag (code.setWidth 32) body) s = arriveControl tag code body s := rfl

end Sys2Proof.Machine

open Sys2Proof Sys2Proof.Machine

/-- Settles O6: each refusal is the first branch of its control, with the argument or the reading of the chain that fails. -/
theorem bodiesAndArgumentsAreChecked : Obligations.BodiesAndArgumentsAreChecked := by
  refine ⟨fun s tag code body hl hs hb hc => ?unknown, fun s tag code body hl hs hb hc hr => ?noChain, fun s tag ts => ⟨?bodies, ?query, ?flush,
    ?selftest, ?power⟩⟩
  case unknown =>
    have hn : controlOf tag code.toNat = none := by
      rw [← Option.not_isSome_iff_eq_none, controlOf_isSome]
      exact hc
    exact arriveControl_refused_of_carryOut hl hs hb fun d => by simp [carryOut, hn]
  case noChain =>
    obtain ⟨f, hf⟩ := Option.isSome_iff_exists.1 ((controlOf_isSome tag code.toNat).2 hc)
    rw [controlPacket_exec]
    exact arriveControl_refused_of_carryOut hl hs hb fun d => by simp [carryOut, hf, hr]
  case bodies =>
    intro body h
    have refused : ∀ (code : Byte) (f : List Tuple → Device → Carried) (st : Status), controlOf tag code.toNat = some f →
        (f ts s.dev.reloadQuiet = refuse s.dev.reloadQuiet st) →
        arriveControl tag code body s = .next (s.setDev (s.dev.answered tag code st [])) :=
      fun code _ _ hf he => arriveControl_refused h tag code hf he
    refine ⟨fun k => ?_, fun k => ⟨?_, ?_, ?_, ?_, ?_⟩, fun k => ?_, fun k => ⟨?_, ?_⟩, fun k => ?_, fun k => ?_, fun k => ?_, fun k => ?_,
      fun k => ?_, fun k => ?_, fun k => ?_, fun k => ?_, fun id ha k => ⟨?_, ?_, ?_, fun k' => ?_, fun k' => ?_⟩⟩
    · exact refused 0x10#8 _ _ rfl (by simp [ctlTakeOpen, openArgs, argument_eq_none k])
    · exact refused 0x11#8 _ _ rfl (by simp [ctlTakeClose, numbered_missing (argument_eq_none k)])
    · exact refused 0x12#8 _ _ rfl (by simp [ctlTakeDrop, numbered_missing (argument_eq_none k)])
    · exact refused 0x13#8 _ _ rfl (by simp [ctlTakeVerify, numbered_missing (argument_eq_none k)])
    · exact refused 0x14#8 _ _ rfl (by cases ha : argument 0x03 ts <;> simp [ctlTakePeek, ha, numbered_missing (argument_eq_none k)])
    · exact refused 0x18#8 _ _ rfl (by cases ha : argument 0x04 ts <;> simp [ctlStreamBind, ha, numbered_missing (argument_eq_none k)])
    · exact refused 0x14#8 _ _ rfl (by simp [ctlTakePeek, argument_eq_none k])
    · exact refused 0x18#8 _ _ rfl (by simp [ctlStreamBind, argument_eq_none k])
    · exact refused 0x19#8 _ _ rfl (by simp [ctlStreamUnbind, argument_eq_none k])
    · refine refused 0x20#8 _ _ rfl ?_
      rcases k with k | k
      · simp [ctlCueLoad, argument_eq_none k]
      · cases ha : argument 0x01 ts <;> simp [ctlCueLoad, ha, k]
    · exact refused 0x30#8 _ _ rfl (by simp [ctlSceneGo, goArgs, argument_eq_none k])
    · exact refused 0x39#8 _ _ rfl (by simp [ctlReportSet, argument_eq_none k])
    · exact refused 0x22#8 _ _ rfl (by simp [ctlVoiceSet, k])
    · exact refused 0x28#8 _ _ rfl (by simp [ctlPortSet, k])
    · exact refused 0x29#8 _ _ rfl (by simp [ctlLineSet, k])
    · exact refused 0x2A#8 _ _ rfl (by simp [ctlMarkLoad, k])
    · exact refused 0x41#8 _ _ rfl (by simp [ctlMemSet, k])
    · exact refused 0x11#8 _ _ rfl (by simp [ctlTakeClose, numbered_range ha k])
    · exact refused 0x12#8 _ _ rfl (by simp [ctlTakeDrop, numbered_range ha k])
    · exact refused 0x13#8 _ _ rfl (by simp [ctlTakeVerify, numbered_range ha k])
    · obtain ⟨a, ha'⟩ := argument_isSome k'
      exact refused 0x14#8 _ _ rfl (by simp [ctlTakePeek, ha', numbered_range ha k])
    · obtain ⟨a, ha'⟩ := argument_isSome k'
      exact refused 0x18#8 _ _ rfl (by simp [ctlStreamBind, ha', numbered_range ha k])
  case query =>
    intro x hx index rest h k
    have hr := arriveControl_refused h tag 0x02#8 (f := ctlQuery) (st := .malformed) rfl (by simp [ctlQuery, argument_eq_none k])
    fin_cases hx <;> exact hr
  case flush =>
    intro x hx rest h
    refine ⟨fun k => ?_, fun n hm ha hn hf => ?_⟩
    · have hr := arriveControl_refused h tag 0x21#8 (f := ctlCueFlush) (st := .malformed) rfl (by
        rcases k with k | k
        · cases ha : argument 0x01 ts <;> simp [ctlCueFlush, ha, argument_eq_none k]
        · simp [ctlCueFlush, argument_eq_none k])
      fin_cases hx <;> exact hr
    · have hf' : s.dev.reloadQuiet.stu.frozen = false := hf
      have hr := arriveControl_refused h tag 0x21#8 (f := ctlCueFlush) (st := .range) rfl (by
        have hx : x.1 = 0 ∨ x.1 = 1 := by fin_cases hx <;> simp
        rcases hx with hx | hx <;>
          simp [ctlCueFlush, ha, hm, hx, field_zero_byte, onOffOf, hf', numberOf_of_le hn])
      fin_cases hx <;> exact hr
  case selftest =>
    intro x hx mode pattern rest h
    refine ⟨fun k => ?_, fun ha k => ?_⟩
    · have hr := arriveControl_refused h tag 0x40#8 (f := ctlSelftest) (st := .malformed) rfl (by
        simp [ctlSelftest, testArgs, argument_eq_none k])
      fin_cases hx <;> exact hr
    · have hargs : testArgs ts = none := by
        rcases k with k | k
        · simp [testArgs, ha, field_one_byte, field_two_byte, testModeOf_of_le k]
        · simp [testArgs, ha, field_one_byte, field_two_byte, patternOf_of_le k]
      have hr := arriveControl_refused h tag 0x40#8 (f := ctlSelftest) (st := .malformed) rfl (by simp [ctlSelftest, hargs])
      fin_cases hx <;> exact hr
  case power =>
    intro x hx quiet rest h k
    have hr := arriveControl_refused h tag 0x48#8 (f := ctlPower) (st := .malformed) rfl (by simp [ctlPower, argument_eq_none k])
    fin_cases hx <;> exact hr
end

section
/-! PROOFS. The block an intake write forms, read back from the store (O4). -/

namespace Sys2Proof.Machine

/-! ### Reading back a part of what was written -/

/-- The bytes of one part of a write read back. -/
theorem memBytes_part (m : List Host.Cell) (a : Nat) (p q r : List Byte) :
    memBytes (memStore m a (p ++ (q ++ r))) (a + p.length) q.length = q := by
  rw [memBytes_memStore _ _ _ _ _ (by simp)]
  simp

theorem Format.code_lt (f : Format) : f.code < 4 := by cases f <;> decide

theorem formatOf_code (f : Format) : formatOf f.code = some f := by cases f <;> rfl

theorem Format.spb_mul_bps (f : Format) : f.spb * f.bps = 1008 := by cases f <;> rfl

theorem Format.spb_le (f : Format) : f.spb ≤ 504 := by cases f <;> decide

/-- R111: the flags byte gives the format and the LAST flag back. -/
theorem flagsByte_reads (f : Format) (last : Bool) :
    (BitVec.ofNat 8 (f.code + (if last then 128 else 0))).toNat % 4 = f.code ∧
      (BitVec.ofNat 8 (f.code + (if last then 128 else 0))).getLsbD 7 = last := by
  cases f <;> cases last <;> decide

/-! ### The block that an intake write forms (R111) -/

/-- R111: the bytes of a block whose samples fill at most its payload. -/
theorem imageBytes_of_le {x : BlockImage} (h : x.data.length ≤ 1008) :
    imageBytes x = leBytes 4 x.number.toNat ++ (leBytes 3 x.opening ++ (leBytes 1 (x.format.code + (if x.last then 128 else 0)) ++
      (leBytes 2 x.count ++ (leBytes 2 x.check.toNat ++ (leBytes 4 0 ++ (x.data ++ List.replicate (1008 - x.data.length) 0)))))) := by
  have ht : x.data.take Config.payloadBytes = x.data := List.take_of_length_le h
  unfold imageBytes
  simp only [ht, imageHeader, List.append_assoc]
  rfl

theorem imageBytes_length {x : BlockImage} (h : x.data.length ≤ 1008) : (imageBytes x).length = 1024 := by
  rw [imageBytes_of_le h]
  simp only [List.length_append, leBytes_length, List.length_replicate]
  omega

/-- R111: a block written to the store reads back field by field. -/
theorem readBlock_memStore_imageBytes (m : List Host.Cell) (a : Nat) {x : BlockImage} (hd : x.data.length ≤ 1008) (hc : x.count < 65536)
    (ho : x.opening < 2 ^ 24) :
    readBlock (memStore m a (imageBytes x)) a =
      { number := x.number, opening := x.opening, format := x.format.code, last := x.last, count := x.count, check := x.check,
        payload := x.data ++ List.replicate (1008 - x.data.length) 0#8 } := by
  rw [imageBytes_of_le hd]
  generalize hn : leBytes 4 x.number.toNat = number
  generalize hop : leBytes 3 x.opening = opening
  generalize hf : leBytes 1 (x.format.code + (if x.last then 128 else 0)) = flags
  generalize hct : leBytes 2 x.count = count
  generalize hck : leBytes 2 x.check.toNat = check
  generalize hz : leBytes 4 0 = zero
  generalize hp : x.data ++ List.replicate (1008 - x.data.length) 0#8 = payload
  have ln : number.length = 4 := by rw [← hn, leBytes_length]
  have lo : opening.length = 3 := by rw [← hop, leBytes_length]
  have lf : flags.length = 1 := by rw [← hf, leBytes_length]
  have lc : count.length = 2 := by rw [← hct, leBytes_length]
  have lk : check.length = 2 := by rw [← hck, leBytes_length]
  have lz : zero.length = 4 := by rw [← hz, leBytes_length]
  have lp : payload.length = 1008 := by rw [← hp, List.length_append, List.length_replicate]; omega
  have rn := memBytes_part m a [] number (opening ++ (flags ++ (count ++ (check ++ (zero ++ payload)))))
  have ro := memBytes_part m a number opening (flags ++ (count ++ (check ++ (zero ++ payload))))
  have rf := memBytes_part m a (number ++ opening) flags (count ++ (check ++ (zero ++ payload)))
  have rc := memBytes_part m a (number ++ (opening ++ flags)) count (check ++ (zero ++ payload))
  have rk := memBytes_part m a (number ++ (opening ++ (flags ++ count))) check (zero ++ payload)
  have rp := memBytes_part m a (number ++ (opening ++ (flags ++ (count ++ (check ++ zero))))) payload []
  simp only [List.append_assoc, List.append_nil, List.nil_append, List.length_nil, List.length_append, ln, lo, lf, lc, lk, lz, lp]
    at rn ro rf rc rk rp
  have hflags : memRead (memStore m a (number ++ (opening ++ (flags ++ (count ++ (check ++ (zero ++ payload))))))) (a + 7) =
      BitVec.ofNat 8 (x.format.code + (if x.last then 128 else 0)) := by
    have := rf.trans hf.symm
    simpa [memBytes, leBytes] using this
  obtain ⟨hcode, hlast⟩ := flagsByte_reads x.format x.last
  have nn := x.number.isLt
  have nk := x.check.isLt
  unfold readBlock
  simp only [Config.headerBytes, Config.payloadBytes]
  rw [hflags, hcode, hlast, show memBytes _ a 4 = _ from rn, show memBytes _ (a + 4) 3 = _ from ro, show memBytes _ (a + 8) 2 = _ from rc,
    show memBytes _ (a + 10) 2 = _ from rk, show memBytes _ (a + 16) 1008 = _ from rp, ← hn, ← hop, ← hct, ← hck]
  simp only [leNat_leBytes, Block.mk.injEq, true_and, and_true]
  refine ⟨BitVec.eq_of_toNat_eq ?_, ?_, ?_, BitVec.eq_of_toNat_eq ?_⟩
  · simp only [BitVec.toNat_ofNat]; omega
  · omega
  · omega
  · simp only [BitVec.toNat_ofNat]; omega

/-! ### The judgement of a stored block (R113, R114) -/

theorem Block.checkRight_iff (b : Block) : b.checkRight = true ↔
    ∃ f, formatOf b.format = some f ∧ 1 ≤ b.count ∧ b.count ≤ f.spb ∧ crc16 (b.payload.take (b.count * f.bps)) = b.check := by
  unfold Block.checkRight
  cases hf : formatOf b.format with
  | none => simp
  | some f => simp [and_assoc]

theorem Block.fits_iff (b : Block) (opening : Nat) (number : BlockNo) :
    b.fits opening number = true ↔ b.opening = opening ∧ b.number = number := by simp [Block.fits]

theorem not_eq_self (x : BitVec 16) : ~~~x ≠ x := by
  intro h
  have := congrArg (fun y => BitVec.getLsbD y 0) h
  simp at this

end Sys2Proof.Machine

open Sys2Proof Sys2Proof.Machine

/-- Settles O4: the block's fields are parts of the bytes written, and its check is right exactly when it was not inverted. -/
theorem intakeBlockReadsBack : Obligations.IntakeBlockReadsBack := by
  refine ⟨fun m a j inverted hc hs hl ho => ?written, fun b opening number => ?judged, by decide +kernel⟩
  case written =>
    have hspb := j.packet.format.spb_le
    have hd : (j.image inverted).data.length ≤ 1008 := by
      show j.packet.data.length ≤ 1008
      rw [hl, ← j.packet.format.spb_mul_bps]
      exact Nat.mul_le_mul_right _ hs
    have hb := readBlock_memStore_imageBytes m a (x := j.image inverted) hd (by show j.packet.count < 65536; omega) ho
    dsimp only
    rw [hb]
    refine ⟨fun x hx => memRead_memStore_outside m (by rw [imageBytes_length hd]; exact hx), rfl, rfl, rfl, rfl, rfl, rfl, rfl,
      fun opening number => ?_⟩
    have hfits := Block.fits_iff (readBlock (memStore m a (imageBytes (j.image inverted))) a) opening number
    have hright := Block.checkRight_iff (readBlock (memStore m a (imageBytes (j.image inverted))) a)
    rw [hb] at hfits hright
    unfold Block.judge
    by_cases hf : opening = j.opening ∧ number = j.packet.seq
    · rw [if_pos hf, if_pos (hfits.2 ⟨hf.1.symm, hf.2.symm⟩)]
      have htake : (j.packet.data ++ List.replicate (1008 - j.packet.data.length) 0#8).take (j.packet.count * j.packet.format.bps) =
          j.packet.data := by rw [← hl, List.take_left]
      have hcheck : crc16 j.packet.data = (j.image inverted).check ↔ inverted = false := by
        cases inverted with
        | false => simp [Judged.image]
        | true => simp [Judged.image, (not_eq_self (crc16 j.packet.data)).symm]
      cases inverted with
      | false =>
        rw [if_pos (hright.2 ⟨j.packet.format, formatOf_code _, hc, hs, (congrArg crc16 htake).trans (hcheck.2 rfl)⟩)]
        rfl
      | true =>
        rw [if_neg]
        · rfl
        · rw [hright]
          rintro ⟨f, hf, -, -, hk⟩
          have hf' := hf.symm.trans (formatOf_code j.packet.format)
          cases hf'
          exact absurd (hcheck.1 ((congrArg crc16 htake).symm.trans hk)) (by decide)
    · rw [if_neg hf, if_neg]
      rw [hfits]
      exact fun h => hf ⟨h.1.symm, h.2.symm⟩
  case judged =>
    have hfits := b.fits_iff opening number
    have hright := b.checkRight_iff
    unfold Block.judge
    split_ifs <;> simp_all
end

section
/-! PROOFS. What a refused control changes, and how the controls move the scene (O7). -/

namespace Sys2Proof.Machine

/-! ### The operations of takes, streams, voices and lines leave the Scene Timing Unit -/

@[simp] theorem Device.unbind_stu (tag : BitVec 16) (d : Device) : (d.unbind tag).stu = d.stu := by
  unfold Device.unbind; split <;> rfl
@[simp] theorem Device.unbindTake_stu (t : Fin 64) (d : Device) : (d.unbindTake t).stu = d.stu := by
  unfold Device.unbindTake; split <;> simp
@[simp] theorem Device.popSample_stu (d : Device) : d.popSample.stu = d.stu := rfl
@[simp] theorem Device.actOn_stu (p : SamplePkt) (j : Judgement) (d : Device) : (d.actOn p j).stu = d.stu := by cases j <;> rfl
@[simp] theorem Device.judgeHead_stu (d : Device) : d.judgeHead.stu = d.stu := by
  unfold Device.judgeHead
  split
  · split <;> simp
  · rfl
@[simp] theorem Device.rejudgeIntake_stu (d : Device) : d.rejudgeIntake.stu = d.stu := by
  unfold Device.rejudgeIntake
  split
  · split <;> simp
  · rfl
@[simp] theorem Device.closeResident_stu (t : Fin 64) (cause : CloseCause) (d : Device) : (d.closeResident t cause).stu = d.stu := by
  simp [Device.closeResident]
@[simp] theorem Device.endRing_stu (t : Fin 64) (cause : CloseCause) (d : Device) : (d.endRing t cause).stu = d.stu := by
  simp [Device.endRing]
@[simp] theorem Device.abortVerify_stu (t : Fin 64) (d : Device) : (d.abortVerify t).stu = d.stu := by
  unfold Device.abortVerify
  dsimp only
  split <;> rfl
@[simp] theorem Device.dropTake_stu (t : Fin 64) (d : Device) : (d.dropTake t).stu = d.stu := by simp [Device.dropTake]
@[simp] theorem Device.startVerify_stu (t : Fin 64) (d : Device) : (d.startVerify t).stu = d.stu := by
  unfold Device.startVerify
  dsimp only
  split <;> rfl

theorem Device.applyVoice_stu (d : Device) (s : VoiceSetting) : (d.applyVoice s).stu = d.stu := by
  unfold Device.applyVoice; split <;> rfl
theorem Device.judgeDepth_stu (ss : List VoiceSetting) (d : Device) (v : Fin 32) : (d.judgeDepth ss v).stu = d.stu := by
  unfold Device.judgeDepth; split <;> simp
@[simp] theorem Device.setVoicesBy_stu (ss : List VoiceSetting) (d : Device) : (d.setVoicesBy ss).stu = d.stu := by
  unfold Device.setVoicesBy
  rw [Device.foldl_frame Device.stu (Device.judgeDepth_stu ss), Device.foldl_frame Device.stu Device.applyVoice_stu]
theorem Device.applyPort_stu (d : Device) (s : PortSetting) : (d.applyPort s).stu = d.stu := by
  unfold Device.applyPort; split <;> rfl
theorem Device.applyLine_stu (d : Device) (s : LineSetting) : (d.applyLine s).stu = d.stu := by
  unfold Device.applyLine; split <;> rfl

@[simp] theorem Device.setEngine_stu (e : Engine) (d : Device) : (d.setEngine e).stu = d.stu := rfl
@[simp] theorem Device.endRun_stu (cause : EndCause) (d : Device) : (d.endRun cause).stu = d.stu := by
  unfold Device.endRun
  dsimp only
  split <;> rfl
@[simp] theorem Device.endPass_stu (d : Device) : d.endPass.stu = d.stu := by
  unfold Device.endPass
  dsimp only
  split <;> simp
@[simp] theorem Device.endSegment_stu (d : Device) : d.endSegment.stu = d.stu := by
  unfold Device.endSegment
  dsimp only
  split <;> simp
@[simp] theorem Device.advanceTest_stu (word : Nat) (d : Device) : (d.advanceTest word).stu = d.stu := by
  unfold Device.advanceTest
  dsimp only
  split
  · rfl
  · split <;> simp
@[simp] theorem Device.continueRun_stu (d : Device) : d.continueRun.stu = d.stu := by
  unfold Device.continueRun
  dsimp only
  split <;> simp

/-! ### The effect of a control on the scene (R1, R3, R167) -/

/-- R1, R3: how a control of a code may move the scene and T. -/
structure Stu.Moves (code : Nat) (x y : Stu) : Prop where
  scene : y.scene = x.scene ∨ (code = 0x30 ∧ x.scene = .stopped ∧ (y.scene = .running ∨ y.scene = .armed)) ∨
    (code = 0x31 ∧ x.scene = .running ∧ y.scene = .paused) ∨ (code = 0x32 ∧ x.scene = .paused ∧ y.scene = .running) ∨
    (code = 0x33 ∧ x.scene ≠ .stopped ∧ y.scene = .stopped)
  time : y.time = x.time ∨ (code = 0x30 ∧ y.time = 0)

theorem Stu.Moves.of_eq {code : Nat} {x y : Stu} (hs : y.scene = x.scene) (ht : y.time = x.time) : Stu.Moves code x y :=
  ⟨.inl hs, .inl ht⟩

/-- R1, R3, R167: what every control of a code does: refused, it changes nothing, and carried out, it moves the scene as R1 gives. -/
structure Carried.Ruled (code : Nat) (d : Device) (c : Carried) : Prop where
  refused : ∀ st fs, c.2 = some (st, fs) → 2 ≤ st.code → c.1 = d ∧ fs = []
  moves : Stu.Moves code d.stu c.1.stu

theorem refuse_ruled (code : Nat) (d : Device) (st : Status) : Carried.Ruled code d (refuse d st) :=
  ⟨fun st' fs h _ => by cases h; exact ⟨rfl, rfl⟩, .of_eq rfl rfl⟩

theorem Carried.Ruled.of_moves {code : Nat} {d e : Device} {a : Option Answer} (ha : ∀ st fs, a = some (st, fs) → st.code < 2)
    (h : Stu.Moves code d.stu e.stu) : Carried.Ruled code d (e, a) :=
  ⟨fun st fs k hk => absurd (ha st fs k) (Nat.not_lt.2 hk), h⟩

theorem accept_ruled {code : Nat} {d e : Device} {fs : List Field} (h : e.stu = d.stu) : Carried.Ruled code d (accept e fs) :=
  .of_moves (by rintro _ _ ⟨⟩; decide) (by rw [h]; exact .of_eq rfl rfl)

theorem accept_ruled_of_moves {code : Nat} {d e : Device} {fs : List Field} (h : Stu.Moves code d.stu e.stu) :
    Carried.Ruled code d (accept e fs) := .of_moves (by rintro _ _ ⟨⟩; decide) h

theorem queryOf_ruled (code : Nat) (d : Device) (n i : Nat) (f : Fin n → List Field) : Carried.Ruled code d (queryOf n i d f) := by
  unfold queryOf
  split
  · exact accept_ruled rfl
  · exact refuse_ruled _ _ _

theorem ctlQuery_ruled (code : Nat) (d : Device) (ts : List Tuple) : Carried.Ruled code d (ctlQuery ts d) := by
  unfold ctlQuery
  split
  · exact refuse_ruled _ _ _
  · split
    · exact accept_ruled rfl
    · exact queryOf_ruled _ _ _ _ _
    · exact queryOf_ruled _ _ _ _ _
    · exact queryOf_ruled _ _ _ _ _
    · exact accept_ruled rfl
    · exact accept_ruled rfl
    · exact accept_ruled rfl
    · exact refuse_ruled _ _ _

theorem ctlTakeOpen_ruled (code : Nat) (d : Device) (ts : List Tuple) : Carried.Ruled code d (ctlTakeOpen ts d) := by
  unfold ctlTakeOpen
  split
  · exact refuse_ruled _ _ _
  · split
    · exact refuse_ruled _ _ _
    · split_ifs
      · exact refuse_ruled _ _ _
      · exact refuse_ruled _ _ _
      · exact refuse_ruled _ _ _
      · exact refuse_ruled _ _ _
      · exact accept_ruled rfl

theorem ctlTakeClose_ruled (code : Nat) (d : Device) (ts : List Tuple) : Carried.Ruled code d (ctlTakeClose ts d) := by
  unfold ctlTakeClose
  split
  · exact refuse_ruled _ _ _
  · split
    · exact refuse_ruled _ _ _
    · exact accept_ruled (by simp)
    · exact accept_ruled (by simp)
    · exact refuse_ruled _ _ _

theorem ctlTakeDrop_ruled (code : Nat) (d : Device) (ts : List Tuple) : Carried.Ruled code d (ctlTakeDrop ts d) := by
  unfold ctlTakeDrop
  split
  · exact refuse_ruled _ _ _
  · split_ifs
    · exact refuse_ruled _ _ _
    · exact refuse_ruled _ _ _
    · exact accept_ruled (by simp)

theorem ctlTakeVerify_ruled (code : Nat) (d : Device) (ts : List Tuple) : Carried.Ruled code d (ctlTakeVerify ts d) := by
  unfold ctlTakeVerify
  split
  · exact refuse_ruled _ _ _
  · split_ifs
    · exact refuse_ruled _ _ _
    · exact refuse_ruled _ _ _
    · exact .of_moves (by rintro _ _ ⟨⟩; decide) (.of_eq (by simp) (by simp))

theorem ctlTakePeek_ruled (code : Nat) (d : Device) (tag : BitVec 16) (ts : List Tuple) : Carried.Ruled code d (ctlTakePeek tag ts d) := by
  unfold ctlTakePeek
  split
  · exact refuse_ruled _ _ _
  · exact refuse_ruled _ _ _
  · dsimp only
    split_ifs
    · exact refuse_ruled _ _ _
    · exact refuse_ruled _ _ _
    · exact .of_moves nofun (.of_eq rfl rfl)

theorem ctlStreamBind_ruled (code : Nat) (d : Device) (ts : List Tuple) : Carried.Ruled code d (ctlStreamBind ts d) := by
  unfold ctlStreamBind
  split
  · exact refuse_ruled _ _ _
  · exact refuse_ruled _ _ _
  · dsimp only
    split_ifs
    · exact refuse_ruled _ _ _
    · exact refuse_ruled _ _ _
    · exact refuse_ruled _ _ _
    · exact refuse_ruled _ _ _
    · exact accept_ruled rfl

theorem ctlStreamUnbind_ruled (code : Nat) (d : Device) (ts : List Tuple) : Carried.Ruled code d (ctlStreamUnbind ts d) := by
  unfold ctlStreamUnbind
  split
  · exact refuse_ruled _ _ _
  · dsimp only
    split
    · exact refuse_ruled _ _ _
    · exact accept_ruled (by simp)

theorem ctlCueLoad_ruled (code : Nat) (d : Device) (ts : List Tuple) : Carried.Ruled code d (ctlCueLoad ts d) := by
  unfold ctlCueLoad
  split
  · exact refuse_ruled _ _ _
  · exact refuse_ruled _ _ _
  · split
    · exact refuse_ruled _ _ _
    · split
      · exact refuse_ruled _ _ _
      · exact accept_ruled (by simp)

theorem ctlCueFlush_ruled (code : Nat) (d : Device) (ts : List Tuple) : Carried.Ruled code d (ctlCueFlush ts d) := by
  unfold ctlCueFlush
  split
  · split
    · exact refuse_ruled _ _ _
    · split
      · exact refuse_ruled _ _ _
      · split
        · exact refuse_ruled _ _ _
        · dsimp only
          split
          · exact accept_ruled rfl
          · exact accept_ruled (by simp [Device.flushPending])
  · exact refuse_ruled _ _ _

theorem ctlVoiceSet_ruled (code : Nat) (d : Device) (ts : List Tuple) : Carried.Ruled code d (ctlVoiceSet ts d) := by
  unfold ctlVoiceSet
  split
  · exact refuse_ruled _ _ _
  · split_ifs
    · exact refuse_ruled _ _ _
    · exact refuse_ruled _ _ _
    · exact accept_ruled (by simp)

theorem ctlPortSet_ruled (code : Nat) (d : Device) (ts : List Tuple) : Carried.Ruled code d (ctlPortSet ts d) := by
  unfold ctlPortSet
  split
  · exact refuse_ruled _ _ _
  · split_ifs
    · exact refuse_ruled _ _ _
    · exact refuse_ruled _ _ _
    · exact accept_ruled (Device.foldl_frame Device.stu Device.applyPort_stu _ d)

theorem ctlLineSet_ruled (code : Nat) (d : Device) (ts : List Tuple) : Carried.Ruled code d (ctlLineSet ts d) := by
  unfold ctlLineSet
  split
  · exact refuse_ruled _ _ _
  · split_ifs
    · exact refuse_ruled _ _ _
    · exact refuse_ruled _ _ _
    · refine accept_ruled ?_
      simp only [Device.changeLines, Device.noteChanges_stu]
      exact Device.foldl_frame Device.stu Device.applyLine_stu _ d

theorem ctlMarkLoad_ruled (code : Nat) (d : Device) (ts : List Tuple) : Carried.Ruled code d (ctlMarkLoad ts d) := by
  unfold ctlMarkLoad
  split
  · exact refuse_ruled _ _ _
  · split_ifs
    · exact refuse_ruled _ _ _
    · exact refuse_ruled _ _ _
    · exact refuse_ruled _ _ _
    · exact accept_ruled_of_moves (.of_eq rfl rfl)

theorem ctlMarkClear_ruled (code : Nat) (d : Device) (ts : List Tuple) : Carried.Ruled code d (ctlMarkClear ts d) := by
  unfold ctlMarkClear
  split
  · exact refuse_ruled _ _ _
  · exact accept_ruled_of_moves (.of_eq rfl rfl)

/-- R5: an accepted GO leaves STOPPED for RUNNING or ARMED, at T = 0. -/
theorem go_moves {d : Device} (h : d.stu.scene = .stopped) (cond : StartCond) (primed : Bool) :
    Stu.Moves 0x30 d.stu (d.go cond primed).stu := by
  refine ⟨.inr (.inl ⟨rfl, h, ?_⟩), .inr ⟨rfl, rfl⟩⟩
  show goState cond primed = .running ∨ goState cond primed = .armed
  unfold goState
  split
  · exact .inl rfl
  · exact .inr rfl

theorem ctlSceneGo_ruled (d : Device) (ts : List Tuple) : Carried.Ruled 0x30 d (ctlSceneGo ts d) := by
  unfold ctlSceneGo
  dsimp only
  split
  · exact refuse_ruled _ _ _
  · split
    · exact refuse_ruled _ _ _
    · rename_i hs
      have hstop : d.stu.scene = .stopped := by simpa using hs
      split
      · exact accept_ruled_of_moves (go_moves hstop _ _)
      · split
        · exact refuse_ruled _ _ _
        · split
          · exact refuse_ruled _ _ _
          · exact accept_ruled_of_moves (go_moves hstop _ _)

theorem ctlScenePause_ruled (d : Device) (ts : List Tuple) : Carried.Ruled 0x31 d (ctlScenePause ts d) := by
  unfold ctlScenePause
  split
  · rename_i h
    exact accept_ruled_of_moves ⟨.inr (.inr (.inl ⟨rfl, h, rfl⟩)), .inl rfl⟩
  · exact refuse_ruled _ _ _

theorem ctlSceneResume_ruled (d : Device) (ts : List Tuple) : Carried.Ruled 0x32 d (ctlSceneResume ts d) := by
  unfold ctlSceneResume
  split
  · rename_i h
    exact accept_ruled_of_moves ⟨.inr (.inr (.inr (.inl ⟨rfl, h, rfl⟩))), .inl rfl⟩
  · exact refuse_ruled _ _ _

theorem ctlSceneStop_ruled (d : Device) (ts : List Tuple) : Carried.Ruled 0x33 d (ctlSceneStop ts d) := by
  unfold ctlSceneStop
  refine accept_ruled_of_moves ?_
  split
  · exact .of_eq rfl rfl
  · rename_i h
    exact ⟨.inr (.inr (.inr (.inr ⟨rfl, h, rfl⟩))), .inl rfl⟩

theorem ctlSceneFreeze_ruled (code : Nat) (d : Device) (ts : List Tuple) : Carried.Ruled code d (ctlSceneFreeze ts d) := by
  unfold ctlSceneFreeze
  split
  · exact refuse_ruled _ _ _
  · exact accept_ruled_of_moves (.of_eq rfl rfl)

theorem ctlNoticeSet_ruled (code : Nat) (d : Device) (ts : List Tuple) : Carried.Ruled code d (ctlNoticeSet ts d) := by
  unfold ctlNoticeSet
  split
  · exact refuse_ruled _ _ _
  · split
    · exact refuse_ruled _ _ _
    · exact accept_ruled rfl

theorem ctlReportSet_ruled (code : Nat) (d : Device) (ts : List Tuple) : Carried.Ruled code d (ctlReportSet ts d) := by
  unfold ctlReportSet
  split
  · exact refuse_ruled _ _ _
  · exact accept_ruled rfl

theorem ctlSelftest_ruled (code : Nat) (d : Device) (ts : List Tuple) : Carried.Ruled code d (ctlSelftest ts d) := by
  unfold ctlSelftest
  split
  · exact refuse_ruled _ _ _
  · unfold selftestStart
    split_ifs
    · exact refuse_ruled _ _ _
    · exact refuse_ruled _ _ _
    · exact refuse_ruled _ _ _
    · exact .of_moves (by rintro _ _ ⟨⟩; decide) (.of_eq rfl rfl)
  · unfold selftestContinue
    split
    · exact accept_ruled (by simp)
    · exact refuse_ruled _ _ _
  · unfold selftestStop
    split
    · exact accept_ruled rfl
    · exact accept_ruled (by simp)
    · exact accept_ruled (by simp)
    · exact accept_ruled rfl
    · exact refuse_ruled _ _ _
  · exact refuse_ruled _ _ _

theorem ctlMemSet_ruled (code : Nat) (d : Device) (ts : List Tuple) : Carried.Ruled code d (ctlMemSet ts d) := by
  unfold ctlMemSet
  split
  · exact refuse_ruled _ _ _
  · split
    · exact refuse_ruled _ _ _
    · exact accept_ruled rfl

theorem ctlPower_ruled (code : Nat) (d : Device) (ts : List Tuple) : Carried.Ruled code d (ctlPower ts d) := by
  unfold ctlPower
  split
  · exact refuse_ruled _ _ _
  · unfold powerAction
    split
    · split
      · exact refuse_ruled _ _ _
      · exact accept_ruled rfl
    · split
      · exact refuse_ruled _ _ _
      · exact accept_ruled rfl
    · exact accept_ruled rfl
    · exact refuse_ruled _ _ _

theorem controlOf_ruled {tag : BitVec 16} {code : Nat} {f : List Tuple → Device → Carried} (hf : controlOf tag code = some f) (d : Device)
    (ts : List Tuple) : Carried.Ruled code d (f ts d) := by
  unfold controlOf at hf
  split at hf <;> cases hf
  · exact accept_ruled rfl
  · exact ctlQuery_ruled _ d ts
  · exact accept_ruled_of_moves (.of_eq rfl rfl)
  · exact ctlTakeOpen_ruled _ d ts
  · exact ctlTakeClose_ruled _ d ts
  · exact ctlTakeDrop_ruled _ d ts
  · exact ctlTakeVerify_ruled _ d ts
  · exact ctlTakePeek_ruled _ d tag ts
  · exact ctlStreamBind_ruled _ d ts
  · exact ctlStreamUnbind_ruled _ d ts
  · exact ctlCueLoad_ruled _ d ts
  · exact ctlCueFlush_ruled _ d ts
  · exact ctlVoiceSet_ruled _ d ts
  · exact ctlPortSet_ruled _ d ts
  · exact ctlLineSet_ruled _ d ts
  · exact ctlMarkLoad_ruled _ d ts
  · exact ctlMarkClear_ruled _ d ts
  · exact ctlSceneGo_ruled d ts
  · exact ctlScenePause_ruled d ts
  · exact ctlSceneResume_ruled d ts
  · exact ctlSceneStop_ruled d ts
  · exact ctlSceneFreeze_ruled _ d ts
  · exact ctlNoticeSet_ruled _ d ts
  · exact ctlReportSet_ruled _ d ts
  · exact ctlSelftest_ruled _ d ts
  · exact ctlMemSet_ruled _ d ts
  · exact ctlPower_ruled _ d ts
  · exact accept_ruled rfl

theorem carryOut_ruled (c : CtlPkt) (d : Device) : Carried.Ruled c.code.toNat d (carryOut c d) := by
  unfold carryOut
  split
  · exact refuse_ruled _ _ _
  · rename_i f hf
    split
    · exact refuse_ruled _ _ _
    · exact controlOf_ruled hf d _

/-- R15: a CUE_FLUSH with both its arguments is refused in a frozen scene, whichever mode it gives. -/
theorem ctlCueFlush_frozen {d : Device} {ts : List Tuple} {m : Byte} {all : Bool} (hv : (argument 0x01 ts).isSome)
    (hm : argument 0x06 ts = some [m]) (hall : onOffOf m.toNat = some all) (hf : d.stu.frozen = true) :
    ctlCueFlush ts d = refuse d .frozen := by
  obtain ⟨a, ha⟩ := Option.isSome_iff_exists.1 hv
  simp [ctlCueFlush, ha, hm, field_zero_byte, hall, hf]

end Sys2Proof.Machine

open Sys2Proof Sys2Proof.Machine

/-- Settles O7: what a refusal leaves and how the scene moves, control by control, and the FROZEN check as the first of its six controls. -/
theorem refusedControlsChangeNothing : Obligations.RefusedControlsChangeNothing := by
  refine ⟨fun c d e st fs h hst => ?refused, fun s tag body rest ts hf => ⟨fun h => ?frozen, fun h hv hm => ?pending, fun h hv hm => ?all⟩,
    fun c d e a h => ?moves⟩
  case refused =>
    have hr := (carryOut_ruled c d).refused st fs
    rw [h] at hr
    exact hr rfl hst
  case frozen =>
    have hfz : s.dev.reloadQuiet.stu.frozen = true := hf
    refine ⟨fun hs => ?_, fun hs => ?_, fun hs => ?_, fun hs => ?_, ?_⟩
    · obtain ⟨x, hx⟩ := Option.isSome_iff_exists.1 hs
      exact arriveControl_refused h tag 0x22#8 (f := ctlVoiceSet) rfl (by simp [ctlVoiceSet, hx, hfz])
    · obtain ⟨x, hx⟩ := Option.isSome_iff_exists.1 hs
      exact arriveControl_refused h tag 0x28#8 (f := ctlPortSet) rfl (by simp [ctlPortSet, hx, hfz])
    · obtain ⟨x, hx⟩ := Option.isSome_iff_exists.1 hs
      exact arriveControl_refused h tag 0x29#8 (f := ctlLineSet) rfl (by simp [ctlLineSet, hx, hfz])
    · obtain ⟨x, hx⟩ := Option.isSome_iff_exists.1 hs
      exact arriveControl_refused h tag 0x2A#8 (f := ctlMarkLoad) rfl (by simp [ctlMarkLoad, hx, hfz])
    · exact arriveControl_refused h tag 0x2B#8 (f := ctlMarkClear) rfl (by simp [ctlMarkClear, hfz])
  case pending => exact arriveControl_refused h tag 0x21#8 (f := ctlCueFlush) rfl (ctlCueFlush_frozen hv hm rfl hf)
  case all => exact arriveControl_refused h tag 0x21#8 (f := ctlCueFlush) rfl (ctlCueFlush_frozen hv hm rfl hf)
  case moves =>
    have hm := (carryOut_ruled c d).moves
    rw [h] at hm
    obtain ⟨hs, ht⟩ := hm
    have hcode : ∀ n : Byte, c.code.toNat = n.toNat → c.code = n := fun n => BitVec.eq_of_toNat_eq
    refine ⟨?_, ht.imp_right fun k => ⟨hcode 0x30#8 k.1, k.2⟩⟩
    rcases hs with hs | ⟨hc, hs⟩ | ⟨hc, hs⟩ | ⟨hc, hs⟩ | ⟨hc, hs⟩
    · exact .inl hs
    · exact .inr (.inl ⟨hcode 0x30#8 hc, hs⟩)
    · exact .inr (.inr (.inl ⟨hcode 0x31#8 hc, hs⟩))
    · exact .inr (.inr (.inr (.inl ⟨hcode 0x32#8 hc, hs⟩)))
    · exact .inr (.inr (.inr (.inr ⟨hcode 0x33#8 hc, hs⟩)))
end

section
/-! PROOFS. Opening takes (O8) and where their blocks lie (O14). -/

namespace Sys2Proof.Machine

/-! ### Controls that are answered with a decision to follow (R147, R165) -/

/-- R147, R165: a control that is answered at once, the arbiter deciding on what it left. -/
theorem arriveControl_granted {s : State} {body : List Byte} {ts : List Tuple} (h : s.Takes body ts) (tag : BitVec 16) (code : Byte)
    {f : List Tuple → Device → Carried} (hf : controlOf tag code.toNat = some f) {e : Device} {st : Status} {fs : List Field}
    (he : f ts s.dev.reloadQuiet = (e.reloadQuiet, some (st, fs))) :
    arriveControl tag code body s = .next (s.setDev (e.answered tag code st fs).grant) := by
  rw [arriveControl_takes h tag code hf, he]
  rfl

/-- R147: a memory controller with the same port, debt, timer of re-initialisation, last voice and self-test request decides as before. -/
theorem Device.Settled.setSmc {d : Device} (h : d.Settled) {x : Smc} (hp : x.port = d.smc.port) (hr : x.reinit = d.smc.reinit)
    (hd : x.debt = d.smc.debt) (hv : x.lastVoice = d.smc.lastVoice) (he : x.engine.stage = d.smc.engine.stage) : (d.setSmc x).Settled := by
  intro hm
  have hc : (d.setSmc x).choose = d.choose := by
    simp [Device.choose, Device.chooseLast, Device.pickVoice, Device.voice, hd, hv, he]
  rw [hc]
  refine h ?_
  rw [Device.mayGrant_iff] at hm ⊢
  obtain ⟨hport, hpower, hreinit⟩ := hm
  exact ⟨hp ▸ hport, hpower, hr ▸ hreinit⟩

/-! ### Opening (R117 to R119) -/

theorem kindOf_eq_none {n : Nat} : kindOf n = none ↔ 2 ≤ n := by
  unfold kindOf
  split <;> simp_all
  omega

theorem kindOf_code (k : TakeKind) : kindOf k.code = some k := by cases k <;> rfl

theorem formatOf_eq_none {n : Nat} : formatOf n = none ↔ n = 0 ∨ 4 ≤ n := by
  unfold formatOf
  split <;> simp_all
  omega

/-- R118, R119: the free segments with test state GOOD. -/
theorem Device.goodSegments_eq (d : Device) :
    d.goodSegments =
      all64.filter (fun g => decide (∀ u : Fin 64, g ∉ (d.take u).segments) && decide (d.smc.segs[g] = .good)) := by
  unfold Device.goodSegments
  refine List.filter_congr fun g _ => ?_
  congr 1
  rw [Bool.eq_iff_iff]
  simp only [Device.segmentFree, List.all_eq_true, Bool.not_eq_true', decide_eq_true_eq]
  constructor
  · intro h u hu
    have := h u (mem_all64 u)
    simp [hu] at this
  · intro h u _
    simp [h u]

/-- R119: the fields of a newly opened take. -/
theorem Device.openTake_eq (t : Fin 64) (kind : TakeKind) (format : Format) (k : Nat) (d : Device) :
    d.openTake t kind format k =
      d.setTks { d.tks with
        takes := d.tks.takes.set t (Take.opened kind format (d.goodSegments.take k) d.tks.counter)
        counter := nextOpening d.tks.counter } := rfl

/-- R118: the arguments of a TAKE_OPEN, byte by byte. -/
theorem openArgs_bytes {ts : List Tuple} {id kind format k : Byte} (h : argument 0x05 ts = some [id, kind, format, k]) :
    openArgs ts = (kindOf kind.toNat).bind fun x => (formatOf format.toNat).map fun f => (id.toNat, x, f, k.toNat) := by
  simp only [openArgs, h, field_zero_byte, field_one_byte, field_two_byte, field_three_byte]
  cases kindOf kind.toNat <;> cases formatOf format.toNat <;> rfl

theorem ofNat_toNat_of_lt {n : Nat} (h : n < 256) : (BitVec.ofNat 8 n).toNat = n := by
  rw [BitVec.toNat_ofNat]
  exact Nat.mod_eq_of_lt h

/-! ### Where a block lies (R57, R110) -/

/-- R110: a store block index within a take lies in one of its segments. -/
theorem Take.address_of_lt {x : Take} {i : Nat} (h : i < x.segments.length * 32768) :
    ∃ hi : i / 32768 < x.segments.length, x.address i = (x.segments[i / 32768]'hi).val * 33554432 + i % 32768 * 1024 := by
  have hi : i / 32768 < x.segments.length := Nat.div_lt_of_lt_mul (by omega)
  refine ⟨hi, ?_⟩
  simp [Take.address, Config.blocksPerSegment, Config.segmentBytes, Config.blockBytes, List.getElem?_eq_getElem hi]

/-- R110: the blocks of two different segments do not overlap. -/
theorem segments_apart {g h i j : Nat} (hne : g ≠ h) :
    g * 33554432 + i % 32768 * 1024 + 1024 ≤ h * 33554432 + j % 32768 * 1024 ∨
      h * 33554432 + j % 32768 * 1024 + 1024 ≤ g * 33554432 + i % 32768 * 1024 := by
  omega

end Sys2Proof.Machine

open Sys2Proof Sys2Proof.Machine

/-- Settles O8: the accepted TAKE_OPEN by the new entry's fields, and the refusals by the order of its checks. -/
theorem takeOpenAllocates : Obligations.TakeOpenAllocates := by
  refine ⟨fun s tag body ts t kind format k h h1 h64 ha hfree hidle => ?accepted, fun s tag body ts id kind format k h ha => ?refused⟩
  case accepted =>
    intro free hk n x
    have hgood : s.dev.reloadQuiet.goodSegments = free := s.dev.goodSegments_eq
    have hargs : openArgs ts = some (t.val, kind, format, k) := by
      have hkc : kind.code < 256 := by cases kind <;> decide
      have hfc : format.code < 256 := by cases format <;> decide
      rw [openArgs_bytes ha, byte_take, ofNat_toNat_of_lt hkc, ofNat_toNat_of_lt hfc, ofNat_toNat_of_lt (by omega), kindOf_code,
        formatOf_code]
      rfl
    have hfree' : (s.dev.reloadQuiet.take t).state = .free := hfree
    have hidle' : s.dev.reloadQuiet.smc.engine.state = .idle := hidle
    refine arriveControl_answered h tag 0x10#8 (f := ctlTakeOpen) rfl ?_ (h.settled.congr rfl rfl rfl rfl rfl rfl)
    have hctl : ctlTakeOpen ts s.dev.reloadQuiet = accept (s.dev.reloadQuiet.openTake t kind format k)
        (openResult (s.dev.reloadQuiet.openTake t kind format k) t) := by
      simp only [ctlTakeOpen, hargs, numberOf_val, hfree', hidle', hgood]
      rw [if_neg (by omega), if_neg (by simp), if_neg (by simp), if_neg (by omega)]
    have htake : (s.dev.reloadQuiet.openTake t kind format k).take t = x := by
      rw [Device.openTake_eq, hgood]
      simp [Device.take]
      rfl
    have hcap : x.capacity = k * 32768 := by
      show (free.take k).length * 32768 = k * 32768
      rw [List.length_take_of_le hk]
    rw [hctl, openResult, htake, hcap, Device.openTake_eq, hgood]
    rfl
  case refused =>
    dsimp only
    have refused : ∀ st, ctlTakeOpen ts s.dev.reloadQuiet = refuse s.dev.reloadQuiet st →
        exec (.takeOpen tag body) s = .next (s.setDev (s.dev.answered tag 0x10#8 st [])) :=
      fun st he => arriveControl_refused h tag 0x10#8 (f := ctlTakeOpen) rfl he
    have hargs := openArgs_bytes ha
    split
    · rename_i hbad
      refine refused _ ?_
      have : openArgs ts = none := by
        rw [hargs]
        rcases hbad with hk | hf
        · rw [kindOf_eq_none.2 hk]
          rfl
        · rw [formatOf_eq_none.2 hf]
          cases kindOf kind.toNat <;> rfl
      simp [ctlTakeOpen, this]
    · rename_i hgood
      obtain ⟨x, hx⟩ := Option.ne_none_iff_exists'.1 (mt kindOf_eq_none.1 fun hk => hgood (.inl hk))
      obtain ⟨f, hf⟩ := Option.ne_none_iff_exists'.1 (mt formatOf_eq_none.1 fun hf => hgood (.inr hf))
      replace hargs : openArgs ts = some (id.toNat, x, f, k.toNat) := by rw [hargs, hx, hf]; rfl
      split
      · rename_i hid
        have hnum : numberOf 64 id.toNat = some ⟨id.toNat, hid⟩ := numberOf_of_lt hid
        split_ifs with h₁ h₂ h₃
        · exact refused _ (by simp [ctlTakeOpen, hargs, hnum, h₁])
        · have h₂' : (s.dev.reloadQuiet.take ⟨id.toNat, hid⟩).state ≠ .free := h₂
          refine refused _ ?_
          simp only [ctlTakeOpen, hargs, hnum]
          rw [if_neg h₁, if_pos h₂']
        · have h₂' : ¬ (s.dev.reloadQuiet.take ⟨id.toNat, hid⟩).state ≠ .free := h₂
          have h₃' : s.dev.reloadQuiet.smc.engine.state ≠ .idle := h₃
          refine refused _ ?_
          simp only [ctlTakeOpen, hargs, hnum]
          rw [if_neg h₁, if_neg h₂', if_pos h₃']
        · intro h₄
          have h₂' : ¬ (s.dev.reloadQuiet.take ⟨id.toNat, hid⟩).state ≠ .free := h₂
          have h₃' : ¬ s.dev.reloadQuiet.smc.engine.state ≠ .idle := h₃
          have h₄' : s.dev.reloadQuiet.goodSegments.length < k.toNat := h₄
          refine refused _ ?_
          simp only [ctlTakeOpen, hargs, hnum]
          rw [if_neg h₁, if_neg h₂', if_neg h₃', if_pos h₄']
      · rename_i hid
        exact refused _ (by simp [ctlTakeOpen, hargs, numberOf_of_le (Nat.not_lt.1 hid)])

/-- Settles O14: an index within a take lies in one of its segments, and two blocks lie in different segments or at different places of
one. -/
theorem blockAddresses : Obligations.BlockAddresses := by
  refine ⟨fun x b hk => by simp [Take.blockAddress, Take.storeIndex, hk], fun x b hk => ?ring, fun x i g hg => ?place, fun x i hi => ?within,
    fun x i j hn hi hj hij => ?oneTake, fun x y i j hd hi hj => ?twoTakes⟩
  case ring => simp [Take.blockAddress, Take.storeIndex, hk, Take.capacity, Config.blocksPerSegment]
  case place => simp [Take.address, Config.blocksPerSegment, Config.segmentBytes, Config.blockBytes, hg]
  case within =>
    obtain ⟨hs, ha⟩ := Take.address_of_lt hi
    have := (x.segments[i / 32768]'hs).isLt
    omega
  case oneTake =>
    obtain ⟨hsi, hai⟩ := Take.address_of_lt hi
    obtain ⟨hsj, haj⟩ := Take.address_of_lt hj
    rw [hai, haj]
    by_cases hseg : i / 32768 = j / 32768
    · simp only [hseg]
      omega
    · refine segments_apart fun he => hseg ?_
      exact (List.Nodup.getElem_inj_iff hn).1 (Fin.ext he)
  case twoTakes =>
    obtain ⟨hsi, hai⟩ := Take.address_of_lt hi
    obtain ⟨hsj, haj⟩ := Take.address_of_lt hj
    rw [hai, haj]
    refine segments_apart fun he => hd _ (List.getElem_mem hsi) ?_
    rw [Fin.ext he]
    exact List.getElem_mem hsj
end

section
/-! PROOFS. Closing and dropping takes, binding and unbinding streams, and verify and peek (O9, O10, O12, O13). -/

namespace Sys2Proof.Machine

/-! ### What waits at the arbiter (R147, R148) -/

theorem mem_searchOrder (last v : Fin 32) : v ∈ searchOrder last := by
  have h := mem_allVoices v
  rw [← List.take_append_drop (last.val + 1) allVoices] at h
  exact List.mem_append.2 (List.mem_append.1 h).symm

theorem Device.pickVoice_eq_none (d : Device) (level : Voice → Bool) :
    d.pickVoice level = none ↔ ∀ v, (d.voice v).waits = true → level (d.voice v) = false := by
  simp only [Device.pickVoice, List.find?_eq_none, Bool.and_eq_true, not_and, Bool.not_eq_true]
  exact ⟨fun h v => h v (mem_searchOrder _ v), fun h v _ => h v⟩

/-- R147, R148: what waits at the arbiter of a device. -/
structure Device.Quiet (d : Device) : Prop where
  debt : d.smc.debt = 0
  voices : ∀ v, (d.voice v).waits = false
  intake : d.siu.waits = false
  peek : d.ctu.waits = false
  verify : d.tks.verifyStage ≠ .waiting
  selftest : d.smc.engine.stage ≠ .waiting

/-- R148: a grant decision finds nothing exactly when nothing waits. -/
theorem Device.choose_eq_none (d : Device) : d.choose = none ↔ d.Quiet := by
  have hlast : d.chooseLast = none ↔ d.ctu.waits = false ∧ d.tks.verifyStage ≠ .waiting ∧ d.smc.engine.stage ≠ .waiting := by
    unfold Device.chooseLast
    split_ifs <;> simp_all
  have hu := d.pickVoice_eq_none Voice.urgent
  have hn := d.pickVoice_eq_none fun v => !v.urgent
  constructor
  · intro h
    unfold Device.choose at h
    split at h
    · cases h
    · split at h
      · cases h
      · rename_i hpu
        split at h
        · cases h
        · rename_i hi
          split at h
          · cases h
          · rename_i hpn
            split at h
            · cases h
            · rename_i hd
              obtain ⟨hc, hv, he⟩ := hlast.1 h
              refine ⟨by omega, fun v => ?_, by simpa using hi, hc, hv, he⟩
              by_contra hw
              have hw' := Bool.eq_true_of_not_eq_false hw
              have h₁ := hu.1 hpu v hw'
              have h₂ := hn.1 hpn v hw'
              simp [h₁] at h₂
  · rintro ⟨hd, hv, hi, hc, ht, he⟩
    have hnone : ∀ level, d.pickVoice level = none := fun level =>
      (d.pickVoice_eq_none level).2 fun v hw => absurd hw (by simp [hv v])
    unfold Device.choose
    rw [if_neg (by simp [hd, Config.debtMax]), hnone, hnone, hi]
    simpa [hd] using hlast.2 ⟨hc, ht, he⟩

/-- R147: a device that may grant no more than a settled one, and at whose arbiter no more waits, is settled. -/
theorem Device.Settled.of_quiet {d e : Device} (h : d.Settled) (hm : e.mayGrant = true → d.mayGrant = true)
    (hq : d.Quiet → e.Quiet) : e.Settled :=
  fun k => e.choose_eq_none.2 (hq (d.choose_eq_none.1 (h (hm k))))

/-! ### The quiet timer is apart from what the controls do (R189) -/

theorem Device.postAll_reloadQuiet (es : List Event) (d : Device) : d.reloadQuiet.postAll es = (d.postAll es).reloadQuiet := by
  induction es generalizing d with
  | nil => rfl
  | cons e es ih => exact ih (d.post e)

theorem Device.onVoice_reloadQuiet (d : Device) (v : Fin 32) (f : Ctx → Voice → Voice × List Event) :
    d.reloadQuiet.onVoice v f = (d.onVoice v f).reloadQuiet :=
  Device.postAll_reloadQuiet _ (d.setVoice v (f (d.ctx v) (d.voice v)).1)

/-- Operations that each leave the quiet timer aside leave it aside one after another. -/
theorem Device.foldl_comm {α : Type} {f : Device → α → Device} {g : Device → Device} (h : ∀ d a, f (g d) a = g (f d a)) (as : List α)
    (d : Device) : as.foldl f (g d) = g (as.foldl f d) := by
  induction as generalizing d with
  | nil => rfl
  | cons a as ih => rw [List.foldl_cons, h, ih, List.foldl_cons]

theorem Device.onVoices_reloadQuiet (f : Ctx → Voice → Voice × List Event) (d : Device) :
    d.reloadQuiet.onVoices f = (d.onVoices f).reloadQuiet :=
  Device.foldl_comm (g := Device.reloadQuiet) (fun d v => d.onVoice_reloadQuiet v f) allVoices d

/-! ### Unbinding (R134) -/

theorem Device.take_setTake_take (d : Device) (t : Fin 64) : d.setTake t (d.take t) = d := by
  simp [Device.setTake, Device.take, Device.setTks]

theorem Device.setTake_setTake (d : Device) (t : Fin 64) (x y : Take) : (d.setTake t x).setTake t y = d.setTake t y := by
  simp [Device.setTake, Device.setTks]

theorem Device.setTake_setSmc_setTake (d : Device) (t : Fin 64) (x y : Take) (m : Smc) :
    ((d.setTake t x).setSmc m).setTake t y = (d.setSmc m).setTake t y := (d.setSmc m).setTake_setTake t x y

theorem Siu.entry_isSome_iff (s : Siu) (g : BitVec 16) : (s.entry g).isSome = true ↔ ∃ e ∈ s.entries, e.tag = g := by
  constructor
  · intro h
    obtain ⟨e, he⟩ := Option.isSome_iff_exists.1 h
    obtain ⟨ht, hm⟩ := Siu.entry_some he
    exact ⟨e, hm, ht⟩
  · rintro ⟨e, hm, ht⟩
    by_contra h
    exact Siu.entry_none.1 (Option.not_isSome_iff_eq_none.1 h) e hm ht

/-- R132: with no tag held twice, an entry is the one of its tag. -/
theorem Siu.entry_of_nodup {s : Siu} (hn : (s.entries.map StreamEntry.tag).Nodup) {e : StreamEntry} (he : e ∈ s.entries) :
    s.entry e.tag = some e := by
  obtain ⟨e', h⟩ := Option.isSome_iff_exists.1 ((s.entry_isSome_iff e.tag).2 ⟨e, he, rfl⟩)
  obtain ⟨ht, he'⟩ := Siu.entry_some h
  rw [h, List.inj_on_of_nodup_map hn he' he ht]

theorem Device.StreamsAgree.entry {d : Device} (k : d.StreamsAgree) {e : StreamEntry} (he : e ∈ d.siu.entries) :
    d.siu.entry e.tag = some e := Siu.entry_of_nodup k.tags he

/-- R134: the entry of a tag is out of the table, its take unbound, and a judgement in hand marked. -/
theorem Device.unbind_of_entry {d : Device} {tag : BitVec 16} {e : StreamEntry} (h : d.siu.entry tag = some e) :
    d.unbind tag = (d.setSiu { d.siu with
      entries := d.siu.entries.filter (fun x => decide (x.tag ≠ tag)), stage := d.siu.stage.without tag }).setTake e.take
        { d.take e.take with tag := none } := by
  simp only [Device.unbind, h]

/-- R138, R142: no judgement in hand is of the tag. -/
theorem IntakeStage.without_free {s : Siu} {tag : BitVec 16} (h : s.FreeOf (some tag)) : s.stage.without tag = s.stage := by
  cases hs : s.stage with
  | idle => rfl
  | judged j =>
    have : j.packet.tag ≠ tag := fun e => (h.judged j hs).2 (e ▸ rfl)
    simp [IntakeStage.without, Judged.without, this]
  | writing j =>
    have : j.packet.tag ≠ tag := fun e => h.writing j hs (e ▸ rfl)
    simp [IntakeStage.without, Judged.without, this]

theorem Siu.withoutStream_none (s : Siu) : s.withoutStream none = s := by
  simp [Siu.withoutStream]

theorem Siu.filter_withoutStream (s : Siu) (tag : BitVec 16) :
    { s with entries := s.entries.filter (fun x => decide (x.tag ≠ tag)) } = s.withoutStream (some tag) := by
  unfold Siu.withoutStream
  congr 1
  refine List.filter_congr fun x _ => ?_
  simp [eq_comm]

/-- R134: the stream of an entry is unbound, with no packet of it in hand. -/
theorem Device.unbind_free {d : Device} {tag : BitVec 16} {e : StreamEntry} (h : d.siu.entry tag = some e)
    (hf : d.siu.FreeOf (some tag)) :
    d.unbind tag = (d.setSiu (d.siu.withoutStream (some tag))).setTake e.take { d.take e.take with tag := none } := by
  rw [Device.unbind_of_entry h, IntakeStage.without_free hf, Siu.filter_withoutStream d.siu tag]

/-- R134: a take's stream is unbound, with no packet of it in hand. -/
theorem Device.unbindTake_free {d : Device} (k : d.StreamsAgree) {t : Fin 64} (hf : d.siu.FreeOf (d.take t).tag) :
    d.unbindTake t = (d.setSiu (d.siu.withoutStream (d.take t).tag)).setTake t { d.take t with tag := none } := by
  unfold Device.unbindTake
  cases ht : (d.take t).tag with
  | none =>
    have hx : { d.take t with tag := none } = d.take t := by rw [← ht]
    rw [hx, Siu.withoutStream_none, Device.setSiu_self, Device.take_setTake_take]
  | some tag =>
    obtain ⟨e, he, rfl, rfl⟩ := k.entered t tag ht
    rw [ht] at hf
    exact Device.unbind_free (k.entry he) hf

/-- R142: with a judgement that stands, or none, nothing is judged again. -/
theorem Device.rejudgeIntake_stands {d : Device} (h : ∀ j, d.siu.stage = .judged j → j.stands = true) : d.rejudgeIntake = d := by
  unfold Device.rejudgeIntake
  split
  · rename_i j hj
    rw [if_pos (h j hj)]
  · rfl

/-! ### Closing and dropping (R121 to R124) -/

/-- R121: a FILLING take is closed, its stream unbound. -/
theorem Device.closeResident_unbound {d : Device} (k : d.StreamsAgree) {t : Fin 64} (hf : d.siu.FreeOf (d.take t).tag)
    (cause : CloseCause) :
    d.closeResident t cause =
      ((d.setSiu (d.siu.withoutStream (d.take t).tag)).setTake t { (d.take t).closed with tag := none }).post
        (evClosed t (d.take t).closed cause) := by
  unfold Device.closeResident
  rw [Device.unbindTake_free k hf]
  simp only [Device.take_setTake_self, Device.setTake_setTake]
  rfl

/-- R121: a FILLING take is closed, with no packet of its stream in hand. -/
theorem Device.closeResident_free {d : Device} (k : d.StreamsAgree) {t : Fin 64} (hf : d.siu.FreeOf (d.take t).tag)
    (cause : CloseCause) :
    (d.closeResident t cause).rejudgeIntake =
      ((d.setSiu (d.siu.withoutStream (d.take t).tag)).setTake t { (d.take t).closed with tag := none }).post
        (evClosed t (d.take t).closed cause) := by
  rw [Device.closeResident_unbound k hf]
  exact Device.rejudgeIntake_stands fun j hj => (hf.judged j hj).1

/-- R122: a LIVE ring is ended, its stream unbound. -/
theorem Device.endRing_unbound {d : Device} (k : d.StreamsAgree) {t : Fin 64} (hf : d.siu.FreeOf (d.take t).tag) (cause : CloseCause) :
    d.endRing t cause =
      (((d.setSiu (d.siu.withoutStream (d.take t).tag)).setTake t { d.take t with state := TakeState.ended, tag := none }).post
        (evEnded t (d.take t) cause)).onVoices (fun c v => v.ringEnded c t) := by
  unfold Device.endRing
  rw [Device.unbindTake_free k hf]
  simp only [Device.take_setTake_self, Device.setTake_setTake]
  rfl

/-- R122: a LIVE ring is ended, with no packet of its stream in hand. -/
theorem Device.endRing_free {d : Device} (k : d.StreamsAgree) {t : Fin 64} (hf : d.siu.FreeOf (d.take t).tag) (cause : CloseCause) :
    (d.endRing t cause).rejudgeIntake =
      (((d.setSiu (d.siu.withoutStream (d.take t).tag)).setTake t { d.take t with state := TakeState.ended, tag := none }).post
        (evEnded t (d.take t) cause)).onVoices (fun c v => v.ringEnded c t) := by
  rw [Device.endRing_unbound k hf]
  refine Device.rejudgeIntake_stands fun j hj => (hf.judged j ?_).1
  rw [Device.onVoices_siu] at hj
  exact hj

theorem Smc.forgetTake_eq (t : Fin 64) (s : Smc) :
    s.forgetTake t = { s with injection := s.injection.filter (fun i => decide (i.take ≠ t)) } := by
  unfold Smc.forgetTake
  split
  · rename_i h
    rw [h, Option.filter_none, ← h]
  · rename_i i h
    by_cases ht : i.take = t
    · simp [h, ht, Option.filter]
    · simp only [ht, if_false, h, Option.filter_some, ne_eq, not_false_eq_true, decide_true, if_true]
      rw [← h]

/-- R124: what a verify of the take leaves of its record. -/
def Take.droppedVerify (x : Take) : Verify :=
  if x.verify.state = .running then { x.verify with state := VerifyState.aborted } else x.verify

/-- R124: a take is dropped, with no packet of its stream in hand; the end of a running verify is posted. -/
theorem Device.dropTake_free {d : Device} (k : d.StreamsAgree) {t : Fin 64} (hf : d.siu.FreeOf (d.take t).tag) :
    let x := d.take t
    let w := ((d.setTks { d.tks with
        takes := d.tks.takes.set t (Take.free x.droppedVerify)
        verifyStage := if x.verify.state = .running then .idle else d.tks.verifyStage }).setSiu (d.siu.withoutStream x.tag)).setSmc
          { d.smc with injection := d.smc.injection.filter (fun i => decide (i.take ≠ t)) }
    d.dropTake t = if x.verify.state = .running then w.post (evVerifyDone t x.droppedVerify .aborted) else w := by
  intro x w
  have hagree : (d.abortVerify t).StreamsAgree := (d.abortVerify_keeps t).streams k
  have hsiu : (d.abortVerify t).siu = d.siu := by
    unfold Device.abortVerify
    dsimp only
    split <;> rfl
  have htag : ((d.abortVerify t).take t).tag = x.tag := by
    unfold Device.abortVerify
    dsimp only
    split
    · exact (congrArg Take.tag (Device.take_setTake_self d t _)).trans rfl
    · rfl
  have hf' : (d.abortVerify t).siu.FreeOf ((d.abortVerify t).take t).tag := by rw [hsiu, htag]; exact hf
  unfold Device.dropTake
  dsimp only
  rw [Device.unbindTake_free hagree hf', htag, hsiu, Smc.forgetTake_eq]
  refine (Device.rejudgeIntake_stands ?_).trans ?_
  · exact fun j hj => (hf.judged j hj).1
  rw [Device.setTake_setSmc_setTake, Device.take_setTake_self]
  by_cases hr : x.verify.state = .running
  · have habort : d.abortVerify t = ((d.setTake t { x with verify := x.droppedVerify }).setVerifyStage .idle).post
        (evVerifyDone t x.droppedVerify .aborted) := by
      have hr' : (d.take t).verify.state = .running := hr
      simp only [Device.abortVerify, hr', if_true, x, Take.droppedVerify]
      rfl
    have hmoved : ((((((d.setTake t { x with verify := x.droppedVerify }).setTake t (Take.free x.droppedVerify)).setVerifyStage
        .idle).setSiu (d.siu.withoutStream x.tag)).setSmc
          { d.smc with injection := d.smc.injection.filter (fun i => decide (i.take ≠ t)) }).post
            (evVerifyDone t x.droppedVerify .aborted)) = w.post (evVerifyDone t x.droppedVerify .aborted) := by
      rw [Device.setTake_setTake]
      simp only [w, hr, if_true]
      rfl
    have htake : (d.abortVerify t).take t = { x with verify := x.droppedVerify } := by
      rw [habort]
      exact Device.take_setTake_self _ _ _
    rw [if_pos hr, ← hmoved, htake, habort]
    rfl
  · have habort : d.abortVerify t = d := by
      have hr' : ¬ (d.take t).verify.state = .running := hr
      simp only [Device.abortVerify, hr', if_false]
    rw [if_neg hr, habort]
    simp only [w, Take.droppedVerify, hr, if_false]
    rfl

theorem Device.cuesNaming_eq_zero_iff (d : Device) (t : Fin 64) :
    d.cuesNaming t = 0 ↔ ∀ v, ∀ c ∈ (d.voice v).cues, c.take ≠ t := by
  refine ⟨Device.cuesNaming_eq_zero, fun h => List.sum_eq_zero fun n hn => ?_⟩
  obtain ⟨v, -, rfl⟩ := List.mem_map.1 hn
  rw [List.length_eq_zero_iff, List.filter_eq_nil_iff]
  exact fun c hc => by simpa using h v c hc

end Sys2Proof.Machine

open Sys2Proof Sys2Proof.Machine

/-- Settles O9: the closed or ended take by the rule of its unbinding, and the refusals by its state. -/
theorem takeCloseEndsWriting : Obligations.TakeCloseEndsWriting := by
  refine ⟨fun s tag body ts t h ha hs hk hf => ?filling, fun s tag body ts t h ha => ⟨fun hs hk hf => ?live, fun hs => ?free, fun hs => ?closed⟩⟩
  case filling =>
    intro x n length holes
    have hk' : s.dev.reloadQuiet.StreamsAgree := hk.congr rfl (fun _ => rfl) fun _ => rfl
    have hctl : ctlTakeClose ts s.dev.reloadQuiet = accept (s.dev.reloadQuiet.closeResident t .control).rejudgeIntake [] := by
      have hs' : (s.dev.reloadQuiet.take t).state = .filling := hs
      simp only [ctlTakeClose, numbered_take ha, hs']
    refine arriveControl_answered h tag 0x11#8 (f := ctlTakeClose) rfl ?_ ?_
    · have hn : (s.dev.take t).writtenEnd = n := by
        simp only [n, x, Take.writtenEnd]
        cases (s.dev.take t).written.getLast? <;> rfl
      have hclosed : (s.dev.reloadQuiet.take t).closed =
          { x with state := .ready, blockCount := n, length := length, holes := holes, written := [], lastCount := 0 } := by
        show (s.dev.take t).closed = _
        simp only [Take.closed, hn]
        rfl
      rw [hctl, Device.closeResident_free hk' hf, hclosed]
      rfl
    · exact h.settled.of_quiet id fun q => ⟨q.debt, q.voices, q.intake, q.peek, q.verify, q.selftest⟩
  case live =>
    have hk' : s.dev.reloadQuiet.StreamsAgree := hk.congr rfl (fun _ => rfl) fun _ => rfl
    have hctl : ctlTakeClose ts s.dev.reloadQuiet = accept (s.dev.reloadQuiet.endRing t .control).rejudgeIntake [] := by
      have hs' : (s.dev.reloadQuiet.take t).state = .live := hs
      simp only [ctlTakeClose, numbered_take ha, hs']
    refine arriveControl_granted h tag 0x11#8 (f := ctlTakeClose) rfl ?_
    rw [hctl, Device.endRing_free hk' hf, ← Device.onVoices_reloadQuiet]
    have hev : ∀ bytes, ringBytes (s.dev.take t).ring = bytes → evEnded t (s.dev.reloadQuiet.take t) .control =
        { source := 5, kind := 1, detail := [[leBytes 1 t.val], [leBytes 3 (s.dev.take t).opening], [leBytes 1 0], [bytes]] } := by
      rintro _ rfl
      rfl
    cases hr : (s.dev.take t).ring with
    | none => rw [hev [1#8] (by rw [hr]; rfl)]; rfl
    | some r => rw [hev (0#8 :: (leBytes 4 r.first.toNat ++ leBytes 4 r.w.toNat)) (by rw [hr]; rfl)]; rfl
  case free =>
    have hs' : (s.dev.reloadQuiet.take t).state = .free := hs
    exact arriveControl_refused h tag 0x11#8 (f := ctlTakeClose) rfl (by simp only [ctlTakeClose, numbered_take ha, hs'])
  case closed =>
    refine arriveControl_refused h tag 0x11#8 (f := ctlTakeClose) rfl ?_
    rcases hs with hs | hs
    · have hs' : (s.dev.reloadQuiet.take t).state = .ready := hs
      simp only [ctlTakeClose, numbered_take ha, hs']
    · have hs' : (s.dev.reloadQuiet.take t).state = .ended := hs
      simp only [ctlTakeClose, numbered_take ha, hs']

/-- Settles O10: the accepted drop by the rules of the aborted verify and the unbound stream, and the two refusals. -/
theorem takeDropFrees : Obligations.TakeDropFrees := by
  intro s tag body ts t h ha
  refine ⟨fun hs => ?free, fun hs hc => ?cued, fun hs hc hk hf => ?dropped⟩
  case free =>
    have hs' : (s.dev.reloadQuiet.take t).state = .free := hs
    exact arriveControl_refused h tag 0x12#8 (f := ctlTakeDrop) rfl (by simp only [ctlTakeDrop, numbered_take ha, hs', if_true])
  case cued =>
    have hs' : ¬ (s.dev.reloadQuiet.take t).state = .free := hs
    have hn : s.dev.reloadQuiet.cuesNaming t ≠ 0 := by
      rw [Ne, Device.cuesNaming_eq_zero_iff]
      obtain ⟨v, c, hc, hct⟩ := hc
      exact fun k => k v c hc hct
    refine arriveControl_refused h tag 0x12#8 (f := ctlTakeDrop) rfl ?_
    simp only [ctlTakeDrop, numbered_take ha, hs', if_false]
    rw [if_pos hn]
  case dropped =>
    intro x r d
    have hs' : ¬ (s.dev.reloadQuiet.take t).state = .free := hs
    have hn : ¬ s.dev.reloadQuiet.cuesNaming t ≠ 0 := not_not.2 ((Device.cuesNaming_eq_zero_iff _ t).2 hc)
    have hk' : s.dev.reloadQuiet.StreamsAgree := hk.congr rfl (fun _ => rfl) fun _ => rfl
    have hctl : ctlTakeDrop ts s.dev.reloadQuiet = accept (s.dev.reloadQuiet.dropTake t) [] := by
      simp only [ctlTakeDrop, numbered_take ha, hs', if_false]
      rw [if_neg hn]
    refine arriveControl_answered h tag 0x12#8 (f := ctlTakeDrop) rfl ?_ ?_
    · rw [hctl, Device.dropTake_free hk' hf]
      by_cases hr : x.verify.state = .running
      · have hr' : (s.dev.reloadQuiet.take t).verify.state = .running := hr
        rw [if_pos hr, if_pos hr']
        rfl
      · have hr' : ¬ (s.dev.reloadQuiet.take t).verify.state = .running := hr
        rw [if_neg hr, if_neg hr']
        rfl
    · have hd : d.Settled := h.settled.of_quiet id fun q => by
        refine ⟨q.debt, q.voices, q.intake, q.peek, ?_, q.selftest⟩
        show (if x.verify.state = .running then Stage.idle else s.dev.tks.verifyStage) ≠ .waiting
        split
        · decide
        · exact q.verify
      split
      · exact hd.congr rfl rfl rfl rfl rfl rfl
      · exact hd
end

section
/-! PROOFS. Binding and unbinding streams (O12), and the start of a verify and of a peek (O13). -/

namespace Sys2Proof.Machine

/-! ### A packet judged again (R142) -/

/-- R142: a withdrawn judgement frees the intake, and the packet at the head of the queue, of no stream any more, is dropped. -/
theorem Device.rejudgeIntake_unrouted {d : Device} {j : Judged} {p : SamplePkt} {rest : List SamplePkt} (ha : d.pwc.power = .active)
    (hs : d.siu.stage = .judged j) (hj : j.stands = false) (hq : d.bli.sampleQ = p :: rest) (he : d.siu.entry p.tag = none) :
    d.rejudgeIntake = (d.popSample.setSiu { d.siu with unrouted := satAdd Config.max32 d.siu.unrouted 1, stage := .idle }).post
      (evUnknownStream p d.stu.time) := by
  have hact : (d.setSiu { d.siu with stage := .idle }).judgement p = .unrouted := by
    have he' : (d.setSiu { d.siu with stage := .idle }).siu.entry p.tag = none := he
    simp only [Device.judgement, he']
  have hfree : (d.setSiu { d.siu with stage := .idle }).judgeHead =
      (d.setSiu { d.siu with stage := .idle }).actOn p ((d.setSiu { d.siu with stage := .idle }).judgement p) := by
    simp [Device.judgeHead, hq, ha]
  simp only [Device.rejudgeIntake, hs, hj]
  rw [if_neg (by decide), hfree, hact]
  rfl

/-! ### Verify (R125) -/

theorem Device.verifying_iff (d : Device) : d.verifying = true ↔ ∃ u : Fin 64, (d.take u).verify.state = .running := by
  simp only [Device.verifying, List.any_eq_true, decide_eq_true_eq]
  exact ⟨fun ⟨u, _, h⟩ => ⟨u, h⟩, fun ⟨u, h⟩ => ⟨u, mem_all64 u, h⟩⟩

/-- R125: the record of a verify that begins. -/
def Take.newVerify (x : Take) : Verify :=
  { state := .running, opening := x.opening, first := x.verifyRange.1, size := x.verifyRange.2, next := x.verifyRange.1, checked := 0,
    absent := 0, corrupt := 0, firstBad := none }

theorem Device.startVerify_of_size {t : Fin 64} {d : Device} (h : (d.take t).verifyRange.2 ≠ 0) :
    d.startVerify t = d.setTks { d.tks with
      takes := d.tks.takes.set t { d.take t with verify := (d.take t).newVerify }, verifyTake := t, verifyStage := .waiting } := by
  simp only [Device.startVerify]
  rw [if_neg h]
  rfl

theorem Device.startVerify_empty {t : Fin 64} {d : Device} (h : (d.take t).verifyRange.2 = 0) :
    d.startVerify t = (d.setTks { d.tks with
      takes := d.tks.takes.set t { d.take t with verify := { (d.take t).newVerify with state := .done } }, verifyStage := .idle }).post
        (evVerifyDone t { (d.take t).newVerify with state := .done } .done) := by
  have hdone : ∀ r : Verify, (d.setVerify t r).verifyDone t =
      ((d.setVerify t { r with state := .done }).setVerifyStage .idle).post (evVerifyDone t { r with state := .done } .done) := by
    intro r
    simp only [Device.verifyDone, Device.setVerify, Device.take_setTake_self, Device.setTake_setTake]
  simp only [Device.startVerify]
  rw [if_pos h, hdone]
  rfl

end Sys2Proof.Machine

open Sys2Proof Sys2Proof.Machine

/-- Settles O12: bind and unbind by the entry of their tag, and the packet in hand by the judgement that finds no entry. -/
theorem streamsAreBoundAndUnbound : Obligations.StreamsAreBoundAndUnbound := by
  refine ⟨fun s tag g body ts t h ha hg => ?bind, fun s tag g body ts h hg => ⟨fun hn => ?none, fun e he hte hnd hf => ?unbind⟩,
    fun d e j p rest hact hent hst hjt hq hpt => ?rejudged⟩
  case bind =>
    dsimp only
    have refused : ∀ st, ctlStreamBind ts s.dev.reloadQuiet = refuse s.dev.reloadQuiet st →
        exec (.streamBind tag body) s = .next (s.setDev (s.dev.answered tag 0x18#8 st [])) :=
      fun st he => arriveControl_refused h tag 0x18#8 (f := ctlStreamBind) rfl he
    have htaken : (s.dev.reloadQuiet.siu.entry g).isSome = true ↔ ∃ e ∈ s.dev.siu.entries, e.tag = g := Siu.entry_isSome_iff _ g
    have htake : s.dev.reloadQuiet.take t = s.dev.take t := rfl
    have hctl : ctlStreamBind ts s.dev.reloadQuiet =
        if (s.dev.reloadQuiet.siu.entry g).isSome then refuse s.dev.reloadQuiet .inUse
        else if (s.dev.take t).state = .free then refuse s.dev.reloadQuiet .noTake
        else if (s.dev.take t).state = .ready ∨ (s.dev.take t).state = .ended then refuse s.dev.reloadQuiet .state
        else if (s.dev.take t).tag.isSome then refuse s.dev.reloadQuiet .inUse
        else accept (s.dev.reloadQuiet.bind g t) [num 2 g.toNat, num 1 t.val] := by
      simp only [ctlStreamBind, hg, numbered_take ha, field_word, htake]
    split_ifs with h₁ h₂ h₃ h₄
    · exact refused _ (by rw [hctl, if_pos (htaken.2 h₁)])
    · exact refused _ (by rw [hctl, if_neg (mt htaken.1 h₁), if_pos h₂])
    · exact refused _ (by rw [hctl, if_neg (mt htaken.1 h₁), if_neg h₂, if_pos h₃])
    · exact refused _ (by rw [hctl, if_neg (mt htaken.1 h₁), if_neg h₂, if_neg h₃, if_pos (Option.isSome_iff_ne_none.2 h₄)])
    · refine arriveControl_answered h tag 0x18#8 (f := ctlStreamBind) rfl ?_
        (h.settled.of_quiet id fun q => ⟨q.debt, q.voices, q.intake, q.peek, q.verify, q.selftest⟩)
      rw [hctl, if_neg (mt htaken.1 h₁), if_neg h₂, if_neg h₃, if_neg (mt Option.isSome_iff_ne_none.1 h₄)]
      rfl
  case none =>
    have hent : s.dev.reloadQuiet.siu.entry g = none := Siu.entry_none.2 hn
    exact arriveControl_refused h tag 0x19#8 (f := ctlStreamUnbind) rfl (by simp only [ctlStreamUnbind, hg, field_word, hent])
  case unbind =>
    subst hte
    have hent : s.dev.reloadQuiet.siu.entry e.tag = some e := Siu.entry_of_nodup hnd he
    have hctl : ctlStreamUnbind ts s.dev.reloadQuiet =
        accept (s.dev.reloadQuiet.unbind e.tag).rejudgeIntake [num 1 e.take.val, num 4 e.accepted, num 4 e.dropped] := by
      simp only [ctlStreamUnbind, hg, field_word, hent]
    refine arriveControl_answered h tag 0x19#8 (f := ctlStreamUnbind) rfl ?_
      (h.settled.of_quiet id fun q => ⟨q.debt, q.voices, q.intake, q.peek, q.verify, q.selftest⟩)
    rw [hctl, Device.unbind_free hent hf]
    refine congrArg (fun w => (w, some (Status.ok, _))) ((Device.rejudgeIntake_stands ?_).trans rfl)
    exact fun j hj => (hf.judged j hj).1
  case rejudged =>
    have hun := Device.unbind_of_entry hent
    have hstage : (d.unbind e.tag).siu.stage = .judged { j with stands := false } := by
      rw [hun]
      show d.siu.stage.without e.tag = _
      simp [hst, IntakeStage.without, Judged.without, hjt]
    have hgone : (d.unbind e.tag).siu.entry p.tag = none := by
      rw [hun, Siu.entry_none]
      intro x hx
      rw [hpt]
      simpa using (List.mem_filter.1 hx).2
    rw [Device.rejudgeIntake_unrouted (d := d.unbind e.tag) (by rw [hun]; exact hact) hstage rfl (by rw [hun]; exact hq) hgone, hun]
    rfl

/-- Settles O13: the verify by whether its range is empty, the peek by its checks. -/
theorem verifyAndPeekStart : Obligations.VerifyAndPeekStart := by
  refine ⟨fun s tag body ts t h ha => ?verify, fun x => ⟨fun hk hs => ?filling, fun hk hs => ?ready, fun hk hr => ?none, fun r hk hr => ?ring⟩,
    fun s tag body ts t b h ha hb => ?peek⟩
  case verify =>
    intro x range r
    have htake : s.dev.reloadQuiet.take t = x := rfl
    have hctl : ctlTakeVerify ts s.dev.reloadQuiet =
        if x.state = .free then refuse s.dev.reloadQuiet .noTake
        else if s.dev.reloadQuiet.verifying then refuse s.dev.reloadQuiet .busy
        else (s.dev.reloadQuiet.startVerify t, some (.accepted, [])) := by
      simp only [ctlTakeVerify, numbered_take ha, htake]
    have hrun : s.dev.reloadQuiet.verifying = true ↔ ∃ u : Fin 64, (s.dev.take u).verify.state = .running := Device.verifying_iff _
    have still : (∀ u : Fin 64, (s.dev.take u).verify.state ≠ .running) → ¬ s.dev.reloadQuiet.verifying = true := by
      intro k hv
      obtain ⟨u, hu⟩ := hrun.1 hv
      exact k u hu
    refine ⟨fun hs => ?_, fun hs hu => ?_, fun hs hu hsize => ?_, fun hs hu hsize => ?_⟩
    · exact arriveControl_refused h tag 0x13#8 (f := ctlTakeVerify) rfl (by rw [hctl, if_pos hs])
    · exact arriveControl_refused h tag 0x13#8 (f := ctlTakeVerify) rfl (by rw [hctl, if_neg hs, if_pos (hrun.2 hu)])
    · refine arriveControl_granted h tag 0x13#8 (f := ctlTakeVerify) rfl ?_
      rw [hctl, if_neg hs, if_neg (still hu), Device.startVerify_of_size (d := s.dev.reloadQuiet) hsize]
      rfl
    · refine arriveControl_answered h tag 0x13#8 (f := ctlTakeVerify) rfl ?_
        (h.settled.of_quiet id fun q => ⟨q.debt, q.voices, q.intake, q.peek, nofun, q.selftest⟩)
      rw [hctl, if_neg hs, if_neg (still hu), Device.startVerify_empty (d := s.dev.reloadQuiet) hsize]
      rfl
  case filling =>
    simp only [Take.verifyRange, hk, hs, Take.writtenEnd]
    cases x.written.getLast? <;> rfl
  case ready => simp only [Take.verifyRange, hk, hs]
  case none => simp only [Take.verifyRange, hk, hr]
  case ring =>
    intro low
    have hrange : x.verifyRange = (let start := if 0 ≤ BlockNo.diff low r.first then low else r.first; (start, (r.w - start).toNat)) := by
      simp only [Take.verifyRange, hk, hr, low]
    rw [hrange]
    exact ⟨rfl, rfl⟩
  case peek =>
    intro x
    have htake : s.dev.reloadQuiet.take t = x := rfl
    have hcap : x.capacity = x.segments.length * 32768 := rfl
    have hctl : ctlTakePeek tag ts s.dev.reloadQuiet =
        if x.state = .free then refuse s.dev.reloadQuiet .noTake
        else if x.kind = .resident ∧ x.segments.length * 32768 ≤ b.toNat then refuse s.dev.reloadQuiet .range
        else (s.dev.reloadQuiet.startPeek tag t b, none) := by
      simp only [ctlTakePeek, hb, numbered_take ha, field_double, htake, hcap]
    refine ⟨fun hs => ?_, fun hs hk hr => ?_, fun hs hr => ?_⟩
    · exact arriveControl_refused h tag 0x14#8 (f := ctlTakePeek tag) rfl (by rw [hctl, if_pos hs])
    · exact arriveControl_refused h tag 0x14#8 (f := ctlTakePeek tag) rfl (by rw [hctl, if_neg hs, if_pos ⟨hk, hr⟩])
    · have hin : ¬ (x.kind = .resident ∧ x.segments.length * 32768 ≤ b.toNat) := by
        rintro ⟨hk, hle⟩
        rcases hr with hr | hr
        · rw [hk] at hr
          cases hr
        · omega
      refine (arriveControl_takes h tag 0x14#8 (f := ctlTakePeek tag) rfl).trans ?_
      rw [hctl, if_neg hs, if_neg hin]
      rfl
end

section
/-! PROOFS. What unbinding a stream does to its packet in hand (O11). -/

namespace Sys2Proof.Machine

/-! ### A grant decision and what it does not read (R147, R148) -/

/-- The device with another intake stage. -/
def Device.withStage (d : Device) (st : IntakeStage) : Device := d.setSiu { d.siu with stage := st }

/-- The device with another link, another intake and other notices. -/
def Device.withRest (d : Device) (b : Bli) (x : Siu) (n : Ntu) : Device := ((d.setBli b).setSiu x).setNtu n

theorem Device.withRest_self (d : Device) : d.withRest d.bli d.siu d.ntu = d := rfl

/-- R148: the intake's write is chosen only while it waits. -/
theorem Device.choose_ne_intake {d : Device} (h : d.siu.waits = false) : d.choose ≠ some .intake := by
  have hlast : d.chooseLast ≠ some .intake := by
    unfold Device.chooseLast
    split_ifs <;> nofun
  unfold Device.choose
  rw [h]
  split
  · nofun
  · split
    · nofun
    · rw [if_neg (by decide)]
      split
      · nofun
      · split
        · nofun
        · exact hlast

/-- A grant of anything but the intake's write leaves the link, the intake and the notices aside. -/
theorem Device.grantChoice_withRest {c : Choice} (hc : c ≠ .intake) (d : Device) (b : Bli) (x : Siu) (n : Ntu) :
    (d.withRest b x n).grantChoice c = (d.grantChoice c).withRest b x n := by
  cases c with
  | refresh => rfl
  | fetch v =>
    show (d.withRest b x n).grantFetch v = (d.grantFetch v).withRest b x n
    unfold Device.grantFetch
    have hv : (d.withRest b x n).voice v = d.voice v := rfl
    rw [hv]
    split <;> rfl
  | intake => exact absurd rfl hc
  | peek =>
    show (d.withRest b x n).grantPeek = d.grantPeek.withRest b x n
    unfold Device.grantPeek
    have hv : (d.withRest b x n).ctu = d.ctu := rfl
    rw [hv]
    split <;> rfl
  | verify => rfl
  | selftest =>
    show (d.withRest b x n).grantSelftest = d.grantSelftest.withRest b x n
    unfold Device.grantSelftest
    have hv : (d.withRest b x n).smc = d.smc := rfl
    dsimp only
    rw [hv]
    split <;> rfl

/-- With no intake's write waiting before or after, a grant decision leaves the link, the intake and the notices aside. -/
theorem Device.grant_withRest {d : Device} (h : d.siu.waits = false) (b : Bli) {x : Siu} (hx : x.waits = false) (n : Ntu) :
    (d.withRest b x n).grant = d.grant.withRest b x n := by
  have hchoose : (d.withRest b x n).choose = d.choose := by
    have hi : (d.withRest b x n).siu.waits = d.siu.waits := hx.trans h.symm
    simp only [Device.choose, hi]
    rfl
  have hmay : (d.withRest b x n).mayGrant = d.mayGrant := rfl
  unfold Device.grant
  rw [hmay, hchoose]
  split
  · cases hc : d.choose with
    | none => rfl
    | some c => exact Device.grantChoice_withRest (fun e => Device.choose_ne_intake h (hc.trans (congrArg some e))) d b x n
  · rfl

/-- R147: with no intake's write waiting, a grant decision changes neither the link nor the intake. -/
theorem Device.grant_link {d : Device} (h : d.siu.waits = false) : d.grant.bli = d.bli ∧ d.grant.siu = d.siu := by
  have hg := Device.grant_withRest h d.bli h d.ntu
  rw [Device.withRest_self] at hg
  rw [hg]
  exact ⟨rfl, rfl⟩

/-! ### An operation that unbinds a stream (R134, R138, R142) -/

/-- What an operation that unbinds the stream of an entry does with the intake's stage: whatever the stage is, it marks a judgement of the
stream, and the rest of what it makes of the device is the same. -/
structure Device.Unbinds (g : BitVec 16) (f : Device → Device) (d : Device) : Prop where
  stage : ∀ st, f (d.withStage st) = (f (d.withStage .idle)).withStage (st.without g)
  idle : (f (d.withStage .idle)).siu.stage = .idle
  gone : ∀ x ∈ (f (d.withStage .idle)).siu.entries, x.tag ≠ g
  bli : (f (d.withStage .idle)).bli = d.bli
  stu : (f (d.withStage .idle)).stu = d.stu
  power : (f (d.withStage .idle)).pwc.power = d.pwc.power

/-- R134: the unbinding of an entry's tag. -/
theorem Device.unbind_unbinds {d : Device} {e : StreamEntry} (h : d.siu.entry e.tag = some e) : Device.Unbinds e.tag (Device.unbind e.tag) d := by
  have hun : ∀ st, (d.withStage st).unbind e.tag = (((d.withStage st).setSiu { (d.withStage st).siu with
      entries := (d.withStage st).siu.entries.filter (fun x => decide (x.tag ≠ e.tag)), stage := st.without e.tag }).setTake e.take
        { d.take e.take with tag := none }) := fun st => Device.unbind_of_entry h
  refine ⟨fun st => ?_, by rw [hun]; rfl, fun x hx => ?_, by rw [hun]; rfl, by rw [hun]; rfl, by rw [hun]; rfl⟩
  · rw [hun, hun]
    rfl
  · rw [hun] at hx
    simpa using (List.mem_filter.1 hx).2

/-- R134: the unbinding of the take that an entry binds. -/
theorem Device.unbindTake_of_bound {d : Device} {t : Fin 64} {g : BitVec 16} (h : (d.take t).tag = some g) :
    d.unbindTake t = d.unbind g := by
  simp only [Device.unbindTake, h]

/-- An operation that leaves the intake, the link, the scene and the power state may follow an unbinding. -/
theorem Device.Unbinds.followed {g : BitVec 16} {f k : Device → Device} {d : Device} (h : Device.Unbinds g f d)
    (hst : ∀ (e : Device) (st : IntakeStage), k (e.withStage st) = (k e).withStage st) (hsiu : ∀ e : Device, (k e).siu = e.siu)
    (hbli : ∀ e : Device, (k e).bli = e.bli) (hstu : ∀ e : Device, (k e).stu = e.stu)
    (hpwc : ∀ e : Device, (k e).pwc = e.pwc) : Device.Unbinds g (fun e => k (f e)) d where
  stage st := by rw [h.stage st, hst]
  idle := by rw [hsiu]; exact h.idle
  gone x hx := h.gone x (by rwa [hsiu] at hx)
  bli := (hbli _).trans h.bli
  stu := (hstu _).trans h.stu
  power := by rw [hpwc]; exact h.power

/-- An operation that leaves the intake, the link, the scene and the power state may come before an unbinding. -/
theorem Device.Unbinds.preceded {g : BitVec 16} {f k : Device → Device} {d : Device} (h : Device.Unbinds g f (k d))
    (hst : ∀ st : IntakeStage, k (d.withStage st) = (k d).withStage st) (hbli : (k d).bli = d.bli)
    (hstu : (k d).stu = d.stu) (hpwc : (k d).pwc = d.pwc) : Device.Unbinds g (fun e => f (k e)) d where
  stage st := by rw [hst, hst]; exact h.stage st
  idle := by rw [hst]; exact h.idle
  gone x hx := h.gone x (by rwa [hst] at hx)
  bli := by rw [hst]; exact h.bli.trans hbli
  stu := by rw [hst]; exact h.stu.trans hstu
  power := by rw [hst]; exact h.power.trans (congrArg Pwc.power hpwc)

/-! ### Voices go on beside the intake -/

theorem Device.onVoices_withStage (f : Ctx → Voice → Voice × List Event) (d : Device) (st : IntakeStage) :
    (d.withStage st).onVoices f = (d.onVoices f).withStage st := by
  refine Device.foldl_comm (g := fun e => e.withStage st) (fun d v => ?_) allVoices d
  have hpost : ∀ (es : List Event) (e : Device), (e.withStage st).postAll es = (e.postAll es).withStage st := by
    intro es
    induction es with
    | nil => intro e; rfl
    | cons e es ih => intro x; exact ih (x.post e)
  exact hpost _ (d.setVoice v (f (d.ctx v) (d.voice v)).1)

/-- R121: the close of a bound resident take, apart from the unbinding. -/
def Device.closeBound (t : Fin 64) (cause : CloseCause) (w : Device) : Device :=
  (w.setTake t (w.take t).closed).post (evClosed t (w.take t).closed cause)

/-- R122: the end of a bound ring, apart from the unbinding. -/
def Device.endBound (t : Fin 64) (cause : CloseCause) (w : Device) : Device :=
  ((w.setTake t { w.take t with state := TakeState.ended }).post
    (evEnded t { w.take t with state := TakeState.ended } cause)).onVoices (fun c v => v.ringEnded c t)

/-- R124: the drop of a take, apart from the verify and the unbinding. -/
def Device.dropBound (t : Fin 64) (w : Device) : Device :=
  (w.setSmc (w.smc.forgetTake t)).setTake t (Take.free (w.take t).verify)

theorem Device.unbindTake_unbinds {d : Device} (k : d.StreamsAgree) {e : StreamEntry} (he : e ∈ d.siu.entries) :
    Device.Unbinds e.tag (Device.unbindTake e.take) d := by
  have hb : ∀ st, (d.withStage st).unbindTake e.take = (d.withStage st).unbind e.tag := fun st => Device.unbindTake_of_bound (k.bound e he)
  have h := Device.unbind_unbinds (k.entry he)
  exact ⟨fun st => by rw [hb, hb]; exact h.stage st, by rw [hb]; exact h.idle, fun x hx => h.gone x (by rwa [hb] at hx),
    by rw [hb]; exact h.bli, by rw [hb]; exact h.stu, by rw [hb]; exact h.power⟩

theorem Device.closeResident_unbinds {d : Device} (k : d.StreamsAgree) {e : StreamEntry} (he : e ∈ d.siu.entries) (cause : CloseCause) :
    Device.Unbinds e.tag (Device.closeResident e.take cause) d :=
  (Device.unbindTake_unbinds k he).followed (k := Device.closeBound e.take cause) (fun _ _ => rfl) (fun _ => rfl) (fun _ => rfl)
    (fun _ => rfl) fun _ => rfl

theorem Device.endRing_unbinds {d : Device} (k : d.StreamsAgree) {e : StreamEntry} (he : e ∈ d.siu.entries) (cause : CloseCause) :
    Device.Unbinds e.tag (Device.endRing e.take cause) d := by
  refine (Device.unbindTake_unbinds k he).followed (k := Device.endBound e.take cause) (fun w st => ?_) (fun w => ?_) (fun w => ?_)
    (fun w => ?_) fun w => ?_
  · exact Device.onVoices_withStage _ ((w.setTake e.take { w.take e.take with state := TakeState.ended }).post
      (evEnded e.take { w.take e.take with state := TakeState.ended } cause)) st
  · rw [Device.endBound, Device.onVoices_siu]; rfl
  · rw [Device.endBound, Device.onVoices_bli]; rfl
  · rw [Device.endBound, Device.onVoices_stu]; rfl
  · rw [Device.endBound, Device.onVoices_pwc]; rfl

theorem Device.abortVerify_frame (t : Fin 64) (d : Device) :
    (d.abortVerify t).siu = d.siu ∧ (d.abortVerify t).pwc = d.pwc ∧ ∀ st, (d.withStage st).abortVerify t = (d.abortVerify t).withStage st := by
  have h : ∀ st, ((d.withStage st).take t).verify = (d.take t).verify := fun _ => rfl
  unfold Device.abortVerify
  simp only [h]
  split <;> exact ⟨rfl, rfl, fun _ => rfl⟩

/-- R124: what a drop makes of a take before its packet in hand is judged again. -/
def Device.dropped (t : Fin 64) (d : Device) : Device := ((d.abortVerify t).unbindTake t).dropBound t

theorem Device.dropped_unbinds {d : Device} (k : d.StreamsAgree) {e : StreamEntry} (he : e ∈ d.siu.entries) :
    Device.Unbinds e.tag (Device.dropped e.take) d := by
  obtain ⟨hsiu, hpwc, hst⟩ := d.abortVerify_frame e.take
  have h := Device.unbindTake_unbinds ((d.abortVerify_keeps e.take).streams k) (e := e) (hsiu.symm ▸ he)
  refine Device.Unbinds.preceded (f := fun w => (w.unbindTake e.take).dropBound e.take) (k := Device.abortVerify e.take) ?_ hst (by simp)
    (by simp) hpwc
  exact h.followed (k := Device.dropBound e.take) (fun _ _ => rfl) (fun _ => rfl) (fun _ => rfl) (fun _ => rfl) fun _ => rfl

/-! ### The control that unbinds, and its packet in hand (R138, R142) -/

/-- R186: the link once the packet at the head of the sample queue has left it. -/
theorem Device.popSample_bli {d : Device} {p : SamplePkt} {rest : List SamplePkt} (h : d.bli.sampleQ = p :: rest) :
    d.popSample.bli = { d.bli with
      sampleQ := rest, flow := if d.bli.flow = .hold ∧ rest.length ≤ 4 then .release else d.bli.flow } := by
  simp only [Device.popSample, Device.setBli_bli, h, List.tail_cons, Bli.departed]
  split <;> rfl

/-- R142: the packet dropped as of no stream, and the control's reply behind it. -/
theorem Device.dropped_replied {P : Device} {p : SamplePkt} {rest : List SamplePkt} {t : Nat} (hq : P.bli.sampleQ = p :: rest)
    (hi : P.siu.stage = .idle) (ht : P.stu.time = t) (j : Judged) (r : Reply) :
    ((((P.withStage (.judged j)).popSample.setSiu { (P.withStage (.judged j)).siu with
        unrouted := satAdd Config.max32 (P.withStage (.judged j)).siu.unrouted 1, stage := .idle }).post
          (evUnknownStream p (P.withStage (.judged j)).stu.time)).pushReply r) =
      (P.pushReply r).withRest
        { (P.pushReply r).bli with
          sampleQ := rest, flow := if P.bli.flow = .hold ∧ rest.length ≤ 4 then .release else P.bli.flow }
        { P.siu with unrouted := min 4294967295 (P.siu.unrouted + 1) }
        (P.ntu.post t
          { source := 4, kind := 0, detail := [[leBytes 2 p.tag.toNat], [leBytes 4 p.seq.toNat], [leBytes 6 t]] }) := by
  subst ht
  have hb : (P.withStage (.judged j)).popSample = P.popSample.setSiu (P.withStage (.judged j)).siu := rfl
  have hp : P.popSample = P.setBli P.popSample.bli := rfl
  rw [hb, hp, Device.popSample_bli hq, ← hi]
  rfl

/-- R138, R142: a control that unbinds a stream: with the intake IDLE it leaves `u`; a packet of the stream in the store's write goes on,
counted for no stream; one judged and not yet granted is dropped as of no stream. -/
theorem packet_in_hand {s : State} {body : List Byte} {ts : List Tuple} (h : s.Takes body ts) {e : StreamEntry} {j : Judged}
    (hj : j.packet.tag = e.tag) (tag : BitVec 16) (code : Byte) {f : List Tuple → Device → Carried}
    (hf : controlOf tag code.toNat = some f) {g : Device → Device} {fs : List Field}
    (hu : Device.Unbinds e.tag g s.dev.reloadQuiet)
    (hc : ∀ st, f ts (s.dev.reloadQuiet.withStage st) = accept (g (s.dev.reloadQuiet.withStage st)).rejudgeIntake fs) :
    ∃ u : Device, arriveControl tag code body (s.setDev (s.dev.setSiu { s.dev.siu with stage := .idle })) = .next (s.setDev u) ∧
      (∀ x ∈ u.siu.entries, x.tag ≠ e.tag) ∧ u.siu.stage = .idle ∧
      (s.dev.siu.stage = .writing j →
        arriveControl tag code body s = .next (s.setDev (u.setSiu { u.siu with stage := .writing { j with stands := false } }))) ∧
      (∀ p rest, s.dev.siu.stage = .judged j → s.dev.bli.sampleQ = p :: rest → p.tag = e.tag →
        arriveControl tag code body s = .next (s.setDev (((u.setBli { u.bli with
          sampleQ := rest, flow := if u.bli.flow = .hold ∧ rest.length ≤ 4 then .release else u.bli.flow }).setSiu
            { u.siu with unrouted := min 4294967295 (u.siu.unrouted + 1) }).post
              { source := 4, kind := 0, detail := [[leBytes 2 p.tag.toNat], [leBytes 4 p.seq.toNat], [leBytes 6 s.dev.stu.time]] }))) := by
  obtain ⟨hstage, hidle, hgone, hbli, hstu, hpower⟩ := hu
  have runs : ∀ st, arriveControl tag code body (s.setDev (s.dev.withStage st)) =
      .next (s.setDev (((g (s.dev.reloadQuiet.withStage st)).rejudgeIntake.pushReply (replyTo ⟨tag, code, body⟩ (.ok, fs))).grant)) := by
    intro st
    have hl : (s.setDev (s.dev.withStage st)).Listening :=
      ⟨h.listening.released, h.listening.active, h.listening.free, h.listening.first, h.listening.room⟩
    rw [arriveControl_listening hl tag code body h.fits]
    have hcarry : carryOut ⟨tag, code, body⟩ (s.dev.reloadQuiet.withStage st) =
        accept (g (s.dev.reloadQuiet.withStage st)).rejudgeIntake fs := by
      simp only [carryOut, hf, h.chain]
      exact hc st
    show Host.Outcome.next (s.setDev ((s.dev.reloadQuiet.withStage st).execControl ⟨tag, code, body⟩)) = _
    unfold Device.execControl
    rw [hcarry]
    rfl
  have here : s = s.setDev (s.dev.withStage s.dev.siu.stage) := rfl
  generalize hP : g (s.dev.reloadQuiet.withStage .idle) = P at *
  have hwait : ∀ r, (P.pushReply r).siu.waits = false := by
    intro r
    show P.siu.waits = false
    simp [Siu.waits, hidle]
  obtain ⟨hub, hus⟩ := Device.grant_link (hwait (replyTo ⟨tag, code, body⟩ (.ok, fs)))
  refine ⟨(P.pushReply (replyTo ⟨tag, code, body⟩ (.ok, fs))).grant, ?idle, ?gone, ?stage, fun hw => ?writing, fun p rest hjd hq hp => ?judged⟩
  case idle =>
    refine (runs .idle).trans ?_
    rw [hP, Device.rejudgeIntake_stands (fun j hj => by rw [hidle] at hj; cases hj)]
  case gone => rw [hus]; exact hgone
  case stage => rw [hus]; exact hidle
  case writing =>
    have hs := runs s.dev.siu.stage
    rw [← here, hstage, hw] at hs
    refine hs.trans ?_
    have hwithout : (IntakeStage.writing j).without e.tag = .writing { j with stands := false } := by
      simp [IntakeStage.without, Judged.without, hj]
    rw [hwithout, Device.rejudgeIntake_stands fun i hi => by cases hi]
    have hg := Device.grant_withRest (hwait (replyTo ⟨tag, code, body⟩ (.ok, fs))) (P.pushReply (replyTo ⟨tag, code, body⟩ (.ok, fs))).bli
      (x := { P.siu with stage := .writing { j with stands := false } }) rfl (P.pushReply (replyTo ⟨tag, code, body⟩ (.ok, fs))).ntu
    have hu : (P.pushReply (replyTo ⟨tag, code, body⟩ (.ok, fs))).grant.withRest (P.pushReply (replyTo ⟨tag, code, body⟩ (.ok, fs))).bli
        { P.siu with stage := .writing { j with stands := false } } (P.pushReply (replyTo ⟨tag, code, body⟩ (.ok, fs))).ntu =
          (P.pushReply (replyTo ⟨tag, code, body⟩ (.ok, fs))).grant.setSiu
            { (P.pushReply (replyTo ⟨tag, code, body⟩ (.ok, fs))).grant.siu with stage := .writing { j with stands := false } } := by
      rw [hus, ← hub, ← Device.grant_ntu]
      rfl
    rw [← hu, ← hg]
    rfl
  case judged =>
    have hs := runs s.dev.siu.stage
    rw [← here, hstage, hjd] at hs
    refine hs.trans ?_
    have hwithout : (IntakeStage.judged j).without e.tag = .judged { j with stands := false } := by
      simp [IntakeStage.without, Judged.without, hj]
    have hnone : (P.withStage (.judged { j with stands := false })).siu.entry p.tag = none := by
      rw [Siu.entry_none]
      intro x hx
      rw [hp]
      exact hgone x hx
    rw [hwithout, Device.rejudgeIntake_unrouted (d := P.withStage (.judged { j with stands := false })) (hpower.trans h.listening.active) rfl
      rfl ((congrArg Bli.sampleQ hbli).trans hq) hnone]
    rw [Device.dropped_replied ((congrArg Bli.sampleQ hbli).trans hq) hidle (congrArg Stu.time hstu), Device.grant_withRest (hwait _) _ (by simp [Siu.waits, hidle]) _]
    have hun : (P.pushReply (replyTo ⟨tag, code, body⟩ (.ok, fs))).grant.ntu = P.ntu := Device.grant_ntu _
    have hut : (P.pushReply (replyTo ⟨tag, code, body⟩ (.ok, fs))).grant.stu = s.dev.stu := (Device.grant_stu _).trans hstu
    rw [hub, hus, Device.post]
    simp only [Device.setSiu_ntu, Device.setBli_ntu, Device.setSiu_stu, Device.setBli_stu, hun, hut]
    rfl

end Sys2Proof.Machine

open Sys2Proof Sys2Proof.Machine

/-- Settles O11: each of the three controls unbinds the entry's stream, and what becomes of its packet in hand is the same for all. -/
theorem packetsInHand : Obligations.PacketsInHand := by
  intro s tag body ts e j c h hk he hj hc
  have hk' : s.dev.reloadQuiet.StreamsAgree := hk.congr rfl (fun _ => rfl) fun _ => rfl
  have hent : s.dev.reloadQuiet.siu.entry e.tag = some e := hk'.entry he
  rcases hc with ⟨rfl, ha⟩ | ⟨ha, rfl | ⟨rfl, hv⟩⟩
  · refine packet_in_hand h hj tag 0x19#8 (f := ctlStreamUnbind) rfl (Device.unbind_unbinds hent)
      (fs := [num 1 e.take.val, num 4 e.accepted, num 4 e.dropped]) fun st => ?_
    have hent' : (s.dev.reloadQuiet.withStage st).siu.entry e.tag = some e := hent
    simp only [ctlStreamUnbind, ha, field_word, hent']
  · rcases hk.writable e he with hs | hs
    · refine packet_in_hand h hj tag 0x11#8 (f := ctlTakeClose) rfl (Device.closeResident_unbinds hk' he .control) (fs := []) fun st => ?_
      have hs' : ((s.dev.reloadQuiet.withStage st).take e.take).state = .filling := hs
      simp only [ctlTakeClose, numbered_take ha, hs']
    · refine packet_in_hand h hj tag 0x11#8 (f := ctlTakeClose) rfl (Device.endRing_unbinds hk' he .control) (fs := []) fun st => ?_
      have hs' : ((s.dev.reloadQuiet.withStage st).take e.take).state = .live := hs
      simp only [ctlTakeClose, numbered_take ha, hs']
  · refine packet_in_hand h hj tag 0x12#8 (f := ctlTakeDrop) rfl (Device.dropped_unbinds hk' he) (fs := []) fun st => ?_
    have hs' : ¬ ((s.dev.reloadQuiet.withStage st).take e.take).state = .free := by
      show ¬ (s.dev.take e.take).state = .free
      rcases hk.writable e he with hs | hs <;> simp [hs]
    have hn : ¬ (s.dev.reloadQuiet.withStage st).cuesNaming e.take ≠ 0 := not_not.2 ((Device.cuesNaming_eq_zero_iff _ _).2 hv)
    simp only [ctlTakeDrop, numbered_take ha, hs', if_false]
    rw [if_neg hn]
    rfl
end

section
/-! PROOFS. Loading and flushing cues (O15, O16). -/

namespace Sys2Proof.Machine

/-! ### The cursor's arrival and the request, case by case (R53, R54, R56, R57) -/

theorem Voice.arrive_none {takes : Vector Take 64} {i : Nat} {v : Voice} (h : v.cues[i]? = none) :
    v.arrive takes i = { v with cursor := endCursor v.cues.length } := by
  rw [Voice.arrive, arriveAt_succ, h]

theorem Voice.arrive_resident {takes : Vector Take 64} {i l : Nat} {k : Bool} {v : Voice} {c : Cue} (h : v.cues[i]? = some c)
    (hv : arriveVerdict takes c = .resident l k) :
    v.arrive takes i = { v with
      cues := v.cues.set i { c with verdict := .resident l k }
      cursor := .atTarget i 1 (BitVec.ofNat 32 (c.start.toNat / (takes[c.take]).format.spb)) 0 } := by
  rw [Voice.arrive, arriveAt_succ, h]
  dsimp only
  rw [hv]
  rfl

theorem Voice.request_resident {x : Ctx} {v : Voice} {i pass least l : Nat} {b : BlockNo} {c : Cue} {k : Bool} (hm : v.mayRequest = true)
    (hc : v.cursor = .atTarget i pass b least) (hi : v.cues[i]? = some c) (hv : c.verdict = .resident l k) :
    v.request x = ((v.reserve (x.take c) c i pass b (planResident (x.take c).format.spb c.start.toNat l b.toNat least)).afterResident
      x.takes (x.take c).format.spb i pass b.toNat l c, []) := by
  simp only [Voice.request, hm, hc, hi, hv]

/-- R54: after the request of a block of the last cue the cursor alone has moved. -/
theorem Voice.afterResident_last {takes : Vector Take 64} {spb i pass b l : Nat} {c : Cue} {v : Voice} (h : v.cues[i + 1]? = none) :
    ∃ cur, v.afterResident takes spb i pass b l c = { v with cursor := cur } := by
  unfold Voice.afterResident
  rw [Voice.arrive_none h]
  split_ifs <;> exact ⟨_, rfl⟩

theorem Voice.mayRequest_iff (v : Voice) : v.mayRequest = true ↔ v.state ≠ .idle ∧ v.slots.length < 8 ∧ v.req = .none := by
  simp only [Voice.mayRequest, Bool.and_eq_true, decide_eq_true_eq, and_assoc]
  exact Iff.rfl

/-- R43: a head that is not skipped gives the voice its state. -/
theorem Voice.settleHead_of_head {x : Ctx} {v : Voice} {c : Cue} {cs : List Cue} (h : v.cues = c :: cs)
    (hv : ∀ r, c.verdict ≠ .skipped r) : v.settleHead x = ({ v with state := v.headState c }, []) := by
  unfold Voice.settleHead takeHead
  rw [h]
  dsimp only
  split
  · rename_i r hr
    exact absurd hr (hv r)
  · rfl

/-- R26, R43: with no slot and its first block still to request, a head is PRIMING. -/
theorem Voice.headState_priming {v : Voice} {c : Cue} {p least : Nat} {b : BlockNo} (hs : v.slots = []) (hc : v.cursor = .atTarget 0 p b least)
    (hp : 1 ≤ v.primeDepth) : v.headState c = .priming := by
  have hr : v.headReady = false := by simp [Voice.headReady, hs]
  have hpr : v.primed = false := by
    have : ¬ v.primeDepth ≤ 0 := by omega
    simp [Voice.primed, Voice.filledCount, Voice.headHeld, Voice.headRequested, hs, hc, this]
  unfold Voice.headState
  split
  · simp [hr]
  · simp [hpr]

/-! ### The decision on a resident cue (R44) -/

/-- R44: the effective length of a resident cue that starts within its take. -/
theorem judgeCue_ready {t : Take} {c : Cue} (hk : t.kind = .resident) (hr : t.state = .ready) (hs : c.start.toNat < t.length) :
    judgeCue t c = .resident
      (if c.length = 0 ∨ t.length < c.start.toNat + c.length then t.length - c.start.toNat else c.length)
      (decide (c.length ≠ 0 ∧ t.length < c.start.toNat + c.length)) := by
  simp only [judgeCue, hk, judgeResident, hr]
  rw [if_neg (by omega)]
  by_cases h0 : c.length = 0
  · rw [if_pos h0, if_pos (.inl h0)]
    simp [h0]
  · rw [if_neg h0]
    by_cases hle : c.start.toNat + c.length ≤ t.length
    · rw [if_pos hle, if_neg (by omega)]
      have : ¬ t.length < c.start.toNat + c.length := by omega
      simp [this]
    · rw [if_neg hle, if_pos (by omega)]
      have : t.length < c.start.toNat + c.length := by omega
      simp [h0, this]

/-- R53: the plan for a cue's first block. -/
theorem planResident_first {spb : Nat} (s l : Nat) :
    planResident spb s l (s / spb) 0 = (s % spb, min (s + l) ((s / spb + 1) * spb) - s) := by
  have h₁ : s / spb * spb + s % spb = s := Nat.div_add_mod' s spb
  have h₂ : max (max s (s / spb * spb) - s / spb * spb) 0 = s % spb := by omega
  simp only [planResident, h₂, h₁]

theorem start_block (s : BitVec 32) (spb : Nat) : (BitVec.ofNat 32 (s.toNat / spb)).toNat = s.toNat / spb := by
  rw [BitVec.toNat_ofNat]
  exact Nat.mod_eq_of_lt (Nat.lt_of_le_of_lt (Nat.div_le_self _ _) s.isLt)

/-! ### The numbers of a load (R32) -/

theorem RawCue.inRange_iff (c : RawCue) : c.inRange = true ↔ ¬ (64 ≤ c.take ∨ ∃ l, c.line = some l ∧ 8 ≤ l) := by
  cases h : c.line <;> simp [RawCue.inRange, h]

theorem all_eq_false_iff {α : Type} {p : α → Bool} {q : α → Prop} (h : ∀ a, p a = true ↔ ¬ q a) (as : List α) :
    as.all p = false ↔ ∃ a ∈ as, q a := by
  rw [List.all_eq_false]
  exact exists_congr fun a => and_congr_right fun _ => by rw [h a, not_not]

/-- R32: a load into a list that is not empty, with the cursor not at its end, changes the list alone. -/
theorem Voice.loaded_list (x : Ctx) (cs : List Cue) {v : Voice} (hv : v.cues ≠ []) (hc : ∀ i, v.cursor ≠ .atEnd i) :
    v.loaded x cs = (v.appended cs, []) := by
  by_cases hcs : cs = []
  · subst hcs
    simp [Voice.loaded, Voice.appended]
  · rw [Voice.loaded_behind x hcs hv]
    split
    · rename_i i hi
      exact absurd hi (hc i)
    · rfl

/-! ### What the flushes leave (R34, R35) -/

theorem Voice.withSlots_req (v : Voice) (slots : List Slot) :
    (v.withSlots slots).req = if ∃ s ∈ slots, s.status = none then v.req else .none := by
  have h : (slots.any fun s => !s.filled) = true ↔ ∃ s ∈ slots, s.status = none := by
    simp [Slot.filled]
  simp only [Voice.withSlots, h]

end Sys2Proof.Machine

open Sys2Proof Sys2Proof.Machine

/-- Settles O15: the load by its checks, and the first cue by the cursor's arrival, the head's state and the first request. -/
theorem cueLoadAppends : Obligations.CueLoadAppends := by
  refine ⟨fun s tag body ts n raw h hn hraw => ?load, fun x v c hcues hslots hreq hstate hund hdepth => ?first⟩
  case load =>
    dsimp only
    have refused : ∀ st, ctlCueLoad ts s.dev.reloadQuiet = refuse s.dev.reloadQuiet st →
        exec (.cueLoad tag body) s = .next (s.setDev (s.dev.answered tag 0x20#8 st [])) :=
      fun st he => arriveControl_refused h tag 0x20#8 (f := ctlCueLoad) rfl he
    split
    · rename_i hlt
      let v : Fin 32 := ⟨n.toNat, hlt⟩
      have hctl : ctlCueLoad ts s.dev.reloadQuiet =
          match loadRefusal s.dev (s.dev.voice v) raw with
          | some st => refuse s.dev.reloadQuiet st
          | none => accept (s.dev.reloadQuiet.onVoice v (fun x y => y.loaded x (raw.map RawCue.cue)))
              [num 1 ((s.dev.voice v).cues.length + raw.length)] := by
        simp only [ctlCueLoad, hn, hraw, field_zero_byte, numberOf_of_lt hlt]
        rfl
      have hall := all_eq_false_iff RawCue.inRange_iff raw
      have hfree : (raw.any fun c => decide ((s.dev.take ((numberOf 64 c.take).getD 0)).state = .free)) = true ↔
          ∃ c ∈ raw.map RawCue.cue, (s.dev.take c.take).state = .free := by
        simp only [List.any_eq_true, decide_eq_true_eq, List.mem_map, exists_exists_and_eq_and]
        rfl
      split_ifs with h₁ h₂ h₃
      · exact refused _ (by rw [hctl, show loadRefusal s.dev (s.dev.voice v) raw = some .range by
          rw [loadRefusal, if_pos (hall.2 h₁)]])
      · exact refused _ (by rw [hctl, show loadRefusal s.dev (s.dev.voice v) raw = some .noTake by
          rw [loadRefusal, if_neg (mt hall.1 h₁), if_pos (hfree.2 h₂)]])
      · exact refused _ (by rw [hctl, show loadRefusal s.dev (s.dev.voice v) raw = some .full by
          rw [loadRefusal, if_neg (mt hall.1 h₁), if_neg (mt hfree.1 h₂)]
          exact if_pos h₃])
      · have hnone : loadRefusal s.dev (s.dev.voice v) raw = none := by
          rw [loadRefusal, if_neg (mt hall.1 h₁), if_neg (mt hfree.1 h₂)]
          exact if_neg h₃
        rw [hnone] at hctl
        refine ⟨fun hv hc => ?_, ?_⟩
        · refine arriveControl_answered h tag 0x20#8 (f := ctlCueLoad) rfl ?_ (h.settled.of_requests rfl (fun u => ?_) rfl rfl rfl id)
          · rw [hctl, Device.onVoice_reloadQuiet, Device.onVoice, Voice.loaded_list _ _ hv hc]
            rfl
          · rw [Device.voice_setVoice]
            split
            · rename_i hu
              subst hu
              exact ⟨rfl, rfl⟩
            · exact ⟨rfl, rfl⟩
        · refine arriveControl_granted h tag 0x20#8 (f := ctlCueLoad) rfl ?_
          rw [hctl, Device.onVoice_reloadQuiet]
          rfl
    · rename_i hge
      exact refused _ (by simp only [ctlCueLoad, hn, hraw, field_zero_byte, numberOf_of_le (Nat.not_lt.1 hge)])
  case first =>
    intro t hk hr hlen spb st l b
    let c' : Cue := { c with verdict := .resident l (decide (c.length ≠ 0 ∧ t.length < st + c.length)) }
    have hjudge : arriveVerdict x.takes c = .resident l (decide (c.length ≠ 0 ∧ t.length < st + c.length)) := by
      rw [arriveVerdict, if_pos hund]
      exact judgeCue_ready hk hr hlen
    let w : Voice := { v.appended [c] with state := .priming }
    have hwc : w.cues = [c] := by simp [w, Voice.appended, hcues]
    have harrive : w.arrive x.takes 0 = { w with cues := [c'], cursor := .atTarget 0 1 b 0 } := by
      rw [Voice.arrive_resident (l := l) (c := c) (by rw [hwc]; rfl) hjudge, hwc]
      rfl
    let a : Voice := { w with cues := [c'], cursor := .atTarget 0 1 b 0 }
    have hhead : a.settleHead x = (a, []) := by
      rw [Voice.settleHead_of_head (c := c') (cs := []) rfl nofun,
        Voice.headState_priming (v := a) (p := 1) (b := b) (least := 0) hslots rfl hdepth]
    have hmay : a.mayRequest = true := (Voice.mayRequest_iff a).2 ⟨nofun, by simp [a, w, Voice.appended, hslots], hreq⟩
    have hplan : planResident (x.take c').format.spb c'.start.toNat l b.toNat 0 =
        (st % spb, min (st + l) ((st / spb + 1) * spb) - st) := by
      rw [show b.toNat = st / spb from start_block c.start spb]
      exact planResident_first st l
    obtain ⟨cur, hcur⟩ := Voice.afterResident_last (takes := x.takes) (spb := (x.take c').format.spb) (i := 0) (pass := 1) (b := b.toNat)
      (l := l) (c := c') (v := a.reserve (x.take c') c' 0 1 b (st % spb, min (st + l) ((st / spb + 1) * spb) - st)) rfl
    have hrequest := Voice.request_resident (x := x) (v := a) (c := c') hmay rfl rfl rfl
    rw [hplan, hcur] at hrequest
    refine ⟨{ a.reserve (x.take c') c' 0 1 b (st % spb, min (st + l) ((st / spb + 1) * spb) - st) with cursor := cur }, ?_, ?_⟩
    · rw [Voice.loaded_first x (by simp) hcues]
      show andThen (Voice.settleHead x) (Voice.request x) (w.arrive x.takes 0) = _
      rw [harrive]
      unfold andThen
      rw [show ({ w with cues := [c'], cursor := .atTarget 0 1 b 0 } : Voice) = a from rfl, hhead]
      dsimp only
      rw [hrequest]
      rfl
    · have haddr : (x.take c').blockAddress b = t.address (st / spb) := by
        have hk' : (x.take c').kind = .resident := hk
        simp only [Take.blockAddress, Take.storeIndex, hk']
        rw [show b.toNat = st / spb from start_block c.start spb]
        rfl
      have hring : decide ((x.take c').kind = .ring) = false := by
        have hk' : (x.take c').kind = .resident := hk
        simp [hk']
      refine ⟨rfl, rfl, ?_, ?_⟩
      · simp [Voice.reserve, a, w, Voice.appended, hslots, c']
      · simp only [Voice.reserve, haddr, hring]
        rfl

/-- Settles O16: the flushes by what each leaves of a voice. -/
theorem cueFlushEmpties : Obligations.CueFlushEmpties := by
  refine ⟨fun s tag rest ts v hf hv => ⟨fun h hm => ?pending, fun h hm => ?all⟩, fun v => ?fields⟩
  case pending =>
    have hf' : s.dev.reloadQuiet.stu.frozen = false := hf
    refine arriveControl_granted h tag 0x21#8 (f := ctlCueFlush) rfl ?_
    have hb : (BitVec.ofNat 8 v.val).toNat = v.val := ofNat_toNat_of_lt (by omega)
    simp only [ctlCueFlush, hv, hm, field_zero_byte, hb, onOffOf, hf', numberOf_val, Device.flushPending]
    rw [Device.onVoice_reloadQuiet]
    rfl
  case all =>
    have hf' : s.dev.reloadQuiet.stu.frozen = false := hf
    refine arriveControl_answered h tag 0x21#8 (f := ctlCueFlush) rfl ?_ (h.settled.of_quiet id fun q =>
      ⟨q.debt, fun u => ?_, q.intake, q.peek, q.verify, q.selftest⟩)
    · have hb : (BitVec.ofNat 8 v.val).toNat = v.val := ofNat_toNat_of_lt (by omega)
      simp only [ctlCueFlush, hv, hm, field_zero_byte, hb, onOffOf, hf', numberOf_val]
      rfl
    · rw [Device.voice_setVoice]
      split
      · rfl
      · exact q.voices u
  case fields =>
    intro w
    have hreq : w.req = if ∃ s ∈ v.slots, s.cue = 0 ∧ s.status = none then v.req else .none := by
      have h := v.withSlots_req v.headSlots
      simp only [Voice.headSlots, List.mem_filter, decide_eq_true_eq, and_assoc] at h
      exact h
    refine ⟨rfl, rfl, rfl, rfl, rfl, rfl, rfl, rfl, rfl, rfl, rfl, rfl, rfl, hreq, fun p b l hc => ?_, fun c p b l hc => ?_⟩
    · show v.cursor.flushed = v.cursor
      rw [hc]
      rfl
    · show v.cursor.flushed = _
      rw [hc]
      rfl
end

section
/-! PROOFS. Settings of voices, ports and lines, and the marker table (O17, O18, O19). -/

namespace Sys2Proof.Machine

/-! ### A setting of one voice, port or line (R21, R92, R98) -/

theorem Device.applyVoice_val (d : Device) (v : Fin 32) (x : VoiceValue) : d.applyVoice ⟨v.val, x⟩ = d.setVoice v (x.apply (d.voice v)) := by
  simp only [Device.applyVoice, numberOf_val]

theorem Device.applyPort_val (d : Device) (p : Fin 4) (x : PortValue) : d.applyPort ⟨p.val, x⟩ = d.setPort p (x.apply (d.port p)) := by
  simp only [Device.applyPort, numberOf_val]

theorem Device.applyLine_val (d : Device) (l : Fin 8) (x : LineValue) : d.applyLine ⟨l.val, x⟩ = d.setLine l (x.apply (d.line l)) := by
  simp only [Device.applyLine, numberOf_val]

/-! ### Settings and the quiet timer -/

theorem Device.applyVoice_reloadQuiet (d : Device) (s : VoiceSetting) : d.reloadQuiet.applyVoice s = (d.applyVoice s).reloadQuiet := by
  unfold Device.applyVoice
  split <;> rfl

theorem Device.judgeDepth_reloadQuiet (ss : List VoiceSetting) (d : Device) (v : Fin 32) :
    d.reloadQuiet.judgeDepth ss v = (d.judgeDepth ss v).reloadQuiet := by
  unfold Device.judgeDepth
  split
  · exact d.onVoice_reloadQuiet v _
  · rfl

theorem Device.setVoicesBy_reloadQuiet (ss : List VoiceSetting) (d : Device) :
    d.reloadQuiet.setVoicesBy ss = (d.setVoicesBy ss).reloadQuiet := by
  unfold Device.setVoicesBy
  rw [Device.foldl_comm Device.applyVoice_reloadQuiet, Device.foldl_comm (Device.judgeDepth_reloadQuiet ss)]

theorem Device.applyPort_reloadQuiet (d : Device) (s : PortSetting) : d.reloadQuiet.applyPort s = (d.applyPort s).reloadQuiet := by
  unfold Device.applyPort
  split <;> rfl

theorem Device.applyLine_reloadQuiet (d : Device) (s : LineSetting) : d.reloadQuiet.applyLine s = (d.applyLine s).reloadQuiet := by
  unfold Device.applyLine
  split <;> rfl

/-! ### What the settings leave (R21, R92, R98) -/

/-- R21: settings of voices change voices alone. -/
theorem Device.applyVoices_frame (ss : List VoiceSetting) (d : Device) :
    ss.foldl Device.applyVoice d = d.setVoices (ss.foldl Device.applyVoice d).voices := by
  induction ss generalizing d with
  | nil => rfl
  | cons s ss ih =>
    have h : d.applyVoice s = d.setVoices (d.applyVoice s).voices := by
      unfold Device.applyVoice
      split <;> rfl
    rw [List.foldl_cons, ih, h]
    rfl

/-- R92: settings of ports change ports alone. -/
theorem Device.applyPorts_frame (ss : List PortSetting) (d : Device) :
    ss.foldl Device.applyPort d = d.setPorts (ss.foldl Device.applyPort d).ports := by
  induction ss generalizing d with
  | nil => rfl
  | cons s ss ih =>
    have h : d.applyPort s = d.setPorts (d.applyPort s).ports := by
      unfold Device.applyPort
      split <;> rfl
    rw [List.foldl_cons, ih, h]
    rfl

/-- R98: settings of lines change lines alone. -/
theorem Device.applyLines_frame (ss : List LineSetting) (d : Device) :
    ss.foldl Device.applyLine d = d.setLines (ss.foldl Device.applyLine d).lines := by
  induction ss generalizing d with
  | nil => rfl
  | cons s ss ih =>
    have h : d.applyLine s = d.setLines (d.applyLine s).lines := by
      unfold Device.applyLine
      split <;> rfl
    rw [List.foldl_cons, ih, h]
    rfl

/-- R21: a setting leaves a voice's request. -/
theorem VoiceValue.apply_req (x : VoiceValue) (v : Voice) : (x.apply v).req = v.req := by
  cases x with
  | port p => simp only [VoiceValue.apply]; split <;> rfl
  | conceal => rfl
  | timeMode => rfl
  | prime => rfl
  | resume => rfl

/-- R21: settings leave the voices' requests. -/
theorem Device.applyVoices_req (ss : List VoiceSetting) (d : Device) (v : Fin 32) :
    ((ss.foldl Device.applyVoice d).voice v).req = (d.voice v).req := by
  refine Device.foldl_frame (fun e => (e.voice v).req) (fun e s => ?_) ss d
  unfold Device.applyVoice
  split
  · rw [Device.voice_setVoice]
    split
    · rename_i h
      rw [h]
      exact VoiceValue.apply_req _ _
    · rfl
  · rfl

/-- R21: a chain that names no depth re-judges no voice. -/
theorem Device.setVoicesBy_of_no_depth {ss : List VoiceSetting} (h : ∀ v, ss.any (VoiceSetting.namesDepth v) = false) (d : Device) :
    d.setVoicesBy ss = ss.foldl Device.applyVoice d := by
  have hj : ∀ (e : Device) (v : Fin 32), e.judgeDepth ss v = e := by
    intro e v
    simp [Device.judgeDepth, h v]
  unfold Device.setVoicesBy
  generalize ss.foldl Device.applyVoice d = e
  generalize allVoices = vs
  induction vs with
  | nil => rfl
  | cons v vs ih => rw [List.foldl_cons, hj, ih]

/-! ### Changes of level in an ACTIVE part (R4, R97) -/

/-- R190: what wakes a part leaves an ACTIVE one. -/
theorem Device.wakeUp_of_active {cause : WakeCause} {d : Device} (h : d.pwc.power = .active) : d.wakeUp cause = d := by
  simp only [Device.wakeUp, h]

/-- R4, R100: in an ACTIVE part changes of level are held pending, and wake nothing. -/
theorem Device.noteChanges_of_active {before after : Vector Bool 8} {d : Device} (h : d.pwc.power = .active) :
    d.noteChanges before after = d.holdEdges before after := by
  have key : ∀ (ls : List (Fin 8)) (e : Device), e.pwc.power = .active → ls.foldl (Device.handEdge before after) e = e := by
    intro ls
    induction ls with
    | nil => intro e _; rfl
    | cons l ls ih =>
      intro e he
      have hl : e.handEdge before after l = e := by
        unfold Device.handEdge
        rw [Device.wakeUp_of_active he, ite_self]
      rw [List.foldl_cons, hl]
      exact ih e he
  exact key allLines _ h

/-- R97: what a line senses outside SLEEP: its latch as an output, the bench's level as an input. -/
def Line.wire (l : Line) : Bool :=
  match l.dir with
  | .output => l.latch
  | .input => l.bench

theorem Line.sensed_awake (l : Line) : l.sensed false = l.wire := by
  simp only [Line.sensed, Bool.false_and]
  rfl

theorem Device.levels_awake {d : Device} (h : d.pwc.power ≠ .sleep) (l : Fin 8) : d.levels[l] = (d.line l).wire := by
  have ha : d.asleep = false := by simp [Device.asleep, h]
  simp only [Device.levels, ha, Fin.getElem_fin, Vector.getElem_map, Line.sensed_awake]
  rfl

/-- R4, R97: lines of an ACTIVE part change, and each changed level is held pending. -/
theorem Device.changeLines_of_active {f : Device → Device} {d : Device} (h : d.pwc.power = .active) (hf : (f d).pwc = d.pwc) :
    d.changeLines f = (f d).setLines (Vector.ofFn (fun l => ((f d).line l).noticed (d.line l).wire ((f d).line l).wire)) := by
  have ha : (f d).pwc.power = .active := by rw [hf]; exact h
  unfold Device.changeLines
  rw [Device.noteChanges_of_active ha]
  unfold Device.holdEdges
  simp only [Device.levels_awake (d := d) (by simp [h]), Device.levels_awake (d := f d) (by simp [ha])]

/-! ### The marker table (R105) -/

theorem RawMarker.inRange_iff (m : RawMarker) : m.inRange = true ↔ ¬ (8 ≤ m.line ∨ m.action = .pulse 0) := by
  cases h : m.action <;> simp [RawMarker.inRange, h]

theorem loadMarker_val (table : List Marker) (time : Nat) (l : Fin 8) (action : MarkAction) :
    loadMarker table { time := time, line := l.val, action := action } = insertMarker { time := time, line := l, action := action } table := by
  simp only [loadMarker, numberOf_val]

/-- R105: a load of markers in range lengthens the table by their number. -/
theorem loadMarkers_length_of_inRange {ms : List RawMarker} (h : ms.all RawMarker.inRange = true) (table : List Marker) :
    (ms.foldl loadMarker table).length = table.length + ms.length := by
  induction ms generalizing table with
  | nil => rfl
  | cons m ms ih =>
    rw [List.all_cons, Bool.and_eq_true] at h
    obtain ⟨hm, hms⟩ := h
    have hl : m.line < 8 := by
      by_contra hl
      exact (m.inRange_iff.1 hm) (.inl (Nat.not_lt.1 hl))
    have h₁ : (loadMarker table m).length = table.length + 1 := by
      simp only [loadMarker, numberOf_of_lt hl, insertMarker_length]
    rw [List.foldl_cons, ih hms, h₁, List.length_cons]
    omega

/-- R105: in a table in time order an entry goes behind those no later and before the later ones. -/
theorem insertMarker_eq (m : Marker) {table : List Marker} (h : table.Pairwise (fun x y => x.time ≤ y.time)) :
    insertMarker m table = table.filter (fun x => decide (x.time ≤ m.time)) ++ m :: table.filter (fun x => decide (m.time < x.time)) := by
  induction table with
  | nil => rfl
  | cons x xs ih =>
    obtain ⟨hx, hxs⟩ := List.pairwise_cons.1 h
    by_cases hle : x.time ≤ m.time
    · simp only [insertMarker, hle, if_true, ih hxs, List.filter_cons, decide_true, Nat.not_lt.2 hle, decide_false, List.cons_append,
        Bool.false_eq_true, if_false]
    · have hnone : xs.filter (fun y => decide (y.time ≤ m.time)) = [] := by
        rw [List.filter_eq_nil_iff]
        intro y hy
        have := hx y hy
        simp only [decide_eq_true_eq]
        omega
      have hall : xs.filter (fun y => decide (m.time < y.time)) = xs := by
        rw [List.filter_eq_self]
        intro y hy
        have := hx y hy
        simp only [decide_eq_true_eq]
        omega
      simp [insertMarker, hle, hnone, hall, Nat.not_le.1 hle]

theorem insertMarker_pairwise (m : Marker) {table : List Marker} (h : table.Pairwise (fun x y => x.time ≤ y.time)) :
    (insertMarker m table).Pairwise (fun x y => x.time ≤ y.time) := by
  rw [insertMarker_eq m h]
  refine List.pairwise_append.2 ⟨h.filter _, List.pairwise_cons.2 ⟨fun y hy => ?_, h.filter _⟩, fun x hx y hy => ?_⟩
  · have := (List.mem_filter.1 hy).2
    simp only [decide_eq_true_eq] at this
    omega
  · have hx' := (List.mem_filter.1 hx).2
    simp only [decide_eq_true_eq] at hx'
    rcases List.mem_cons.1 hy with rfl | hy
    · exact hx'
    · have := (List.mem_filter.1 hy).2
      simp only [decide_eq_true_eq] at this
      omega

end Sys2Proof.Machine

open Sys2Proof Sys2Proof.Machine

/-- Settles O17: the settings one by one, and a chain without a depth by its re-judging no voice. -/
theorem voiceSetApplies : Obligations.VoiceSetApplies := by
  refine ⟨fun s tag body ts ss h hf hss => ?chain, fun d v p c m n => ?settings⟩
  case chain =>
    have hf' : s.dev.reloadQuiet.stu.frozen = false := hf
    have hctl : ss.all VoiceSetting.inRange = true → ctlVoiceSet ts s.dev.reloadQuiet = accept (s.dev.setVoicesBy ss).reloadQuiet [] := by
      intro hr
      simp only [ctlVoiceSet, hss, hf', hr, Device.setVoicesBy_reloadQuiet, Bool.false_eq_true, if_false, reduceCtorEq]
    refine ⟨fun hr => ?_, fun hr => ?_, fun hr hd => ?_⟩
    · exact arriveControl_refused h tag 0x22#8 (f := ctlVoiceSet) rfl (by simp [ctlVoiceSet, hss, hf', hr])
    · exact arriveControl_granted h tag 0x22#8 (f := ctlVoiceSet) rfl (e := s.dev.setVoicesBy ss) (hctl hr)
    · refine arriveControl_answered h tag 0x22#8 (f := ctlVoiceSet) rfl ?_ ?_
      · rw [hctl hr, Device.setVoicesBy_of_no_depth hd]
        rfl
      · rw [Device.applyVoices_frame]
        refine h.settled.of_quiet id fun q => ⟨q.debt, fun v => ?_, q.intake, q.peek, q.verify, q.selftest⟩
        have hv := Device.applyVoices_req ss s.dev v
        show ((ss.foldl Device.applyVoice s.dev).voice v).waits = false
        rw [Voice.waits, hv]
        exact q.voices v
  case settings =>
    have hport := d.applyVoice_val v (.port p)
    simp only [VoiceValue.apply, numberOf_val] at hport
    exact ⟨hport, d.applyVoice_val v _, d.applyVoice_val v _, d.applyVoice_val v _, d.applyVoice_val v _⟩

/-- Settles O18: the settings one by one, and the edges by the lines' levels before and after. -/
theorem portAndLineSetApply : Obligations.PortAndLineSetApply := by
  refine ⟨⟨fun s tag body ts ss h hf hss => ?ports, fun d p b n w u => ?portSettings⟩,
    ⟨fun s tag body ts ss h hf hss => ?lines, fun d l x m z b => ?lineSettings⟩⟩
  case ports =>
    have hf' : s.dev.reloadQuiet.stu.frozen = false := hf
    have hall := all_eq_false_iff (p := fun x : PortSetting => decide (x.port < 4)) (q := fun x => 4 ≤ x.port)
      (fun x => by simp) ss
    split
    · rename_i hbad
      exact arriveControl_refused h tag 0x28#8 (f := ctlPortSet) rfl (by simp only [ctlPortSet, hss, hf', hall.2 hbad]; rfl)
    · rename_i hgood
      have hr : ss.all (fun x : PortSetting => decide (x.port < 4)) = true := Bool.eq_true_of_not_eq_false (mt hall.1 hgood)
      refine arriveControl_answered h tag 0x28#8 (f := ctlPortSet) rfl ?_ ?_
      · simp only [ctlPortSet, hss, hf', hr, Device.foldl_comm Device.applyPort_reloadQuiet]
        rfl
      · rw [Device.applyPorts_frame]
        exact h.settled.congr rfl rfl rfl rfl rfl rfl
  case portSettings =>
    exact ⟨d.applyPort_val p _, d.applyPort_val p _, d.applyPort_val p _, d.applyPort_val p _, d.applyPort_val p _⟩
  case lines =>
    intro w wire
    have hf' : s.dev.reloadQuiet.stu.frozen = false := hf
    have hall := all_eq_false_iff (p := fun x : LineSetting => decide (x.line < 8)) (q := fun x => 8 ≤ x.line)
      (fun x => by simp) ss
    split
    · rename_i hbad
      exact arriveControl_refused h tag 0x29#8 (f := ctlLineSet) rfl (by simp only [ctlLineSet, hss, hf', hall.2 hbad]; rfl)
    · rename_i hgood
      have hr : ss.all (fun x : LineSetting => decide (x.line < 8)) = true := Bool.eq_true_of_not_eq_false (mt hall.1 hgood)
      have hfold : ss.foldl Device.applyLine s.dev.reloadQuiet = w.reloadQuiet := Device.foldl_comm Device.applyLine_reloadQuiet ss s.dev
      have hframe : w = s.dev.setLines w.lines := Device.applyLines_frame ss s.dev
      have hpwc : (ss.foldl Device.applyLine s.dev.reloadQuiet).pwc = s.dev.reloadQuiet.pwc := by rw [hfold, hframe]; rfl
      refine arriveControl_answered h tag 0x29#8 (f := ctlLineSet) rfl ?_ (h.settled.congr rfl rfl rfl rfl rfl rfl)
      simp only [ctlLineSet, hss, hf', hr]
      rw [Device.changeLines_of_active (d := s.dev.reloadQuiet) h.listening.active hpwc, hfold]
      have hwire : ∀ l : Line, wire l = l.wire := by
        intro l
        cases hd : l.dir <;> simp [wire, Line.wire, hd]
      simp only [hwire]
      have hmove : ∀ x : Vector Line 8, w.reloadQuiet.setLines x = (s.dev.setLines x).reloadQuiet := by
        intro x
        rw [hframe]
        rfl
      rw [hmove]
      rfl
  case lineSettings =>
    exact ⟨d.applyLine_val l _, d.applyLine_val l _, d.applyLine_val l _, d.applyLine_val l _, d.applyLine_val l _, d.applyLine_val l _⟩

/-- Settles O19: the table by the place of each insertion, and the controls by their checks. -/
theorem markersStayOrdered : Obligations.MarkersStayOrdered := by
  refine ⟨fun s tag body ts ms h hf hms => ?load, loadMarker_val,
    fun m table ht => ⟨insertMarker_eq m ht, insertMarker_pairwise m ht⟩, fun s tag body ts h hf => ?clear⟩
  case load =>
    intro table
    have hf' : s.dev.reloadQuiet.stu.frozen = false := hf
    have hall := all_eq_false_iff RawMarker.inRange_iff ms
    split_ifs with h₁ h₂
    · exact arriveControl_refused h tag 0x2A#8 (f := ctlMarkLoad) rfl (by simp only [ctlMarkLoad, hms, hf', hall.2 h₁]; rfl)
    · have hr := Bool.eq_true_of_not_eq_false (mt hall.1 h₁)
      have h₂' : Config.markerEntries < s.dev.reloadQuiet.stu.markers.length + ms.length := h₂
      exact arriveControl_refused h tag 0x2A#8 (f := ctlMarkLoad) rfl (by simp only [ctlMarkLoad, hms, hf', hr, h₂']; rfl)
    · have hr := Bool.eq_true_of_not_eq_false (mt hall.1 h₁)
      have h₂' : ¬ Config.markerEntries < s.dev.reloadQuiet.stu.markers.length + ms.length := h₂
      refine arriveControl_answered h tag 0x2A#8 (f := ctlMarkLoad) rfl ?_ (h.settled.congr rfl rfl rfl rfl rfl rfl)
      have hlen : (ms.foldl loadMarker s.dev.reloadQuiet.stu.markers).length = s.dev.stu.markers.length + ms.length :=
        loadMarkers_length_of_inRange hr _
      simp only [ctlMarkLoad, hms]
      rw [if_neg (by simp [hf']), if_neg (by simp [hr]), if_neg h₂', hlen]
      rfl
  case clear =>
    have hf' : s.dev.reloadQuiet.stu.frozen = false := hf
    refine arriveControl_answered h tag 0x2B#8 (f := ctlMarkClear) rfl ?_ (h.settled.congr rfl rfl rfl rfl rfl rfl)
    rw [ctlMarkClear, if_neg (by simp [hf'])]
    rfl
end

section
/-! PROOFS. The scene's controls (O20, O21). -/

namespace Sys2Proof.Machine

/-! ### Voices changed all at once (R147) -/

theorem Device.voice_map (d : Device) (g : Voice → Voice) (v : Fin 32) : (d.setVoices (d.voices.map g)).voice v = g (d.voice v) := by
  simp [Device.voice]

theorem Voice.waits_atGo (v : Voice) : v.atGo.waits = v.waits := rfl

theorem Voice.waits_flushAll (v : Voice) : v.flushAll.waits = false := rfl

/-! ### GO (R5, R6, R17) -/

/-- R5, R6, R17: an accepted GO of a STOPPED scene. -/
theorem Device.go_of_stopped {d : Device} (h : d.stu.scene = .stopped) (cond : StartCond) (primedWait : Bool) :
    d.go cond primedWait =
      ((((d.setVoices (d.voices.map Voice.atGo)).setPorts (d.ports.map Port.atGo)).setStu
        { d.stu with
          scene := goState cond primedWait, time := 0, go := goConds cond primedWait, cueStarted := false, drainedPosted := false }).post
            (evStateChange .stopped (goState cond primedWait) 0)) := by
  unfold Device.go Device.moveScene
  simp only [Device.setStu_stu, Device.setStu_setStu, h]

theorem goState_line (l : Fin 8) (primedWait : Bool) : goState (.line l) primedWait = .armed := by cases primedWait <;> rfl

theorem goConds_of_armed {cond : StartCond} {primedWait : Bool} (h : goState cond primedWait = .armed) :
    goConds cond primedWait = some ⟨cond, primedWait, false⟩ := by
  rw [goConds, h]

/-- R5: the start condition's value of a SCENE_GO. -/
theorem goArgs_bytes {ts : List Tuple} {kind n : Byte} (h : argument 0x40 ts = some [kind, n]) :
    goArgs ts = if kind = 0#8 then some none else if kind = 1#8 then some (some n.toNat) else none := by
  simp only [goArgs, h, field_zero_byte, field_one_byte]
  by_cases h₀ : kind = 0#8
  · subst h₀; rfl
  · by_cases h₁ : kind = 1#8
    · subst h₁; rfl
    · have h₀' : kind.toNat ≠ 0 := by bv_omega
      have h₁' : kind.toNat ≠ 1 := by bv_omega
      rw [if_neg h₀, if_neg h₁]
      split <;> simp_all

/-- R147: GO leaves the requests as they are. -/
theorem Device.Settled.go {d : Device} (h : d.Settled) (cond : StartCond) (primedWait : Bool) : (d.go cond primedWait).Settled :=
  h.of_quiet id fun q =>
    ⟨q.debt, fun v => by
      show ((d.setVoices (d.voices.map Voice.atGo)).voice v).waits = false
      rw [Device.voice_map, Voice.waits_atGo]
      exact q.voices v, q.intake, q.peek, q.verify, q.selftest⟩

/-! ### STOP (R12, R13) -/

/-- R4, R12, R13: what SCENE_STOP discards in an ACTIVE part. -/
theorem Device.stopScene_of_active {d : Device} (h : d.pwc.power = .active) :
    d.stopScene =
      ((d.setLines (Vector.ofFn (fun l =>
        (d.line l).abandonPulse.noticed (d.line l).wire (d.line l).abandonPulse.wire))).setVoices (d.voices.map Voice.flushAll)).setStu
          { d.stu with frozen := false, go := none, cueStarted := false, drainedPosted := false, markers := [] } := by
  have hline : ∀ l, (d.setLines (d.lines.map Line.abandonPulse)).line l = (d.line l).abandonPulse := by
    intro l
    simp [Device.line]
  unfold Device.stopScene
  rw [Device.changeLines_of_active h rfl]
  simp only [hline, Device.setLines_setLines]

end Sys2Proof.Machine

open Sys2Proof Sys2Proof.Machine

/-- Settles O20: the checks in their order, and an accepted GO by the state it enters. -/
theorem sceneGoStarts : Obligations.SceneGoStarts := by
  refine ⟨fun s tag body ts kind n h ha hst => ?accepted, fun s tag body ts kind n h ha => ?refusals⟩
  case accepted =>
    intro primed d started
    have hst' : s.dev.reloadQuiet.stu.scene = .stopped := hst
    have hgo : ∀ cond : StartCond, ctlSceneGo ts s.dev.reloadQuiet = accept (s.dev.reloadQuiet.go cond primed) [num 1 (goState cond primed).code] →
        started (goState cond primed) (goConds cond primed) := by
      intro cond hctl
      rw [Device.go_of_stopped hst'] at hctl
      refine arriveControl_answered h tag 0x30#8 (f := ctlSceneGo) rfl hctl ?_
      have := h.settled.go cond primed
      rw [Device.go_of_stopped hst] at this
      exact this
    have hargs := goArgs_bytes ha
    refine ⟨fun hk hp => ?_, fun hk hp => ?_, fun l hk hn he => ?_⟩
    · have := hgo .immediate (by simp only [ctlSceneGo, hargs, hk, hst', if_true]; rfl)
      rw [hp] at this
      exact this
    · have := hgo .immediate (by simp only [ctlSceneGo, hargs, hk, hst', if_true]; rfl)
      rw [hp] at this
      exact this
    · have he' : (s.dev.reloadQuiet.line l).edgeMode ≠ .none := he
      have := hgo (.line l) (by
        have hone : goArgs ts = some (some l.val) := by rw [hargs, hk, hn]; rfl
        simp only [ctlSceneGo, hone, hst', numberOf_val, if_neg he']
        rfl)
      rw [goConds_of_armed (goState_line l primed), goState_line] at this
      exact this
  case refusals =>
    intro refused
    have hargs := goArgs_bytes ha
    split_ifs with h₁ h₂
    · refine arriveControl_refused h tag 0x30#8 (f := ctlSceneGo) rfl ?_
      have h₀ : kind ≠ 0#8 := by bv_omega
      have h₁ : kind ≠ 1#8 := by bv_omega
      simp only [ctlSceneGo, hargs, h₀, h₁, if_false]
    · refine arriveControl_refused h tag 0x30#8 (f := ctlSceneGo) rfl ?_
      have hk : kind = 0#8 ∨ kind = 1#8 := by bv_omega
      have h₂' : s.dev.reloadQuiet.stu.scene ≠ .stopped := h₂
      obtain ⟨line, hline⟩ : ∃ line, goArgs ts = some line := by
        rcases hk with rfl | rfl
        · exact ⟨none, hargs⟩
        · exact ⟨some n.toNat, hargs⟩
      simp only [ctlSceneGo, hline, if_pos h₂']
    · intro hk hbad
      subst hk
      refine arriveControl_refused h tag 0x30#8 (f := ctlSceneGo) rfl ?_
      have h₂' : ¬ s.dev.reloadQuiet.stu.scene ≠ .stopped := h₂
      have hone : goArgs ts = some (some n.toNat) := by rw [hargs]; rfl
      simp only [ctlSceneGo, hone, if_neg h₂']
      rcases hbad with h8 | ⟨l, hn, he⟩
      · rw [numberOf_of_le h8]
      · have he' : (s.dev.reloadQuiet.line l).edgeMode = .none := he
        rw [hn, numberOf_val]
        simp only [if_pos he']

/-- Settles O21: each move by its one branch, and STOP by its changes of lines, voices and scene. -/
theorem sceneMovesAndStops : Obligations.SceneMovesAndStops := by
  refine ⟨fun s tag body ts h => ?moves, fun s tag body ts h => ?stop⟩
  case moves =>
    intro moved
    have hset : ∀ {x : Stu} {n : Ntu}, ((s.dev.setStu x).setNtu n).Settled := h.settled.congr rfl rfl rfl rfl rfl rfl
    refine ⟨?_, ?_, ?_⟩
    · split
      · rename_i hs
        have hs' : s.dev.reloadQuiet.stu.scene = .running := hs
        refine arriveControl_answered h tag 0x31#8 (f := ctlScenePause) rfl ?_ hset
        rw [ctlScenePause, if_pos hs', Device.moveScene, hs']
        rfl
      · rename_i hs
        exact arriveControl_refused h tag 0x31#8 (f := ctlScenePause) rfl (if_neg hs)
    · split
      · rename_i hs
        have hs' : s.dev.reloadQuiet.stu.scene = .paused := hs
        refine arriveControl_answered h tag 0x32#8 (f := ctlSceneResume) rfl ?_ hset
        rw [ctlSceneResume, if_pos hs', Device.moveScene, hs']
        rfl
      · rename_i hs
        exact arriveControl_refused h tag 0x32#8 (f := ctlSceneResume) rfl (if_neg hs)
    · split
      · rename_i hs
        exact arriveControl_refused h tag 0x34#8 (f := ctlSceneFreeze) rfl (if_pos hs)
      · rename_i hs
        exact arriveControl_answered h tag 0x34#8 (f := ctlSceneFreeze) rfl (if_neg hs) (hset (n := s.dev.ntu))
  case stop =>
    intro wire ended emptied d e
    have hwire : ∀ l : Line, wire l = l.wire := by
      intro l
      cases hd : l.dir <;> simp [wire, Line.wire, hd]
    have hd : d = (s.dev.stopScene).setStu { s.dev.stopScene.stu with scene := .stopped } := by
      rw [Device.stopScene_of_active h.listening.active]
      simp only [d, hwire]
      rfl
    have hr : s.dev.reloadQuiet.stopScene = s.dev.stopScene.reloadQuiet := by
      rw [Device.stopScene_of_active h.listening.active, Device.stopScene_of_active (d := s.dev.reloadQuiet) h.listening.active]
      rfl
    have hquiet : ∀ {x : Stu} {n : Ntu}, ((s.dev.stopScene.setStu x).setNtu n).Settled := by
      intro x n
      rw [Device.stopScene_of_active h.listening.active]
      refine h.settled.of_quiet id fun q => ⟨q.debt, fun v => ?_, q.intake, q.peek, q.verify, q.selftest⟩
      show ((s.dev.setVoices (s.dev.voices.map Voice.flushAll)).voice v).waits = false
      rw [Device.voice_map, Voice.waits_flushAll]
    have hstu : s.dev.stopScene.stu =
        { s.dev.stu with frozen := false, go := none, cueStarted := false, drainedPosted := false, markers := [] } := by
      rw [Device.stopScene_of_active h.listening.active]
      rfl
    simp only [e, hd]
    split
    · rename_i hs
      have hs' : s.dev.reloadQuiet.stu.scene = .stopped := hs
      refine arriveControl_answered h tag 0x33#8 (f := ctlSceneStop) rfl ?_ (hquiet (n := s.dev.stopScene.ntu))
      rw [ctlSceneStop, if_pos hs', hr, ← hs]
      rfl
    · rename_i hs
      have hs' : ¬ s.dev.reloadQuiet.stu.scene = .stopped := hs
      refine arriveControl_answered h tag 0x33#8 (f := ctlSceneStop) rfl ?_ hquiet
      rw [ctlSceneStop, if_neg hs', hr, Device.moveScene]
      rfl
end

section
/-! PROOFS. The controls of notices, reports, memory and self-test (O22, O23). -/

namespace Sys2Proof.Machine

/-! ### NOTICE_SET and REPORT_SET (R177, R181) -/

theorem SourceTuple.inRange_iff (x : SourceTuple) : x.inRange = true ↔ ¬ (43 ≤ x.source ∨ 4 ≤ x.level) := by
  simp only [SourceTuple.inRange, Bool.and_eq_true, decide_eq_true_eq]
  omega

theorem kindCount_le (i : Fin 43) : kindCount i ≤ 8 := by revert i; decide

/-- R177: the stored bits are those of the source's kinds. -/
theorem storedKinds_getLsbD (i : Fin 43) (kinds : BitVec 16) (k : Nat) :
    (storedKinds i kinds).getLsbD k = (kinds.getLsbD k && decide (k < kindCount i)) := by
  have hk := kindCount_le i
  rw [storedKinds, BitVec.getLsbD_and, BitVec.getLsbD_ofNat, Nat.testBit_two_pow_sub_one]
  by_cases h : k < 16
  · simp [h]
  · have : ¬ k < kindCount i := by omega
    simp [this]

theorem Ntu.applySource_val (n : Ntu) (i : Fin 43) (kinds : BitVec 16) (level : Nat) :
    n.applySource ⟨i, kinds, level⟩ = { n with settings := n.settings.set i ⟨storedKinds i kinds, level⟩ } := by
  simp only [Ntu.applySource, numberOf_val]

theorem Ntu.sourceBytes_val (n : Ntu) (i : Fin 43) (kinds : BitVec 16) (level : Nat) :
    n.sourceBytes ⟨i.val, kinds, level⟩ = leBytes 1 i.val ++ leBytes 2 (n.settings[i]).kinds.toNat ++ leBytes 1 (n.settings[i]).level := by
  simp only [Ntu.sourceBytes, numberOf_val, record, List.flatten_cons, List.flatten_nil, List.append_nil, List.append_assoc]

/-! ### MEM_SET (R161, R162) -/

/-- R162: the refresh rate after a tuple. -/
def MemTuple.rateAfter (r : Nat) : MemTuple → Nat
  | .rate x => x
  | _ => r

/-- R161: the check-injection record after a tuple. -/
def MemTuple.injectionAfter (i : Option Injection) : MemTuple → Option Injection
  | .inject t b => if h : t < 64 then some { take := ⟨t, h⟩, block := b, armed := true } else i
  | .injectOff => none
  | .rate _ => i

theorem Smc.applyMem_eq (s : Smc) (m : MemTuple) :
    s.applyMem m = { s with rate := m.rateAfter s.rate, injection := m.injectionAfter s.injection } := by
  cases m with
  | rate r => rfl
  | injectOff => rfl
  | inject t b =>
    by_cases h : t < 64
    · simp only [Smc.applyMem, numberOf_of_lt h, MemTuple.rateAfter, MemTuple.injectionAfter, h, dif_pos]
    · simp only [Smc.applyMem, numberOf_of_le (Nat.not_lt.1 h), MemTuple.rateAfter, MemTuple.injectionAfter, h, dif_neg, not_false_eq_true]

theorem Smc.applyMems_eq (ms : List MemTuple) (s : Smc) :
    ms.foldl Smc.applyMem s =
      { s with rate := ms.foldl MemTuple.rateAfter s.rate, injection := ms.foldl MemTuple.injectionAfter s.injection } := by
  induction ms generalizing s with
  | nil => rfl
  | cons m ms ih => rw [List.foldl_cons, ih, Smc.applyMem_eq]; rfl

/-- R161, R172: the bytes of the check-injection record. -/
theorem injectionBytes_eq (i : Option Injection) :
    injectionBytes i = match i with
      | none => [0#8]
      | some x => 1#8 :: (leBytes 1 x.take.val ++ leBytes 4 x.block.toNat ++ [if x.armed then 1#8 else 0#8]) := by
  cases i with
  | none => rfl
  | some x => cases ha : x.armed <;> simp [injectionBytes, record, flagByte, ha] <;> rfl

/-- The first result of a check that has one result only. -/
theorem head?_filterMap_of_const {α β : Type} {f : α → Option β} {c : β} (h : ∀ a, f a = none ∨ f a = some c) (l : List α) :
    ((l.filterMap f).head? = some c ∧ ∃ a ∈ l, f a = some c) ∨ ((l.filterMap f).head? = none ∧ ∀ a ∈ l, f a ≠ some c) := by
  induction l with
  | nil => exact .inr ⟨rfl, nofun⟩
  | cons a l ih =>
    rcases h a with ha | ha
    · rw [List.filterMap_cons_none ha]
      rcases ih with ⟨h₁, b, hb, hf⟩ | ⟨h₁, h₂⟩
      · exact .inl ⟨h₁, b, List.mem_cons_of_mem _ hb, hf⟩
      · refine .inr ⟨h₁, fun b hb => ?_⟩
        rcases List.mem_cons.1 hb with rfl | hb
        · simp [ha]
        · exact h₂ b hb
    · exact .inl ⟨by rw [List.filterMap_cons_some ha]; rfl, a, List.mem_cons_self .., ha⟩

/-- R162: an INJECT of a take id above 63. -/
def MemTuple.noId (m : MemTuple) : Prop := ∃ t b, m = .inject t b ∧ 64 ≤ t

/-- R162: an INJECT of a FREE take. -/
def MemTuple.freeTake (d : Device) (m : MemTuple) : Prop := ∃ (t : Fin 64) (b : BlockNo), m = .inject t b ∧ (d.take t).state = .free

/-- R162: an INJECT of a block beyond a resident take's capacity. -/
def MemTuple.beyond (d : Device) (m : MemTuple) : Prop :=
  ∃ (t : Fin 64) (b : BlockNo), m = .inject t b ∧ (d.take t).kind = .resident ∧ (d.take t).segments.length * 32768 ≤ b.toNat

theorem MemTuple.refusal_noId (d : Device) (m : MemTuple) :
    (m.refusal d 2 = none ∨ m.refusal d 2 = some .range) ∧ (m.refusal d 2 = some .range ↔ m.noId) := by
  cases m with
  | rate r => exact ⟨.inl rfl, nofun, fun ⟨_, _, h, _⟩ => nomatch h⟩
  | injectOff => exact ⟨.inl rfl, nofun, fun ⟨_, _, h, _⟩ => nomatch h⟩
  | inject t b =>
    by_cases h : t < 64
    · simp [MemTuple.refusal, numberOf_of_lt h, MemTuple.noId, h]
    · have h' : 64 ≤ t := Nat.not_lt.1 h
      simp [MemTuple.refusal, numberOf_of_le h', MemTuple.noId, h']

theorem MemTuple.refusal_freeTake (d : Device) (m : MemTuple) :
    (m.refusal d 3 = none ∨ m.refusal d 3 = some .noTake) ∧ (m.refusal d 3 = some .noTake ↔ m.freeTake d) := by
  cases m with
  | rate r => exact ⟨.inl rfl, nofun, fun ⟨_, _, h, _⟩ => nomatch h⟩
  | injectOff => exact ⟨.inl rfl, nofun, fun ⟨_, _, h, _⟩ => nomatch h⟩
  | inject t b =>
    by_cases h : t < 64
    · obtain ⟨i, rfl⟩ : ∃ i : Fin 64, t = i.val := ⟨⟨t, h⟩, rfl⟩
      by_cases hf : (d.take i).state = .free
      · simp [MemTuple.refusal, MemTuple.freeTake, hf, Fin.val_inj]
      · simp [MemTuple.refusal, MemTuple.freeTake, hf, Fin.val_inj]
    · have hne : ∀ i : Fin 64, t ≠ i.val := fun i => by have := i.isLt; omega
      simp [MemTuple.refusal, numberOf_of_le (Nat.not_lt.1 h), MemTuple.freeTake, hne]

theorem MemTuple.refusal_beyond (d : Device) (m : MemTuple) :
    (m.refusal d 4 = none ∨ m.refusal d 4 = some .range) ∧ (m.refusal d 4 = some .range ↔ m.beyond d) := by
  cases m with
  | rate r => exact ⟨.inl rfl, nofun, fun ⟨_, _, h, _⟩ => nomatch h⟩
  | injectOff => exact ⟨.inl rfl, nofun, fun ⟨_, _, h, _⟩ => nomatch h⟩
  | inject t b =>
    by_cases h : t < 64
    · obtain ⟨i, rfl⟩ : ∃ i : Fin 64, t = i.val := ⟨⟨t, h⟩, rfl⟩
      have hcap : (d.take i).capacity = (d.take i).segments.length * 32768 := rfl
      by_cases hf : (d.take i).kind = .resident ∧ (d.take i).segments.length * 32768 ≤ b.toNat
      · simp [MemTuple.refusal, MemTuple.beyond, hf, hcap, Fin.val_inj]
      · simp [MemTuple.refusal, MemTuple.beyond, hf, hcap, Fin.val_inj]
    · have hne : ∀ i : Fin 64, t ≠ i.val := fun i => by have := i.isLt; omega
      simp [MemTuple.refusal, numberOf_of_le (Nat.not_lt.1 h), MemTuple.beyond, hne]

/-- R162: the first check a chain fails, in the order of the three checks over the whole chain. -/
theorem memRefusal_cases (d : Device) (ms : List MemTuple) :
    ((∃ m ∈ ms, m.noId) → memRefusal d ms = some .range) ∧
    ((¬ ∃ m ∈ ms, m.noId) → (∃ m ∈ ms, m.freeTake d) → memRefusal d ms = some .noTake) ∧
    ((¬ ∃ m ∈ ms, m.noId) → (¬ ∃ m ∈ ms, m.freeTake d) → (∃ m ∈ ms, m.beyond d) → memRefusal d ms = some .range) ∧
    ((¬ ∃ m ∈ ms, m.noId) → (¬ ∃ m ∈ ms, m.freeTake d) → (¬ ∃ m ∈ ms, m.beyond d) → memRefusal d ms = none) := by
  have hr : memRefusal d ms = (((ms.filterMap (MemTuple.refusal d 2)).head?.or (ms.filterMap (MemTuple.refusal d 3)).head?).or
      (ms.filterMap (MemTuple.refusal d 4)).head?) := by
    simp only [memRefusal, List.flatMap_cons, List.flatMap_nil, List.append_nil, List.head?_append, Option.or_assoc]
  have h₂ := head?_filterMap_of_const (fun m => (MemTuple.refusal_noId d m).1) ms
  have h₃ := head?_filterMap_of_const (fun m => (MemTuple.refusal_freeTake d m).1) ms
  have h₄ := head?_filterMap_of_const (fun m => (MemTuple.refusal_beyond d m).1) ms
  simp only [MemTuple.refusal_noId, ne_eq] at h₂
  simp only [MemTuple.refusal_freeTake, ne_eq] at h₃
  simp only [MemTuple.refusal_beyond, ne_eq] at h₄
  rw [hr]
  refine ⟨fun ha => ?_, fun ha hb => ?_, fun ha hb hc => ?_, fun ha hb hc => ?_⟩
  · rw [(h₂.resolve_right fun h => ha.elim fun m hm => h.2 m hm.1 hm.2).1]
    rfl
  · rw [(h₂.resolve_left fun h => ha h.2).1, (h₃.resolve_right fun h => hb.elim fun m hm => h.2 m hm.1 hm.2).1]
    rfl
  · rw [(h₂.resolve_left fun h => ha h.2).1, (h₃.resolve_left fun h => hb h.2).1,
      (h₄.resolve_right fun h => hc.elim fun m hm => h.2 m hm.1 hm.2).1]
    rfl
  · rw [(h₂.resolve_left fun h => ha h.2).1, (h₃.resolve_left fun h => hb h.2).1, (h₄.resolve_left fun h => hc h.2).1]
    rfl

/-! ### SELFTEST (R153, R157, R158) -/

theorem Device.anyTake_iff (d : Device) : d.anyTake = true ↔ ∃ t : Fin 64, (d.take t).state ≠ .free := by
  simp [Device.anyTake, mem_all64]

/-- R158: a run that has written ends in the clearing of its segments. -/
theorem Device.endRun_of_written (cause : EndCause) {d : Device} (h : d.smc.engine.written ≠ []) :
    d.endRun cause = d.setEngine
      { d.smc.engine with
        state := .clearing, stage := .waiting, endCause := cause, clearing := d.smc.engine.written, clearBlock := 0 } := by
  unfold Device.endRun
  simp [h]

/-- R158: a run that has written nothing is over at once. -/
theorem Device.endRun_of_nothing (cause : EndCause) {d : Device} (h : d.smc.engine.written = []) :
    d.endRun cause = (d.setEngine
      { d.smc.engine with
        state := .clearing, stage := .waiting, endCause := cause, clearing := d.smc.engine.written, clearBlock := 0 }).finishRun := by
  unfold Device.endRun
  simp [h]

/-- R154: the end of a pass, by the run's mode and the engine's state. -/
theorem Device.endPass_eq (d : Device) :
    d.endPass =
      let e := { d.smc.engine with passesDone := satAdd Config.max32 d.smc.engine.passesDone 1 }
      if e.mode = .loop then
        if e.state = .running then
          d.setEngine { e with pass := satAdd Config.max32 e.pass 1, pos := TestPos.start, stage := .waiting }
        else (d.setEngine e).endRun .stoppedAfterPass
      else (d.setEngine e).endRun .complete := by
  unfold Device.endPass
  dsimp only
  split
  · rename_i hm hs
    rw [if_pos hm, if_pos hs]
    rfl
  · rename_i hm hs
    rw [if_pos hm, if_neg hs]
  · rename_i hm _
    rw [if_neg (fun h => hm h)]

/-- R189: the quiet timer has no part in the engine's moves. -/
theorem Device.endRun_reloadQuiet (cause : EndCause) (d : Device) : d.reloadQuiet.endRun cause = (d.endRun cause).reloadQuiet := by
  by_cases h : d.smc.engine.written = []
  · have h' : d.reloadQuiet.smc.engine.written = [] := h
    rw [Device.endRun_of_nothing cause h, Device.endRun_of_nothing cause h']
    rfl
  · have h' : d.reloadQuiet.smc.engine.written ≠ [] := h
    rw [Device.endRun_of_written cause h, Device.endRun_of_written cause h']
    rfl

theorem Device.endPass_reloadQuiet (d : Device) : d.reloadQuiet.endPass = d.endPass.reloadQuiet := by
  rw [Device.endPass_eq, Device.endPass_eq]
  dsimp only
  rw [apply_ite Device.reloadQuiet, apply_ite Device.reloadQuiet, ← Device.endRun_reloadQuiet, ← Device.endRun_reloadQuiet]
  rfl

theorem Device.endSegment_reloadQuiet (d : Device) : d.reloadQuiet.endSegment = d.endSegment.reloadQuiet := by
  unfold Device.endSegment
  dsimp only
  rw [apply_dite Device.reloadQuiet, ← Device.endPass_reloadQuiet]
  rfl

theorem Device.advanceTest_reloadQuiet (word : Nat) (d : Device) : d.reloadQuiet.advanceTest word = (d.advanceTest word).reloadQuiet := by
  unfold Device.advanceTest
  dsimp only
  rw [apply_ite Device.reloadQuiet, apply_ite Device.reloadQuiet, ← Device.endSegment_reloadQuiet]
  rfl

/-- R157: CONTINUE with a write owed, or short of the end of the sweep. -/
theorem Device.continueRun_within {d : Device} (h : d.smc.engine.pos.owed = true ∨ d.smc.engine.pos.word < 4194304) :
    d.continueRun = d.setEngine { d.smc.engine with state := .running, failure := none, stage := .waiting } := by
  unfold Device.continueRun
  dsimp only
  by_cases ho : d.smc.engine.pos.owed = true
  · rw [if_pos ho]
  · have hpos : ({ d.smc.engine.pos with owed := false } : TestPos) = d.smc.engine.pos := by
      rw [← Bool.eq_false_of_not_eq_true ho]
    rw [if_neg ho, Device.advanceTest]
    refine (if_pos (h.resolve_left ho)).trans ?_
    show d.setEngine { d.smc.engine with
      state := .running, failure := none, stage := .waiting, pos := { d.smc.engine.pos with owed := false } } = _
    rw [hpos]

/-- R154, R157: CONTINUE at the end of a sweep, with no write owed. -/
theorem Device.continueRun_at_end {d : Device} (h : d.smc.engine.pos.owed = false) :
    d.continueRun =
      (d.setEngine { d.smc.engine with state := .running, failure := none, stage := .waiting }).advanceTest d.smc.engine.pos.word := by
  unfold Device.continueRun
  dsimp only
  rw [if_neg (by simp [h])]

/-- R158: STOP ends a HALTED run, and a RUNNING one that is no LOOP. -/
theorem selftestStop_ends {d : Device}
    (h : d.smc.engine.state = .halted ∨ (d.smc.engine.state = .running ∧ d.smc.engine.mode ≠ .loop)) :
    selftestStop d = accept (d.endRun .stopped) [] := by
  unfold selftestStop
  rcases h with hs | ⟨hs, hm⟩
  · simp only [hs]
  · simp only [hs]

/-- R153: the arguments of a SELFTEST whose mode and pattern lie in their sets. -/
theorem testArgs_bytes {ts : List Tuple} {action mode pattern : Byte} (h : argument 0x50 ts = some [action, mode, pattern])
    (hm : mode.toNat < 3) (hp : pattern.toNat < 2) : ∃ m p, testArgs ts = some (action.toNat, m, p) ∧ m.code = mode.toNat ∧ p.code = pattern.toNat := by
  obtain ⟨m, hm'⟩ : ∃ m : TestMode, testModeOf mode.toNat = some m ∧ m.code = mode.toNat := by
    have : mode.toNat = 0 ∨ mode.toNat = 1 ∨ mode.toNat = 2 := by omega
    rcases this with h | h | h <;> rw [h]
    · exact ⟨.normal, rfl, rfl⟩
    · exact ⟨.halt, rfl, rfl⟩
    · exact ⟨.loop, rfl, rfl⟩
  obtain ⟨p, hp'⟩ : ∃ p : Pattern, patternOf pattern.toNat = some p ∧ p.code = pattern.toNat := by
    have : pattern.toNat = 0 ∨ pattern.toNat = 1 := by omega
    rcases this with h | h <;> rw [h]
    · exact ⟨.pseudo, rfl, rfl⟩
    · exact ⟨.march, rfl, rfl⟩
  exact ⟨m, p, by simp only [testArgs, h, field_zero_byte, field_one_byte, field_two_byte, hm'.1, hp'.1], hm'.2, hp'.2⟩

theorem TestMode.code_lt (m : TestMode) : m.code < 3 := by cases m <;> decide

theorem Pattern.code_lt (p : Pattern) : p.code < 2 := by cases p <;> decide

theorem TestMode.code_injective {m n : TestMode} (h : m.code = n.code) : m = n := by
  cases m <;> cases n <;> simp_all [TestMode.code]

theorem Pattern.code_injective {p q : Pattern} (h : p.code = q.code) : p = q := by
  cases p <;> cases q <;> simp_all [Pattern.code]

end Sys2Proof.Machine

open Sys2Proof Sys2Proof.Machine

/-- Settles O22: the chains by their tuples, the checks of MEM_SET in their order. -/
theorem noticeReportAndMemSetApply : Obligations.NoticeReportAndMemSetApply := by
  refine ⟨⟨fun s tag body ts ss h hss => ?notices, fun n i kinds level => ⟨n.applySource_val i kinds level, storedKinds_getLsbD i kinds⟩⟩,
    Ntu.sourceBytes_val, fun s tag body ts n h ha => ?reports, fun s tag body ts ms h hms => ?memory⟩
  case notices =>
    intro n
    have hall := all_eq_false_iff SourceTuple.inRange_iff ss
    split
    · rename_i hbad
      exact arriveControl_refused h tag 0x38#8 (f := ctlNoticeSet) rfl (by simp only [ctlNoticeSet, hss, hall.2 hbad, if_true])
    · rename_i hgood
      have hr : ss.all SourceTuple.inRange = true := Bool.eq_true_of_not_eq_false (mt hall.1 hgood)
      refine arriveControl_answered h tag 0x38#8 (f := ctlNoticeSet) rfl ?_ (h.settled.congr rfl rfl rfl rfl rfl rfl)
      simp only [ctlNoticeSet, hss, hr]
      rfl
  case reports =>
    have hset : ∀ {x : Ntu}, (s.dev.setNtu x).Settled := h.settled.congr rfl rfl rfl rfl rfl rfl
    have hctl : ctlReportSet ts s.dev.reloadQuiet =
        accept (s.dev.reloadQuiet.setNtu (s.dev.ntu.setInterval n.toNat)) [num 4 (reportInterval n.toNat)] := by
      have hn : field (leBytes 4 n.toNat) 0 4 = n.toNat := (field_zero_leBytes 4 n.toNat).trans (Nat.mod_eq_of_lt n.isLt)
      simp only [ctlReportSet, ha, hn]
      rfl
    split
    · rename_i hn
      refine arriveControl_answered h tag 0x39#8 (f := ctlReportSet) rfl ?_ hset
      rw [hctl, hn]
      rfl
    · rename_i hn
      have hn' : n.toNat ≠ 0 := by bv_omega
      refine arriveControl_answered h tag 0x39#8 (f := ctlReportSet) rfl ?_ hset
      simp only [hctl, Ntu.setInterval, reportInterval, hn', if_false, clampNat]
      rfl
  case memory =>
    intro refused noId freeTake beyond
    obtain ⟨h₁, h₂, h₃, h₄⟩ := memRefusal_cases s.dev.reloadQuiet ms
    have hrefused : ∀ st, memRefusal s.dev.reloadQuiet ms = some st → refused st := fun st he =>
      arriveControl_refused h tag 0x41#8 (f := ctlMemSet) rfl (by simp only [ctlMemSet, hms, he])
    refine ⟨fun ha => hrefused _ (h₁ ha), fun ha hb => hrefused _ (h₂ ha hb), fun ha hb hc => hrefused _ (h₃ ha hb hc), fun ha hb hc => ?_⟩
    intro rate injection
    have hrate : rate = ms.foldl MemTuple.rateAfter s.dev.smc.rate := by
      refine congrArg (fun f => ms.foldl f s.dev.smc.rate) ?_
      funext r m
      cases m <;> rfl
    have hinjection : injection = ms.foldl MemTuple.injectionAfter s.dev.smc.injection := by
      refine congrArg (fun f => ms.foldl f s.dev.smc.injection) ?_
      funext i m
      cases m <;> rfl
    rw [hrate, hinjection]
    refine arriveControl_answered h tag 0x41#8 (f := ctlMemSet) rfl ?_ (h.settled.setSmc rfl rfl rfl rfl rfl)
    simp only [ctlMemSet, hms, h₄ ha hb hc, Smc.applyMems_eq]
    show accept (s.dev.setSmc _).reloadQuiet _ = _
    rw [injectionBytes_eq]
    rfl

/-- Settles O23: START, CONTINUE and STOP by the engine's state. -/
theorem selftestControlsAct : Obligations.SelftestControlsAct := by
  refine ⟨fun s tag mode pattern rest ts m p h ha hm hp => ?start, fun s tag mode pattern rest ts h ha hm hp => ?resume,
    fun s tag mode pattern rest ts h ha hm hp => ?stop⟩
  case start =>
    intro refused
    obtain ⟨m', p', hargs, hm', hp'⟩ := testArgs_bytes ha (hm ▸ m.code_lt) (hp ▸ p.code_lt)
    obtain rfl : m' = m := TestMode.code_injective (hm'.trans hm)
    obtain rfl : p' = p := Pattern.code_injective (hp'.trans hp)
    have hctl : ctlSelftest ts s.dev.reloadQuiet = Sys2Proof.Machine.selftestStart m' p' s.dev.reloadQuiet := by
      simp only [ctlSelftest, hargs]
      rfl
    have hrefused : ∀ st, Sys2Proof.Machine.selftestStart m' p' s.dev.reloadQuiet = refuse s.dev.reloadQuiet st → refused st :=
      fun st he => arriveControl_refused h tag 0x40#8 (f := ctlSelftest) rfl (hctl.trans he)
    have hany : s.dev.reloadQuiet.anyTake = true ↔ ∃ t : Fin 64, (s.dev.take t).state ≠ .free := Device.anyTake_iff _
    have hstart : Sys2Proof.Machine.selftestStart m' p' s.dev.reloadQuiet =
        if s.dev.reloadQuiet.anyTake = true then refuse s.dev.reloadQuiet .inUse
        else if s.dev.stu.scene ≠ .stopped then refuse s.dev.reloadQuiet .state
        else if s.dev.smc.engine.state ≠ .idle then refuse s.dev.reloadQuiet .busy
        else (s.dev.reloadQuiet.setSmc (s.dev.smc.startRun m' p'), some (.accepted, [])) := rfl
    by_cases h₁ : ∃ t : Fin 64, (s.dev.take t).state ≠ .free
    · rw [if_pos h₁]
      exact hrefused _ (hstart.trans (if_pos (hany.2 h₁)))
    rw [if_neg (mt hany.1 h₁)] at hstart
    rw [if_neg h₁]
    by_cases h₂ : s.dev.stu.scene ≠ .stopped
    · rw [if_pos h₂]
      exact hrefused _ (hstart.trans (if_pos h₂))
    rw [if_neg h₂] at hstart ⊢
    by_cases h₃ : s.dev.smc.engine.state ≠ .idle
    · rw [if_pos h₃]
      exact hrefused _ (hstart.trans (if_pos h₃))
    · rw [if_neg h₃] at hstart ⊢
      exact arriveControl_granted h tag 0x40#8 (f := ctlSelftest) rfl (hctl.trans hstart)
  case resume =>
    intro e d
    obtain ⟨m, p, hargs, -, -⟩ := testArgs_bytes ha hm hp
    have hctl : ctlSelftest ts s.dev.reloadQuiet = Sys2Proof.Machine.selftestContinue s.dev.reloadQuiet := by
      simp only [ctlSelftest, hargs]
      rfl
    have hcont : e.state = .halted → ctlSelftest ts s.dev.reloadQuiet = accept s.dev.reloadQuiet.continueRun [] := by
      intro he
      exact hctl.trans (if_pos he)
    refine ⟨fun he => ?_, fun he hpos => ?_, fun he ho hpos => ?_⟩
    · exact arriveControl_refused h tag 0x40#8 (f := ctlSelftest) rfl (hctl.trans (if_neg he))
    · refine arriveControl_granted h tag 0x40#8 (f := ctlSelftest) rfl ((hcont he).trans ?_)
      rw [Device.continueRun_within (d := s.dev.reloadQuiet) hpos.symm.symm]
      rfl
    · refine arriveControl_granted h tag 0x40#8 (f := ctlSelftest) rfl ((hcont he).trans ?_)
      rw [Device.continueRun_at_end (d := s.dev.reloadQuiet) ho, ← Device.advanceTest_reloadQuiet]
      rfl
  case stop =>
    intro e left
    obtain ⟨m, p, hargs, -, -⟩ := testArgs_bytes ha hm hp
    have hctl : ctlSelftest ts s.dev.reloadQuiet = Sys2Proof.Machine.selftestStop s.dev.reloadQuiet := by
      simp only [ctlSelftest, hargs]
      rfl
    have hends : e.state = .halted ∨ (e.state = .running ∧ e.mode ≠ .loop) →
        ctlSelftest ts s.dev.reloadQuiet = accept (s.dev.reloadQuiet.endRun .stopped) [] := fun he => hctl.trans (selftestStop_ends he)
    refine ⟨fun he => ?_, fun he => ?_, fun he hl => ?_, fun he hw => ?_, fun he hw => ?_⟩
    · refine arriveControl_refused h tag 0x40#8 (f := ctlSelftest) rfl (hctl.trans ?_)
      have he' : s.dev.reloadQuiet.smc.engine.state = .idle ∨ s.dev.reloadQuiet.smc.engine.state = .clearing := he
      rcases he' with he' | he' <;> simp only [Sys2Proof.Machine.selftestStop, he']
    · refine arriveControl_answered h tag 0x40#8 (f := ctlSelftest) rfl (hctl.trans ?_) h.settled
      have he' : s.dev.reloadQuiet.smc.engine.state = .stopping := he
      simp only [Sys2Proof.Machine.selftestStop, he']
      rfl
    · refine arriveControl_answered h tag 0x40#8 (f := ctlSelftest) rfl (hctl.trans ?_) (h.settled.setSmc rfl rfl rfl rfl rfl)
      have he' : s.dev.reloadQuiet.smc.engine.state = .running := he
      have hl' : s.dev.reloadQuiet.smc.engine.mode = .loop := hl
      rw [Sys2Proof.Machine.selftestStop, he', hl']
      rfl
    · refine arriveControl_granted h tag 0x40#8 (f := ctlSelftest) rfl ((hends he).trans ?_)
      rw [Device.endRun_of_written (d := s.dev.reloadQuiet) .stopped hw]
      rfl
    · intro ended x
      refine arriveControl_answered h tag 0x40#8 (f := ctlSelftest) rfl ((hends he).trans ?_)
        (h.settled.of_quiet id fun q => ⟨q.debt, q.voices, q.intake, q.peek, q.verify, nofun⟩)
      have hw' : s.dev.reloadQuiet.smc.engine.written = [] := hw
      rw [Device.endRun_of_nothing .stopped hw', hw']
      rfl
end

section
/-! PROOFS. Packets that arrive (O24, O25). -/

namespace Sys2Proof.Machine

theorem onDevice_eq {f : Device → Device} {s : State} {d : Device} (h : f s.dev = d) : onDevice f s = .next (s.setDev d) := by
  rw [onDevice, h]

/-! ### The link's checks (R184, R185) -/

theorem formatOf_eq_some {n : Nat} {f : Format} : formatOf n = some f ↔ n = f.code := by
  constructor
  · unfold formatOf
    split <;> simp_all <;> rintro rfl <;> rfl
  · rintro rfl
    exact formatOf_code f

/-- R185: a SAMPLE packet's format code and body length agree with its count. -/
theorem Packet.sampleFits_iff (p : Packet) :
    p.sampleFits = true ↔ ∃ f : Format, p.flags.toNat / 16 % 4 = f.code ∧ p.body.length = p.count * f.bps := by
  unfold Packet.sampleFits
  constructor
  · intro h
    split at h
    · cases h
    · rename_i f hf
      exact ⟨f, formatOf_eq_some.1 hf, of_decide_eq_true h⟩
  · rintro ⟨f, hf, hl⟩
    have hf' : formatOf p.formatCode = some f := formatOf_eq_some.2 hf
    simp only [hf', hl, decide_true]

theorem leBytes_one_toNat (b : Byte) : leBytes 1 b.toNat = [b] := by
  simp [leBytes]

/-- R184: fields behind the first bytes of a packet. -/
theorem field_cons_succ (b : Byte) (bs : List Byte) (k n : Nat) : field (b :: bs) (k + 1) n = field bs k n := rfl

theorem field_append_left (as bs : List Byte) (k n : Nat) : field (as ++ bs) (as.length + k) n = field bs k n := by
  rw [field, field, List.drop_append, List.drop_eq_nil_of_le (by omega), List.nil_append, Nat.add_sub_cancel_left]

theorem field_leBytes_append (n x : Nat) (bs : List Byte) : field (leBytes n x ++ bs) 0 n = x % 256 ^ n := by
  rw [field, List.drop_zero, List.take_append_of_le_length (by simp), List.take_of_length_le (by simp), leNat_leBytes]

/-- R184: the fields of a packet's raw bytes. -/
theorem packetOf_bytes (kind flags : Byte) (len tag count : BitVec 16) (word crc : BitVec 32) (body : List Byte) :
    let head := flags :: (leBytes 2 len.toNat ++ leBytes 2 tag.toNat ++ leBytes 4 word.toNat ++ leBytes 2 count.toNat)
    packetOf kind (head ++ body ++ leBytes 4 crc.toNat) =
      { kind := kind, flags := flags, len := len.toNat, route := tag, word := word, count := count.toNat, body := body,
        crcRight := decide (crc32 (kind :: (head ++ body)) = crc) } := by
  intro head
  have hhead : head.length = 11 := by simp [head]
  have hrest : head ++ body ++ leBytes 4 crc.toNat = flags :: (leBytes 2 len.toNat ++ (leBytes 2 tag.toNat ++ (leBytes 4 word.toNat ++
      (leBytes 2 count.toNat ++ (body ++ leBytes 4 crc.toNat))))) := by simp [head]
  have hlen : (head ++ body ++ leBytes 4 crc.toNat).length = 11 + body.length + 4 := by
    rw [List.length_append, List.length_append, hhead, leBytes_length]
  have skip : ∀ (n x k m : Nat) (bs : List Byte), field (leBytes n x ++ bs) (n + k) m = field bs k m := by
    intro n x k m bs
    have := field_append_left (leBytes n x) bs k m
    rwa [leBytes_length] at this
  have hflags : field (head ++ body ++ leBytes 4 crc.toNat) 0 1 = flags.toNat := by rw [hrest, field_zero_byte]
  have hl : field (head ++ body ++ leBytes 4 crc.toNat) 1 2 = len.toNat := by
    rw [hrest, field_cons_succ, field_leBytes_append]
    exact Nat.mod_eq_of_lt len.isLt
  have ht : field (head ++ body ++ leBytes 4 crc.toNat) 3 2 = tag.toNat := by
    rw [hrest, field_cons_succ, skip 2 _ 0, field_leBytes_append]
    exact Nat.mod_eq_of_lt tag.isLt
  have hw : field (head ++ body ++ leBytes 4 crc.toNat) 5 4 = word.toNat := by
    rw [hrest, field_cons_succ, skip 2 _ 2, skip 2 _ 0, field_leBytes_append]
    exact Nat.mod_eq_of_lt word.isLt
  have hc : field (head ++ body ++ leBytes 4 crc.toNat) 9 2 = count.toNat := by
    rw [hrest, field_cons_succ, skip 2 _ 6, skip 2 _ 4, skip 4 _ 0, field_leBytes_append]
    exact Nat.mod_eq_of_lt count.isLt
  have hb : ((head ++ body ++ leBytes 4 crc.toNat).drop 11).take (11 + body.length + 4 - 15) = body := by
    rw [List.append_assoc, List.drop_append_of_le_length (by omega), List.drop_of_length_le (by omega), List.nil_append,
      List.take_append_of_le_length (by omega), List.take_of_length_le (by omega)]
  have hcrc : field (head ++ body ++ leBytes 4 crc.toNat) (11 + body.length + 4 - 4) 4 = crc.toNat := by
    have h := field_append_left (head ++ body) (leBytes 4 crc.toNat) 0 4
    rw [List.length_append, hhead, Nat.add_zero] at h
    rw [Nat.add_sub_cancel, h, field_zero_leBytes]
    exact Nat.mod_eq_of_lt crc.isLt
  have htake : (head ++ body ++ leBytes 4 crc.toNat).take (11 + body.length + 4 - 4) = head ++ body := by
    rw [List.take_append_of_le_length (by simp [hhead]), List.take_of_length_le (by simp [hhead])]
  have hcrc' : ((crc32 (kind :: (head ++ body))).toNat = crc.toNat) ↔ crc32 (kind :: (head ++ body)) = crc := BitVec.toNat_inj
  simp only [packetOf, hlen, hflags, hl, ht, hw, hc, hb, hcrc, htake, BitVec.ofNat_toNat, BitVec.setWidth_eq, hcrc']
  simp

/-! ### What a packet does to the part that hears it (R185, R190) -/

/-- R185, R190, R191: a packet other than a WAKE is lost under RSTN and in SLEEP, and so is one that fails a check. -/
theorem Device.receive_lost {p : Packet} {d : Device} (h : d.pwc.rstn = true ∨ d.pwc.power = .sleep)
    (hp : p.fault ≠ none ∨ p.kind ≠ 0x03#8) : d.receive p = d := by
  have hs : d.hearsAsleep p = d := by
    unfold Device.hearsAsleep
    rw [if_neg (fun hk => hp.elim (· hk.1) (· hk.2))]
  unfold Device.receive
  split
  · rfl
  · rename_i hr
    rw [if_pos (h.resolve_left hr), hs]

theorem Device.receive_asleep {p : Packet} {d : Device} (hr : d.pwc.rstn = false) (hs : d.pwc.power = .sleep) :
    d.receive p = d.hearsAsleep p := by
  simp [Device.receive, hr, hs]

/-- R185: a packet that fails a check posts its event. -/
theorem Device.receive_fault {p : Packet} {f : LinkFault} {d : Device} (hr : d.pwc.rstn = false) (hs : d.pwc.power ≠ .sleep)
    (hf : p.fault = some f) : d.receive p = d.reloadQuiet.post (faultEvent p f d.stu.time) := by
  simp [Device.receive, hr, hs, Device.hears, hf]

/-- R165, R185: a packet that passes the checks is queued, and the Control Unit takes what it may. -/
theorem Device.receive_awake {p : Packet} {d : Device} (hr : d.pwc.rstn = false) (hs : d.pwc.power = .active ∨ d.pwc.power = .waking)
    (hf : p.fault = none) : d.receive p = (d.reloadQuiet.queuePacket p).runCtu := by
  have h₁ : d.pwc.power ≠ .sleep := by rcases hs with h | h <;> simp [h]
  have h₂ : d.pwc.power ≠ .standby := by rcases hs with h | h <;> simp [h]
  simp [Device.receive, hr, h₁, h₂, Device.hears, hf]

theorem Device.wakeUp_of_standby {cause : WakeCause} {d : Device} (h : d.pwc.power = .standby) :
    d.wakeUp cause = d.setPwc { d.pwc with power := .waking, wakeCause := some cause, left := some .standby } := by
  have ha : d.asleep = false := by simp [Device.asleep, h]
  simp only [Device.wakeUp, h, Device.beginWaking, ha, Bool.false_eq_true, if_false]

/-- R185, R190: a packet that passes the checks is queued and wakes a part in STANDBY. -/
theorem Device.receive_standby {p : Packet} {d : Device} (hr : d.pwc.rstn = false) (hs : d.pwc.power = .standby)
    (hf : p.fault = none) (hq : (d.reloadQuiet.queuePacket p).pwc.power = .standby) :
    d.receive p =
      (d.reloadQuiet.queuePacket p).setPwc
        { (d.reloadQuiet.queuePacket p).pwc with power := .waking, wakeCause := some .link, left := some .standby } := by
  rw [← Device.wakeUp_of_standby hq]
  simp [Device.receive, hr, hs, Device.hears, hf]

/-- R97, R99: a line on leaving SLEEP: one that is not blocked leaves its sleep behaviour. -/
def Line.leaveSleep (l : Line) : Line := if l.sleepMode = .release ∧ l.wake = false then l else l.noticed (l.sensed true) (l.sensed false)

theorem Line.noticed_self (b : Bool) (l : Line) : l.noticed b b = l := by cases b <;> rfl

theorem Line.blocked_iff (l : Line) : l.blocked = true ↔ l.sleepMode = .release ∧ l.wake = false := by
  simp [Line.blocked]

theorem Device.levels_get (d : Device) (l : Fin 8) : d.levels[l] = (d.line l).sensed d.asleep := by
  simp [Device.levels, Device.line]

/-- R99, R190: a part in SLEEP wakes, and its lines leave their sleep behaviour. -/
theorem Device.wakeUp_of_sleep {cause : WakeCause} {d : Device} (h : d.pwc.power = .sleep) :
    d.wakeUp cause =
      (d.setPwc { d.pwc with power := .waking, wakeCause := some cause, left := some .sleep }).setLines (d.lines.map Line.leaveSleep) := by
  have ha : d.asleep = true := by simp [Device.asleep, h]
  let w := d.setPwc { d.pwc with power := .waking, wakeCause := some cause, left := some .sleep }
  have hline : ∀ l : Fin 8, (w.line l).noticed (d.unblocked d.levels w.levels)[l] w.levels[l] = (d.line l).leaveSleep := by
    intro l
    have hl : d.levels[l] = (d.line l).sensed true := by rw [Device.levels_get, ha]
    have hw : w.levels[l] = (d.line l).sensed false := w.levels_get l
    have hu : (d.unblocked d.levels w.levels)[l] = if (d.line l).blocked then w.levels[l] else d.levels[l] := by
      simp [Device.unblocked]
    rw [hu, hl, hw]
    show Line.noticed _ _ (d.line l) = _
    by_cases hb : (d.line l).blocked = true
    · rw [if_pos hb, Line.noticed_self, Line.leaveSleep, if_pos ((Line.blocked_iff _).1 hb)]
    · rw [if_neg hb, Line.leaveSleep, if_neg (mt (Line.blocked_iff _).2 hb)]
  have hstep : d.wakeUp cause = w.holdEdges (d.unblocked d.levels w.levels) w.levels := by
    simp only [Device.wakeUp, h, Device.beginWaking, ha, if_true]
    rfl
  rw [hstep, Device.holdEdges]
  congr 1
  refine Vector.ext fun i hi => ?_
  rw [Vector.getElem_ofFn, Vector.getElem_map]
  exact hline ⟨i, hi⟩

/-! ### Queues (R144, R165, R185, R186) -/

theorem Device.runCtu_idle {d : Device} (h : d.bli.controlQ = [] ∨ d.mayTake = false) : d.runCtu = d :=
  h.elim d.runCtu_nil d.runCtu_busy

/-- R185: a CONTROL packet that passes the checks goes to the control queue. -/
theorem Device.queuePacket_control (tag : BitVec 16) (word : BitVec 32) (body : List Byte) (d : Device) :
    d.queuePacket (controlPacketOf tag word body) = d.queueControl ⟨tag, word.setWidth 8, body⟩ := rfl

theorem setWidth_eight (word : BitVec 32) : word.setWidth 8 = BitVec.ofNat 8 (word.toNat % 256) := by
  refine BitVec.eq_of_toNat_eq ?_
  simp

/-- R165: what a control that is taken does to the part. -/
theorem Device.execControl_eq (c : CtlPkt) (d : Device) :
    d.execControl c =
      match carryOut c d with
      | (w, some a) => (w.setBli { w.bli with
          replyQ := w.bli.replyQ ++ [{ tag := c.tag, code := c.code, status := a.1, body := resultChain a.2 }] }).grant
      | (w, none) => w.grant := rfl

/-- R165, R185 (assumption log 1): a row that is a control is the arrival of that control's CONTROL packet. -/
theorem exec_of_control {i : Instr} {tag : BitVec 16} {code : Byte} {body : List Byte} (s : State) (h : i.control = some (tag, code, body)) :
    exec i s = exec (.controlPacket tag (code.setWidth 32) body) s := by
  cases i <;> simp only [Instr.control, Option.some.injEq, Prod.mk.injEq, reduceCtorEq] at h <;> (obtain ⟨rfl, rfl, rfl⟩ := h; rfl)

theorem Bli.arrived_append (b : Bli) (p : SamplePkt) :
    ({ b with sampleQ := b.sampleQ ++ [p] } : Bli).arrived =
      { b with sampleQ := b.sampleQ ++ [p], flow := if b.flow = .release ∧ b.sampleQ.length = 11 then .hold else b.flow } := by
  have hlen : (b.sampleQ ++ [p]).length = 12 ↔ b.sampleQ.length = 11 := by simp
  simp only [Bli.arrived, hlen]
  split <;> rfl

/-- R185: the rows of the table are well formed but for BAD_PACKET. -/
theorem packetForm (i : Instr) : Laws.PacketForm.Statement i := by
  cases i with
  | ident tag body => exact Laws.PacketForm.ident tag body
  | queryScene tag index rest => exact Laws.PacketForm.queryScene tag index rest
  | queryVoice tag index rest => exact Laws.PacketForm.queryVoice tag index rest
  | queryPort tag index rest => exact Laws.PacketForm.queryPort tag index rest
  | queryLines tag index rest => exact Laws.PacketForm.queryLines tag index rest
  | queryTake tag index rest => exact Laws.PacketForm.queryTake tag index rest
  | queryStreams tag index rest => exact Laws.PacketForm.queryStreams tag index rest
  | querySegments tag index rest => exact Laws.PacketForm.querySegments tag index rest
  | unknownControl tag code body => exact Laws.PacketForm.unknownControl tag code body
  | captureRead tag body => exact Laws.PacketForm.captureRead tag body
  | takeOpen tag body => exact Laws.PacketForm.takeOpen tag body
  | takeClose tag body => exact Laws.PacketForm.takeClose tag body
  | takeDrop tag body => exact Laws.PacketForm.takeDrop tag body
  | takeVerify tag body => exact Laws.PacketForm.takeVerify tag body
  | takePeek tag body => exact Laws.PacketForm.takePeek tag body
  | streamBind tag body => exact Laws.PacketForm.streamBind tag body
  | streamUnbind tag body => exact Laws.PacketForm.streamUnbind tag body
  | cueLoad tag body => exact Laws.PacketForm.cueLoad tag body
  | cueFlushPending tag rest => exact Laws.PacketForm.cueFlushPending tag rest
  | cueFlushAll tag rest => exact Laws.PacketForm.cueFlushAll tag rest
  | voiceSet tag body => exact Laws.PacketForm.voiceSet tag body
  | portSet tag body => exact Laws.PacketForm.portSet tag body
  | lineSet tag body => exact Laws.PacketForm.lineSet tag body
  | markLoad tag body => exact Laws.PacketForm.markLoad tag body
  | markClear tag body => exact Laws.PacketForm.markClear tag body
  | sceneGo tag body => exact Laws.PacketForm.sceneGo tag body
  | scenePause tag body => exact Laws.PacketForm.scenePause tag body
  | sceneResume tag body => exact Laws.PacketForm.sceneResume tag body
  | sceneStop tag body => exact Laws.PacketForm.sceneStop tag body
  | sceneFreeze tag body => exact Laws.PacketForm.sceneFreeze tag body
  | noticeSet tag body => exact Laws.PacketForm.noticeSet tag body
  | reportSet tag body => exact Laws.PacketForm.reportSet tag body
  | selftestStart tag mode pattern rest => exact Laws.PacketForm.selftestStart tag mode pattern rest
  | selftestContinue tag mode pattern rest => exact Laws.PacketForm.selftestContinue tag mode pattern rest
  | selftestStop tag mode pattern rest => exact Laws.PacketForm.selftestStop tag mode pattern rest
  | memSet tag body => exact Laws.PacketForm.memSet tag body
  | powerStandby tag quiet rest => exact Laws.PacketForm.powerStandby tag quiet rest
  | powerSleep tag quiet rest => exact Laws.PacketForm.powerSleep tag quiet rest
  | powerQuiet tag quiet rest => exact Laws.PacketForm.powerQuiet tag quiet rest
  | reset tag body => exact Laws.PacketForm.reset tag body
  | samplePacket tag flags seq count body => exact Laws.PacketForm.samplePacket tag flags seq count body
  | controlPacket tag word body => exact Laws.PacketForm.controlPacket tag word body
  | wakePacket => exact Laws.PacketForm.wakePacket
  | badPacket kind rest => exact Laws.PacketForm.badPacket kind rest
  | flowSymbolSend => exact Laws.PacketForm.flowSymbolSend
  | replySend => exact Laws.PacketForm.replySend
  | noticeSend => exact Laws.PacketForm.noticeSend
  | reportSend => exact Laws.PacketForm.reportSend
  | sleepEntry => exact Laws.PacketForm.sleepEntry
  | resetReplySent => exact Laws.PacketForm.resetReplySent
  | sceneTick => exact Laws.PacketForm.sceneTick
  | pulseEnd l => exact Laws.PacketForm.pulseEnd l
  | rampStep v => exact Laws.PacketForm.rampStep v
  | reportDue => exact Laws.PacketForm.reportDue
  | benchLineEdge l level => exact Laws.PacketForm.benchLineEdge l level
  | fetchComplete => exact Laws.PacketForm.fetchComplete
  | intakeJudgement => exact Laws.PacketForm.intakeJudgement
  | intakeWriteComplete => exact Laws.PacketForm.intakeWriteComplete
  | verifyReadComplete => exact Laws.PacketForm.verifyReadComplete
  | peekReadComplete => exact Laws.PacketForm.peekReadComplete
  | refreshInterval => exact Laws.PacketForm.refreshInterval
  | refreshComplete => exact Laws.PacketForm.refreshComplete
  | selftestStepComplete upsets => exact Laws.PacketForm.selftestStepComplete upsets
  | clearingWriteComplete => exact Laws.PacketForm.clearingWriteComplete
  | selfRefreshExitEnd => exact Laws.PacketForm.selfRefreshExitEnd
  | quietTimerExpiry => exact Laws.PacketForm.quietTimerExpiry
  | dramReinitEnd => exact Laws.PacketForm.dramReinitEnd
  | powerOn => exact Laws.PacketForm.powerOn
  | rstnAssert => exact Laws.PacketForm.rstnAssert
  | coldReset => exact Laws.PacketForm.coldReset
  | warmReset => exact Laws.PacketForm.warmReset
  | sclkPeriodNoTick => exact Laws.PacketForm.sclkPeriodNoTick

end Sys2Proof.Machine

open Sys2Proof Sys2Proof.Machine

/-- Settles O24: the packet by the state of the part, and the rows of the controls one by one. -/
theorem controlPacketArrives : Obligations.ControlPacketArrives := by
  refine ⟨fun s tag word body hb => ?packet, fun i tag code body s h => exec_of_control s h⟩
  intro left q c reloaded heard
  have hf := controlPacketOf_fault tag word body hb
  have hkind : (controlPacketOf tag word body).kind ≠ 0x03#8 := by
    show (0x02#8 : Byte) ≠ 0x03#8
    decide
  have hc : (⟨tag, word.setWidth 8, body⟩ : CtlPkt) = c := by rw [setWidth_eight]
  have hq : s.dev.reloadQuiet.queuePacket (controlPacketOf tag word body) = heard := by
    rw [Device.queuePacket_control, hc]
    simp only [Device.queueControl, evControlOverrun, num, leBytes_one_toNat]
    rfl
  have hleft : ∀ d, s.dev.receive (controlPacketOf tag word body) = d → left d := fun d h => onDevice_eq h
  have hpwc : heard.pwc = reloaded.pwc := by
    simp only [heard]
    split <;> rfl
  refine ⟨fun h => hleft _ (Device.receive_lost h (.inr hkind)), fun hr hp hm => hleft _ ?_, fun hr hp hm he => hleft _ ?_,
    fun hr hp => hleft _ ?_⟩
  · rw [Device.receive_awake hr hp hf, hq]
    refine Device.runCtu_idle (.inr ?_)
    rw [← hm]
    simp only [heard]
    split <;> rfl
  · rw [Device.receive_awake hr (.inl hp) hf, hq]
    have hq' : heard = reloaded.setBli { s.dev.bli with controlQ := [c] } := by
      simp only [heard, he]
      rfl
    have hrun := Device.runCtu_one (reloaded.setBli { s.dev.bli with controlQ := [c] }) c rfl hm
    have hback : (reloaded.setBli { s.dev.bli with controlQ := [c] }).setBli { s.dev.bli with controlQ := [] } = reloaded := by
      rw [← he]
      rfl
    rw [hq']
    exact hrun.trans ((congrArg (Device.execControl c) hback).trans (Device.execControl_eq c reloaded))
  · rw [Device.receive_standby hr hp hf (by rw [hq, hpwc]; exact hp), hq]

/-- Settles O25: samples, WAKE and bad packets by the state of the part; the checks and the fields of raw bytes. -/
theorem otherPacketsArrive : Obligations.OtherPacketsArrive := by
  refine ⟨fun s tag flags seq count body f hfmt hlen hmax hctl => ?sample, ⟨fun s hctl => ?wake, fun s kind rest f hf => ?bad⟩,
    ⟨fun p => ?checks, fun kind rest hl => ?short, fun kind flags len tag count word crc body => ?bytes⟩, fun i h => packetForm i h⟩
  case sample =>
    intro left q reloaded heard
    let p := samplePacketOf tag flags seq count body
    have hkind : p.kind ≠ 0x03#8 := by
      show (0x01#8 : Byte) ≠ 0x03#8
      decide
    have hfit : p.sampleFits = true := p.sampleFits_iff.2 ⟨f, formatOf_eq_some.1 hfmt, hlen⟩
    have hf : p.fault = none := by
      have hlong : ¬ maxBody p.kind < p.body.length := Nat.not_lt.2 hmax
      rw [Packet.fault, if_neg (by nofun), if_neg (fun h => h rfl), if_neg (fun h => h.1 rfl),
        if_neg (fun h => by rw [hfit] at h; exact absurd h.2 (by decide)), if_neg hlong]
    have hq : s.dev.reloadQuiet.queuePacket p = heard := by
      have hcode : formatOf p.formatCode = some f := hfmt
      have hk : p.kind = 0x01#8 := rfl
      simp only [Device.queuePacket, hk, if_true, hcode, Device.queueSample, Bli.arrived_append]
      rfl
    have hleft : ∀ d, s.dev.receive p = d → left d := fun d h => onDevice_eq h
    have hpwc : heard.pwc = reloaded.pwc := by
      simp only [heard]
      split <;> rfl
    refine ⟨fun h => hleft _ (Device.receive_lost h (.inr hkind)), fun hr hp => hleft _ ?_, fun hr hp => hleft _ ?_⟩
    · rw [Device.receive_awake hr hp hf, hq]
      refine Device.runCtu_idle (hctl.imp (fun h => ?_) fun h => ?_)
      · rw [← h]
        simp only [heard]
        split <;> rfl
      · rw [← h]
        simp only [heard]
        split <;> rfl
    · rw [Device.receive_standby hr hp hf (by rw [hq, hpwc]; exact hp), hq]
  case wake =>
    intro left reloaded
    have hf : wakePacketOf.fault = none := rfl
    have hq : s.dev.reloadQuiet.queuePacket wakePacketOf = reloaded := rfl
    have hleft : ∀ d, s.dev.receive wakePacketOf = d → left d := fun d h => onDevice_eq h
    refine ⟨fun h => hleft _ (by simp [Device.receive, h]), fun hr hp => hleft _ ?_, fun hr hp => hleft _ ?_, fun hr hp => hleft _ ?_⟩
    · rw [Device.receive_awake hr hp hf, hq]
      exact Device.runCtu_idle hctl
    · rw [Device.receive_standby hr hp hf (by rw [hq]; exact hp), hq]
    · exact (Device.receive_asleep hr hp).trans ((if_pos ⟨hf, rfl⟩).trans (Device.wakeUp_of_sleep hp))
  case bad =>
    intro p left reloaded
    have hleft : ∀ d, s.dev.receive p = d → left d := fun d h => onDevice_eq h
    refine ⟨fun h => hleft _ (Device.receive_lost h (.inl (by rw [hf]; nofun))), fun hr hp => ⟨fun he => hleft _ ?_, fun he => hleft _ ?_⟩⟩
    · subst he
      rw [Device.receive_fault hr hp hf]
      have hk : leBytes 1 (packetOf kind rest).kind.toNat = [kind] := leBytes_one_toNat kind
      simp only [faultEvent, evCrc, num, hk]
      rfl
    · rw [Device.receive_fault hr hp hf]
      have hk : leBytes 1 (packetOf kind rest).kind.toNat = [kind] := leBytes_one_toNat kind
      cases f with
      | crc => exact absurd rfl he
      | length => simp only [faultEvent, evFraming, num, hk]; rfl
      | kind => simp only [faultEvent, evFraming, num, hk]; rfl
      | sampleSize => simp only [faultEvent, evFraming, num, hk]; rfl
      | size => simp only [faultEvent, evFraming, num, hk]; rfl
  case checks =>
    intro fits most
    have hfits : p.sampleFits = false ↔ ¬ fits := by rw [← Bool.not_eq_true, p.sampleFits_iff]
    refine ⟨fun h => by simp [Packet.fault, h], fun h => ⟨fun hl => by simp [Packet.fault, h, hl], fun hl => ⟨fun h₁ h₂ h₃ => ?_, fun h₁ hn => ?_,
      fun hk => ?_⟩⟩⟩
    · simp [Packet.fault, h, hl, h₁, h₂, h₃]
    · simp [Packet.fault, h, hl, h₁, hfits.2 hn]
    · have hknown : ¬ (p.kind ≠ 0x01#8 ∧ p.kind ≠ 0x02#8 ∧ p.kind ≠ 0x03#8) := by
        rintro ⟨h₁, h₂, h₃⟩
        rcases hk with hk | hk | hk
        · exact h₁ hk.1
        · exact h₂ hk
        · exact h₃ hk
      have hsize : ¬ (p.kind = 0x01#8 ∧ p.sampleFits = false) := by
        rintro ⟨h₁, h₂⟩
        rcases hk with hk | hk | hk
        · exact hfits.1 h₂ hk.2
        · rw [h₁] at hk; exact absurd hk (by decide)
        · rw [h₁] at hk; exact absurd hk (by decide)
      have hfault : p.fault = if most < p.body.length then some .size else none := by
        rw [Packet.fault, if_neg (by simp [h]), if_neg (by simp [hl]), if_neg hknown, if_neg hsize]
        rfl
      exact ⟨fun hm => by rw [hfault, if_pos hm], fun hm => by rw [hfault, if_neg (Nat.not_lt.2 hm)]⟩
  case short =>
    have : (packetOf kind rest).crcRight = false := by
      simp [packetOf, Nat.not_le.2 hl]
    simp [Packet.fault, this]
  case bytes =>
    exact packetOf_bytes kind flags len tag count word crc body
end

section
/-! PROOFS. What the transmitter sends, and what follows a closing reply (O26, O27). -/

namespace Sys2Proof.Machine

/-! ### The first of a sorted list -/

/-- The first element that meets a test, in a list in rising order. -/
theorem find?_of_sorted {n : Nat} {p : Fin n → Bool} {i : Fin n} {l : List (Fin n)} (hs : l.Pairwise (· < ·)) (hi : i ∈ l)
    (hp : p i = true) (hb : ∀ j < i, p j = false) : l.find? p = some i := by
  induction l with
  | nil => cases hi
  | cons a l ih =>
    obtain ⟨ha, hl⟩ := List.pairwise_cons.1 hs
    rcases List.mem_cons.1 hi with rfl | hi
    · rw [List.find?_cons_of_pos hp]
    · rw [List.find?_cons_of_neg (by simp [hb a (ha i hi)]), ih hl hi]

theorem allLines_sorted : allLines.Pairwise (· < ·) := by decide

theorem allSources_sorted : allSources.Pairwise (· < ·) := by decide

theorem mem_allSources (i : Fin 43) : i ∈ allSources := by revert i; decide

/-! ### When the transmitter may send (R187) -/

theorem Device.maySend_iff (d : Device) :
    d.maySend = true ↔ d.pwc.rstn = false ∧ d.pwc.power ≠ .sleep ∧ ¬ (d.pwc.power = .active ∧ ∃ why, d.ctu = .closed why true) := by
  have hc : d.closingSent = true ↔ d.pwc.power = .active ∧ ∃ why, d.ctu = .closed why true := by
    unfold Device.closingSent
    split
    · rename_i why hctu
      simp [hctu]
    · rename_i hctu
      exact ⟨nofun, fun ⟨_, why, h⟩ => absurd h (hctu why)⟩
  simp only [Device.maySend, Bool.and_eq_true, Bool.not_eq_true', decide_eq_true_eq, and_assoc, ← hc, Bool.not_eq_true]

/-- R175: the closing reply is the last of the queue of a CLOSED Control Unit. -/
theorem closingReply_eq (rest : List Reply) (c : Ctu) :
    closingReply rest c = match c with
      | .closed why sent => .closed why (sent || rest.isEmpty)
      | c => c := by
  cases c with
  | closed why sent => cases sent <;> cases rest <;> rfl
  | free => rfl
  | holding p stage => rfl

/-! ### Edges handed to Power Control (R100, R190) -/

theorem Device.wakeUp_of_awake {cause : WakeCause} {d : Device} (h : d.pwc.power = .active ∨ d.pwc.power = .waking) : d.wakeUp cause = d := by
  rcases h with h | h <;> simp only [Device.wakeUp, h]

theorem Device.wakeUp_awakens (cause : WakeCause) (d : Device) :
    (d.wakeUp cause).pwc.power = .active ∨ (d.wakeUp cause).pwc.power = .waking := by
  cases h : d.pwc.power with
  | active => rw [Device.wakeUp_of_awake (.inl h)]; exact .inl h
  | waking => rw [Device.wakeUp_of_awake (.inr h)]; exact .inr h
  | standby => rw [Device.wakeUp_of_standby h]; exact .inr rfl
  | sleep => rw [Device.wakeUp_of_sleep h]; exact .inr rfl

/-- R100, R190: of the lines of a list the first that hands its change wakes the part. -/
theorem Device.foldl_handEdge (before after : Vector Bool 8) (ls : List (Fin 8)) (d : Device) :
    ls.foldl (Device.handEdge before after) d =
      match ls.find? (fun l => (d.line l).hands before[l] after[l]) with
      | some l => d.wakeUp (.line l)
      | none => d := by
  have still : ∀ (ls : List (Fin 8)) (e : Device), e.pwc.power = .active ∨ e.pwc.power = .waking →
      ls.foldl (Device.handEdge before after) e = e := by
    intro ls
    induction ls with
    | nil => intro e _; rfl
    | cons l ls ih =>
      intro e he
      have hl : e.handEdge before after l = e := by
        unfold Device.handEdge
        rw [Device.wakeUp_of_awake he, ite_self]
      rw [List.foldl_cons, hl]
      exact ih e he
  induction ls with
  | nil => rfl
  | cons l ls ih =>
    rw [List.foldl_cons, Device.handEdge]
    by_cases h : (d.line l).hands before[l] after[l] = true
    · rw [if_pos h, List.find?_cons_of_pos (p := fun l => (d.line l).hands before[l] after[l]) h]
      exact still ls _ (d.wakeUp_awakens _)
    · rw [if_neg h, List.find?_cons_of_neg (p := fun l => (d.line l).hands before[l] after[l]) h]
      exact ih

theorem Line.hands_congr {l m : Line} (hw : m.wake = l.wake) (he : m.edgeMode = l.edgeMode) (before after : Bool) :
    m.hands before after = l.hands before after := by
  simp only [Line.hands, hw, he]

theorem Line.noticed_wake (before after : Bool) (l : Line) : (l.noticed before after).wake = l.wake := by
  cases before <;> cases after <;> simp only [Line.noticed, edgeOf, Line.holdEdge] <;> split <;> rfl

theorem Line.noticed_edgeMode (before after : Bool) (l : Line) : (l.noticed before after).edgeMode = l.edgeMode := by
  cases before <;> cases after <;> simp only [Line.noticed, edgeOf, Line.holdEdge] <;> split <;> rfl

/-! ### SLEEP entry (R99, R175, R188) -/

/-- R99: a line at SLEEP entry: one that is not blocked takes on its sleep behaviour. -/
def Line.enterSleep (l : Line) : Line := if l.sleepMode = .release ∧ l.wake = false then l else l.noticed (l.sensed false) (l.sensed true)

/-- R100: whether a line hands the change of its level at SLEEP entry to Power Control. -/
def Line.handsAsleep (l : Line) : Prop :=
  ¬ (l.sleepMode = .release ∧ l.wake = false) ∧ l.hands (l.sensed false) (l.sensed true) = true

/-- R150, R188: the memory controller and Power Control at SLEEP entry, and the lines with their sleep behaviour. -/
def Device.fallenAsleep (d : Device) : Device :=
  ((d.setSmc { d.smc with debt := 0, timerOn := false }).setPwc
    { d.pwc with power := .sleep, quietLeft := d.pwc.quietTime }).setLines (d.lines.map Line.enterSleep)

/-- R99, R100, R188: SLEEP entry, and the waking by the first line that hands its change. -/
theorem Device.enterSleep_eq {d : Device} (h : d.pwc.power ≠ .sleep) :
    ((∀ l, ¬ (d.line l).handsAsleep) → d.enterSleep = d.fallenAsleep) ∧
    (∀ l, (d.line l).handsAsleep → (∀ k < l, ¬ (d.line k).handsAsleep) → d.enterSleep = d.fallenAsleep.wakeUp (.line l)) := by
  have ha : d.asleep = false := by simp [Device.asleep, h]
  let w := (d.setSmc { d.smc with debt := 0, timerOn := false }).setPwc { d.pwc with power := .sleep, quietLeft := d.pwc.quietTime }
  let before := w.unblocked d.levels w.levels
  have hw : ∀ l : Fin 8, w.levels[l] = (d.line l).sensed true := fun l => w.levels_get l
  have hu : ∀ l : Fin 8, before[l] = if (d.line l).blocked then (d.line l).sensed true else (d.line l).sensed false := by
    intro l
    have hb : before[l] = if (w.line l).blocked then w.levels[l] else d.levels[l] := by simp [before, Device.unblocked]
    rw [hb, hw, Device.levels_get, ha]
    rfl
  have hheld : w.holdEdges before w.levels = d.fallenAsleep := by
    rw [Device.holdEdges, Device.fallenAsleep]
    congr 1
    refine Vector.ext fun i hi => ?_
    rw [Vector.getElem_ofFn, Vector.getElem_map, hu, hw]
    show Line.noticed _ _ (d.line ⟨i, hi⟩) = (d.line ⟨i, hi⟩).enterSleep
    by_cases hb : (d.line ⟨i, hi⟩).blocked = true
    · rw [if_pos hb, Line.noticed_self, Line.enterSleep, if_pos ((Line.blocked_iff _).1 hb)]
    · rw [if_neg hb, Line.enterSleep, if_neg (mt (Line.blocked_iff _).2 hb)]
  have hhands : ∀ l : Fin 8, ((d.fallenAsleep.line l).hands before[l] w.levels[l] = true ↔ (d.line l).handsAsleep) := by
    intro l
    have hl : d.fallenAsleep.line l = (d.line l).enterSleep := by simp [Device.fallenAsleep, Device.line]
    have hkeeps : (d.line l).enterSleep.wake = (d.line l).wake ∧ (d.line l).enterSleep.edgeMode = (d.line l).edgeMode := by
      unfold Line.enterSleep
      split
      · exact ⟨rfl, rfl⟩
      · exact ⟨Line.noticed_wake .., Line.noticed_edgeMode ..⟩
    rw [hl, Line.hands_congr hkeeps.1 hkeeps.2, hu, hw, Line.handsAsleep]
    by_cases hb : (d.line l).blocked = true
    · rw [if_pos hb]
      have hsame : (d.line l).hands ((d.line l).sensed true) ((d.line l).sensed true) = false := by
        cases (d.line l).sensed true <;> rfl
      rw [hsame]
      exact ⟨nofun, fun hn => absurd ((Line.blocked_iff _).1 hb) hn.1⟩
    · rw [if_neg hb]
      exact ⟨fun h => ⟨mt (Line.blocked_iff _).2 hb, h⟩, fun h => h.2⟩
  have hstep : d.enterSleep = allLines.foldl (Device.handEdge before w.levels) d.fallenAsleep := by
    rw [← hheld]
    rfl
  rw [hstep, Device.foldl_handEdge]
  refine ⟨fun hn => ?_, fun l hl hk => ?_⟩
  · rw [List.find?_eq_none.2 fun l _ => mt (hhands l).1 (hn l)]
  · rw [find?_of_sorted allLines_sorted (mem_allLines l) ((hhands l).2 hl)
      (fun k hlt => Bool.eq_false_of_not_eq_true (mt (hhands k).1 (hk k hlt)))]

theorem Device.sleepNow_still {d : Device} (h : d.ctu ≠ .closed .sleep true ∨ d.pwc.power ≠ .active) : d.sleepNow = d := by
  unfold Device.sleepNow
  split
  · rename_i hc
    rw [if_neg (h.resolve_left fun hn => hn hc)]
  · rfl

theorem Device.sleepNow_enters {d : Device} (hc : d.ctu = .closed .sleep true) (hp : d.pwc.power = .active) : d.sleepNow = d.enterSleep := by
  simp only [Device.sleepNow, hc, hp, if_true]

theorem Device.resetNow_still {d : Device} (h : d.ctu ≠ .closed .reset true) : d.resetNow = d := by
  unfold Device.resetNow
  split
  · rename_i hc
    exact absurd hc h
  · rfl

/-! ### NOTICEs (R61, R179) -/

/-- R179: the source whose entry goes next. -/
theorem Ntu.nextSource_eq_some {n : Ntu} {i : Fin 43} {x : Entry} (hx : n.queue[i] = some x) (hl : x.level ≤ 3)
    (hbest : ∀ (j : Fin 43) (y : Entry), n.queue[j] = some y → y.level < x.level ∨ (y.level = x.level ∧ i ≤ j)) :
    n.nextSource = some i := by
  have hnone : ∀ level, x.level < level → n.atLevel level = none := by
    intro level hlt
    refine List.find?_eq_none.2 fun j _ => ?_
    split
    · rename_i y hy
      have := hbest j y hy
      simp only [decide_eq_true_eq]
      omega
    · simp
  have hfound : n.atLevel x.level = some i := by
    refine find?_of_sorted allSources_sorted (mem_allSources i) (by simp only [hx, decide_true]) fun j hj => ?_
    split
    · rename_i y hy
      have := hbest j y hy
      simp only [decide_eq_false_iff_not]
      omega
    · rfl
  have hcases : x.level = 3 ∨ x.level = 2 ∨ x.level = 1 ∨ x.level = 0 := by omega
  unfold Ntu.nextSource
  rcases hcases with h | h | h | h <;> rw [h] at hfound hnone <;> simp [List.findSome?, hfound, hnone]

theorem Ntu.nextSource_eq_none {n : Ntu} (h : ∀ i : Fin 43, n.queue[i] = none) : n.nextSource = none := by
  have hnone : ∀ level, n.atLevel level = none := by
    intro level
    refine List.find?_eq_none.2 fun j _ => ?_
    simp only [h j, Bool.false_eq_true, not_false_eq_true]
  simp only [Ntu.nextSource, List.findSome?, hnone]

/-- R61: the conceal-reported flag of a voice source's voice is cleared. -/
theorem Device.clearReported_eq (i : Fin 43) (d : Device) :
    d.clearReported i = d.setVoices (Vector.ofFn (fun v : Fin 32 =>
      if i.val = 11 + v.val then { d.voice v with concealReported := false } else d.voice v)) := by
  have hlt : i.val - 11 < 32 := by have := i.isLt; omega
  simp only [Device.clearReported, numberOf_of_lt hlt]
  split
  · rename_i hi
    refine congrArg d.setVoices (Vector.ext fun k hk => ?_)
    rw [Vector.getElem_ofFn, Vector.getElem_set]
    by_cases hkv : i.val - 11 = k
    · have hik : i.val = 11 + k := by omega
      have hv : (⟨i.val - 11, hlt⟩ : Fin 32) = ⟨k, hk⟩ := Fin.ext hkv
      rw [if_pos hkv, if_pos hik, hv]
    · have hik : ¬ i.val = 11 + k := by omega
      rw [if_neg hkv, if_neg hik]
      rfl
  · rename_i hi
    have hsame : Vector.ofFn (fun v : Fin 32 => if i.val = 11 + v.val then { d.voice v with concealReported := false } else d.voice v) =
        d.voices := by
      refine Vector.ext fun k hk => ?_
      have : ¬ i.val = 11 + k := by omega
      rw [Vector.getElem_ofFn, if_neg this]
      rfl
    rw [hsame]
    rfl

theorem Device.sendReply_still {d : Device} (h : d.bli.replyQ = [] ∨ d.maySend = false) : d.sendReply = d := by
  unfold Device.sendReply
  split
  · rfl
  · rename_i r rest hq
    rw [if_neg]
    simp [h.resolve_left (by simp [hq])]

end Sys2Proof.Machine

open Sys2Proof Sys2Proof.Machine

/-- Settles O26: when the transmitter runs, what a REPLY leaves, and the moves that a closing reply announced. -/
theorem repliesAreSent : Obligations.RepliesAreSent := by
  intro s d runs
  have hruns : d.maySend = true ↔ runs := d.maySend_iff
  have hstill : ∀ {f : Device → Device}, f d = d → onDevice f s = .next s := fun h => onDevice_eq h
  refine ⟨fun h => onDevice_eq (if_pos (hruns.2 h)), fun h => hstill (if_neg (mt hruns.1 h)), fun h => ?_, fun r rest hq h => ?_, fun h => ?_,
    fun hc hp hl => ?_, fun hc hp => ?_, fun h => hstill (Device.resetNow_still h), fun h => onDevice_eq ?_⟩
  · exact hstill (Device.sendReply_still (h.imp id fun hn => Bool.eq_false_of_not_eq_true (mt hruns.1 hn)))
  · refine ⟨_, rfl, onDevice_eq ?_, Device.runCtu_idle⟩
    show d.sendReply = _
    simp only [Device.sendReply, hq, hruns.2 h, if_true, closingReply_eq]
    rfl
  · exact hstill (Device.sleepNow_still h)
  · have hids : d.lines.map Line.enterSleep = d.lines := by
      refine Vector.ext fun i hi => ?_
      rw [Vector.getElem_map, Line.enterSleep]
      split
      · rfl
      · rename_i hb
        have hsame := (hl ⟨i, hi⟩).resolve_left hb
        show Line.noticed (d.lines[i].sensed false) (d.lines[i].sensed true) d.lines[i] = _
        rw [show d.lines[i].sensed true = d.lines[i].sensed false from hsame, Line.noticed_self]
    have hno : ∀ l, ¬ (d.line l).handsAsleep := by
      rintro l ⟨hb, hh⟩
      rw [(hl l).resolve_left hb] at hh
      revert hh
      cases (d.line l).sensed false <;> simp [Line.hands, edgeOf]
    refine onDevice_eq ((Device.sleepNow_enters hc hp).trans (((Device.enterSleep_eq (by rw [hp]; nofun)).1 hno).trans ?_))
    rw [Device.fallenAsleep, hids]
    rfl
  · intro blocked falls hands asleep
    have hen := Device.enterSleep_eq (d := d) (by rw [hp]; nofun)
    refine ⟨fun hn => onDevice_eq ((Device.sleepNow_enters hc hp).trans (hen.1 hn)), fun l hl hk => onDevice_eq ?_⟩
    exact ((Device.sleepNow_enters hc hp).trans (hen.2 l hl hk)).trans (Device.wakeUp_of_sleep rfl)
  · show d.resetNow = _
    simp only [Device.resetNow, h]

/-- Settles O27: the entry of the highest level and the lowest source, and the report when there is none. -/
theorem noticesAndReportsAreSent : Obligations.NoticesAndReportsAreSent := by
  intro s d runs sent
  have hruns : d.maySend = true ↔ runs := d.maySend_iff
  have hstill : ∀ {f : Device → Device}, f d = d → onDevice f s = .next s := fun h => onDevice_eq h
  refine ⟨fun h => ?_, fun h => hstill ?_, fun i x hr hq hx hl hbest => ?_, fun hr hq h => ?_⟩
  · have hno : (d.maySend && d.bli.replyQ.isEmpty) = false := by
      rcases h with h | h
      · rw [Bool.eq_false_of_not_eq_true (mt hruns.1 h), Bool.false_and]
      · rw [List.isEmpty_eq_false_iff.2 h, Bool.and_false]
    exact ⟨hstill (by simp [Device.sendNotice, hno]), hstill (by simp [Device.sendReport, hno])⟩
  · simp only [Device.sendNotice, Ntu.nextSource_eq_none h, ite_self]
  · have hsend : (d.maySend && d.bli.replyQ.isEmpty) = true := by rw [hruns.2 hr, hq]; rfl
    have hnext := Ntu.nextSource_eq_some hx hl hbest
    refine ⟨hstill (by simp [Device.sendReport, hnext]), onDevice_eq ?_⟩
    show d.sendNotice = _
    simp only [Device.sendNotice, hsend, hnext, hx, if_true, Device.sendEntry, Device.clearReported_eq]
    rfl
  · have hsend : (d.maySend && d.bli.replyQ.isEmpty && d.ntu.nextSource.isNone) = true := by
      rw [hruns.2 hr, hq, Ntu.nextSource_eq_none h]
      rfl
    refine onDevice_eq ?_
    show d.sendReport = _
    simp only [Device.sendReport, hsend, if_true]
    cases hrep : d.ntu.report <;> rfl
end

section
/-! PROOFS. Levels that the bench drives (O34). -/

namespace Sys2Proof.Machine

/-! ### Edges of a line (R4, R97) -/

theorem edgeOf_self (b : Bool) : edgeOf b b = none := by cases b <;> rfl

theorem edgeOf_eq (before after : Bool) :
    edgeOf before after = if before = after then none else if after = true then some .rise else some .fall := by
  cases before <;> cases after <;> rfl

theorem Edge.fits_iff (e : Edge) (m : EdgeMode) : e.fits m = true ↔ m = .both ∨ (m = .rise ∧ e = .rise) ∨ (m = .fall ∧ e = .fall) := by
  cases m <;> cases e <;> simp [Edge.fits]

/-- R97, R99: a line with another level driven by the bench. -/
def Line.driven (level : Bool) (l : Line) : Line := { l with bench := level }

theorem Line.hands_iff (before after : Bool) (l : Line) :
    l.hands before after = true ↔ l.wake = true ∧ ∃ e, edgeOf before after = some e ∧
      (l.edgeMode = .both ∨ (l.edgeMode = .rise ∧ e = .rise) ∨ (l.edgeMode = .fall ∧ e = .fall)) := by
  unfold Line.hands
  cases h : edgeOf before after with
  | none => simp
  | some e => simp [Edge.fits_iff]

/-- R4, R97, R100, R190: the bench drives a level on line l of a part whose RSTN is released. -/
theorem Device.changeLines_driven (l : Fin 8) (level : Bool) (d : Device) :
    let x := d.line l
    let y := x.driven level
    let before := x.sensed d.asleep
    let after := y.sensed d.asleep
    let e := d.setLine l (y.noticed before after)
    d.changeLines (fun d => d.setLine l ((d.line l).driven level)) = if y.hands before after then e.wakeUp (.line l) else e := by
  intro x y before after e
  let w := d.setLine l y
  have hown : d.levels[l] = before ∧ w.levels[l] = after := by
    refine ⟨d.levels_get l, (w.levels_get l).trans ?_⟩
    have hl : w.line l = y := by simp [w]
    rw [hl]
    rfl
  have hother : ∀ k, k ≠ l → w.line k = d.line k ∧ w.levels[k] = d.levels[k] := by
    intro k hk
    have hl : w.line k = d.line k := by simp [w, Device.line_setLine_ne, hk]
    refine ⟨hl, ?_⟩
    rw [Device.levels_get, Device.levels_get, hl]
    rfl
  have hheld : w.holdEdges d.levels w.levels = e := by
    refine congrArg d.setLines (Vector.ext fun i hi => ?_)
    rw [Vector.getElem_ofFn, Vector.getElem_set]
    by_cases hil : l.val = i
    · have hi' : (⟨i, hi⟩ : Fin 8) = l := Fin.ext hil.symm
      rw [if_pos hil, hi', hown.1, hown.2]
      have hl : w.line l = y := by simp [w]
      rw [hl]
    · obtain ⟨h₁, h₂⟩ := hother ⟨i, hi⟩ (fun h => hil (congrArg Fin.val h).symm)
      rw [if_neg hil, h₁, h₂, Line.noticed_self]
      rfl
  have hkeeps : (e.line l).hands before after = y.hands before after := by
    have hl : e.line l = y.noticed before after := by simp [e]
    rw [hl]
    exact Line.hands_congr (Line.noticed_wake ..) (Line.noticed_edgeMode ..) _ _
  have hno : ∀ k, k ≠ l → (e.line k).hands d.levels[k] w.levels[k] = false := by
    intro k hk
    rw [(hother k hk).2, Line.hands, edgeOf_self]
  have hstep : d.changeLines (fun d => d.setLine l ((d.line l).driven level)) = allLines.foldl (Device.handEdge d.levels w.levels) e := by
    rw [← hheld]
    rfl
  rw [hstep, Device.foldl_handEdge]
  by_cases hh : y.hands before after = true
  · have hp : (e.line l).hands d.levels[l] w.levels[l] = true := by rw [hown.1, hown.2, hkeeps]; exact hh
    rw [if_pos hh, find?_of_sorted allLines_sorted (mem_allLines l) hp fun j hj => hno j (Fin.ne_of_lt hj)]
  · have hnone : allLines.find? (fun k => (e.line k).hands d.levels[k] w.levels[k]) = none := by
      refine List.find?_eq_none.2 fun k _ => ?_
      by_cases hk : k = l
      · rw [hk, hown.1, hown.2, hkeeps]
        exact hh
      · rw [hno k hk]
        nofun
    rw [if_neg hh, hnone]

end Sys2Proof.Machine

open Sys2Proof Sys2Proof.Machine

/-- Settles O34: the one line whose level changes, and what the change does to the part by its power state. -/
theorem benchEdgesAreHeld : Obligations.BenchEdgesAreHeld := by
  refine ⟨fun s l level => ?drives, fun l => ?senses⟩
  case drives =>
    intro x asleep y before after edge held d hands left
    have hedge : edge = edgeOf before after := (edgeOf_eq before after).symm
    have hheld : held = (x.driven level).noticed before after := by
      show (match edge with
        | none => y
        | some e => if e ∈ x.edges then y else { y with edges := x.edges ++ [e] }) = _
      rw [hedge, Line.noticed]
      cases edgeOf before after with
      | none => rfl
      | some e => simp only [Line.holdEdge, List.contains_iff_mem]; rfl
    have hhands : (x.driven level).hands before after = true ↔ hands := by
      rw [Line.hands_iff, ← hedge]
      rfl
    have hstep : s.dev.pwc.rstn = false →
        s.dev.benchDrives l level = if (x.driven level).hands before after then d.wakeUp (.line l) else d := by
      intro hr
      have h := s.dev.changeLines_driven l level
      simp only [Device.benchDrives, hr, Bool.false_eq_true, if_false]
      have hd : d = s.dev.setLine l ((x.driven level).noticed before after) := congrArg (s.dev.setLine l) hheld
      rw [hd]
      exact h
    refine ⟨fun hr => onDevice_eq ?_, fun hr hp => onDevice_eq ?_, fun hr hp hh => onDevice_eq ?_, fun hr hp hh => onDevice_eq ?_⟩
    · simp only [Device.benchDrives, hr, if_true]
      rfl
    · rw [hstep hr]
      split
      · rename_i hh
        refine Device.wakeUp_of_awake ?_
        rcases hp with hp | hp | hp
        · exact .inl hp
        · exact .inr hp
        · exact absurd (hhands.1 hh) hp
      · rfl
    · rw [hstep hr, if_pos (hhands.2 hh)]
      exact Device.wakeUp_of_standby hp
    · rw [hstep hr, if_pos (hhands.2 hh)]
      exact Device.wakeUp_of_sleep hp
  case senses =>
    refine ⟨fun h => ?_, fun h => ?_, fun h => ?_, fun h hw => ?_, fun h hw => ?_, fun level => l.noticed_self level, ?_, ?_⟩
    · simp [Line.sensed, h]
    · simp [Line.sensed, h]
    · simp [Line.sensed, h]
    · simp [Line.sensed, h, hw]
    · simp [Line.sensed, h, hw]
    · simp only [Line.noticed, edgeOf, Line.holdEdge, List.contains_iff_mem]
    · simp only [Line.noticed, edgeOf, Line.holdEdge, List.contains_iff_mem]
end

section
/-! PROOFS. Ramps (O40). -/

namespace Sys2Proof.Machine

/-! ### Ramps (R82, R83) -/

/-- R83: the code q steps from a toward a target. -/
def stepsToward (a target q : Nat) : Nat := if a < target then a + q else a - q

/-- R83: a voice whose ramp has made q steps and counted c samples of the next one. -/
def Voice.ramping (v : Voice) (g n q c : Nat) : Voice := { v with atten := stepsToward v.atten g q, ramp := some ⟨g, n, c⟩ }

theorem Voice.countRamp_within (v : Voice) (g : Nat) {n c : Nat} (q : Nat) (h : c + 1 < n) :
    (v.ramping g n q c).countRamp = v.ramping g n q (c + 1) := by
  show (if c + 1 < n then _ else _) = _
  rw [if_pos h]
  rfl

theorem stepToward_stepsToward {a g q : Nat} (h : q < max a g - min a g) : stepToward (stepsToward a g q) g = stepsToward a g (q + 1) := by
  unfold stepToward stepsToward
  by_cases hlt : a < g
  · rw [if_pos hlt, if_pos hlt, if_pos (by omega)]
    omega
  · rw [if_neg hlt, if_neg hlt, if_neg (by omega)]
    omega

theorem stepsToward_eq_target {a g q : Nat} (h : q ≤ max a g - min a g) : stepsToward a g q = g ↔ q = max a g - min a g := by
  unfold stepsToward
  split <;> omega

/-- R83: the sample at which the step counter reaches the interval takes a step, and the last step ends the ramp. -/
theorem Voice.countRamp_at_step (v : Voice) {g n q c : Nat} (h : n = c + 1) (hq : q < max v.atten g - min v.atten g) :
    (v.ramping g n q c).countRamp =
      if q + 1 = max v.atten g - min v.atten g then { v with atten := g, ramp := none } else v.ramping g n (q + 1) 0 := by
  have hstep := stepToward_stepsToward hq
  have hend := stepsToward_eq_target (a := v.atten) (g := g) (q := q + 1) (by omega)
  show (if c + 1 < n then _ else
    ({ v.ramping g n q c with
      atten := stepToward (stepsToward v.atten g q) g
      ramp := if stepToward (stepsToward v.atten g q) g = g then none else some ⟨g, n, 0⟩ } : Voice)) = _
  rw [if_neg (by omega), hstep]
  by_cases hlast : q + 1 = max v.atten g - min v.atten g
  · rw [if_pos (hend.2 hlast), if_pos hlast, hend.2 hlast]
    rfl
  · rw [if_neg (mt hend.1 hlast), if_neg hlast]
    rfl

/-- R83: where a ramp stands after q steps and c samples more. -/
theorem Voice.iterate_countRamp (v : Voice) {g n : Nat} (q c : Nat) (hq : q < max v.atten g - min v.atten g) (hc : c < n) :
    Voice.countRamp^[q * n + c] (v.ramping g n 0 0) = v.ramping g n q c := by
  induction q generalizing c with
  | zero =>
    induction c with
    | zero => rw [Nat.zero_mul]; rfl
    | succ c ih =>
      rw [Nat.zero_mul, Nat.zero_add] at ih ⊢
      rw [Function.iterate_succ_apply', ih (by omega), Voice.countRamp_within v g 0 hc]
  | succ q ihq =>
    induction c with
    | zero =>
      have hk : (q + 1) * n + 0 = (q * n + (n - 1)) + 1 := by rw [Nat.succ_mul]; omega
      rw [hk, Function.iterate_succ_apply', ihq (n - 1) (by omega) (by omega), Voice.countRamp_at_step v (by omega) (by omega),
        if_neg (by omega)]
    | succ c ih =>
      rw [← Nat.add_assoc, Function.iterate_succ_apply', ih (by omega), Voice.countRamp_within v g _ hc]

theorem Voice.beginRamp_running {v : Voice} {g n : Nat} (hn : n ≠ 0) (hg : v.atten ≠ g) : v.beginRamp g n = v.ramping g n 0 0 := by
  have h0 : stepsToward v.atten g 0 = v.atten := by unfold stepsToward; split <;> omega
  rw [Voice.beginRamp, if_neg hn, if_neg hg, Voice.ramping, h0]

end Sys2Proof.Machine

open Sys2Proof Sys2Proof.Machine

/-- Settles O40: by the number of steps and the samples counted of the next one. -/
theorem rampsReachTargets : Obligations.RampsReachTargets := by
  intro v g n samples hr
  have hnone : ∀ a, ({ v with atten := a, ramp := none } : Voice) = { v with atten := a } := by
    intro a
    rw [← hr]
  by_cases hn : n = 0
  · have hs : samples = 0 := by rw [show samples = _ * n from rfl, hn, Nat.mul_zero]
    rw [hs]
    refine ⟨?_, nofun⟩
    rw [Function.iterate_zero_apply, Voice.beginRamp, if_pos hn, hnone]
  by_cases hg : v.atten = g
  · have hs : samples = 0 := by
      show (max v.atten g - min v.atten g) * n = 0
      rw [hg, max_self, min_self, Nat.sub_self, Nat.zero_mul]
    rw [hs]
    refine ⟨?_, nofun⟩
    rw [Function.iterate_zero_apply, Voice.beginRamp, if_neg hn, if_pos hg, ← hg]
    exact hnone v.atten
  rw [Voice.beginRamp_running hn hg]
  obtain ⟨steps, hsteps⟩ : ∃ m, max v.atten g - min v.atten g = m + 1 := ⟨max v.atten g - min v.atten g - 1, by omega⟩
  refine ⟨?_, fun k hk => ?_⟩
  · have hs : samples = (steps * n + (n - 1)) + 1 := by
      show (max v.atten g - min v.atten g) * n = _
      rw [hsteps, Nat.succ_mul]
      omega
    rw [hs, Function.iterate_succ_apply', Voice.iterate_countRamp v steps (n - 1) (by omega) (by omega),
      Voice.countRamp_at_step v (by omega) (by omega), if_pos (by omega), hnone]
  · have hq : k / n < max v.atten g - min v.atten g := Nat.div_lt_of_lt_mul (by rw [Nat.mul_comm]; exact hk)
    have hstate := Voice.iterate_countRamp v (g := g) (k / n) (k % n) hq (Nat.mod_lt _ (by omega))
    rw [Nat.mul_comm, Nat.div_add_mod] at hstate
    rw [hstate]
    refine ⟨⟨_, rfl, rfl⟩, ?_⟩
    show min v.atten g ≤ stepsToward v.atten g (k / n) ∧ stepsToward v.atten g (k / n) ≤ max v.atten g ∧
      max v.atten (stepsToward v.atten g (k / n)) - min v.atten (stepsToward v.atten g (k / n)) = k / n
    generalize k / n = q at hq
    unfold stepsToward
    split <;> omega
end

section
/-! PROOFS. What a scene tick does: its opening, the voices, the ports; ticks that are not RUNNING (O29, O30). -/

namespace Sys2Proof.Machine

/-! ### Events in order (R178) -/

/-- R178: events posted one after another at a bench time. -/
def Ntu.postAll (time : Nat) (es : List Event) (n : Ntu) : Ntu := es.foldl (fun n ev => n.post time ev) n

@[simp] theorem Ntu.postAll_nil (time : Nat) (n : Ntu) : n.postAll time [] = n := rfl

theorem Ntu.postAll_append (time : Nat) (es fs : List Event) (n : Ntu) : n.postAll time (es ++ fs) = (n.postAll time es).postAll time fs :=
  List.foldl_append

theorem Device.postAll_eq (es : List Event) (d : Device) : d.postAll es = d.setNtu (d.ntu.postAll d.stu.time es) := by
  induction es generalizing d with
  | nil => rfl
  | cons e es ih => exact ih (d.post e)

/-! ### A vector changed index by index -/

/-- A vector whose entries at the indices of a list are a function's. -/
def Vector.patched {α : Type} {n : Nat} (x : Vector α n) (is : List (Fin n)) (f : Fin n → α) : Vector α n :=
  Vector.ofFn (fun i => if i ∈ is then f i else x[i])

theorem Vector.patched_nil {α : Type} {n : Nat} (x : Vector α n) (f : Fin n → α) : Vector.patched x [] f = x :=
  Vector.ext fun i hi => by simp [Vector.patched]

theorem Vector.patched_set {α : Type} {n : Nat} (x : Vector α n) (i : Fin n) (is : List (Fin n)) (f : Fin n → α) :
    Vector.patched (x.set i (f i)) is f = Vector.patched x (i :: is) f := by
  refine congrArg Vector.ofFn (funext fun u => ?_)
  by_cases hu : u ∈ is
  · rw [if_pos hu, if_pos (List.mem_cons_of_mem _ hu)]
  · by_cases hui : u = i
    · subst hui
      simp [hu]
    · have hne : i.val ≠ u.val := fun h => hui (Fin.ext h.symm)
      rw [if_neg hu, if_neg (by simp [hui, hu])]
      exact Vector.getElem_set_ne _ _ hne

theorem Vector.patched_all {α : Type} {n : Nat} (x : Vector α n) {is : List (Fin n)} (f : Fin n → α) (h : ∀ i, i ∈ is) :
    Vector.patched x is f = Vector.ofFn f := congrArg Vector.ofFn (funext fun i => if_pos (h i))

/-! ### The voices (R16, R73) -/

/-- R73: voice v's turn at a tick. -/
def Device.turn (kind : SceneState) (fired : List (Fin 8)) (d : Device) (v : Fin 32) : Played := (d.voice v).tick (d.ctx v) kind fired

theorem Device.noteStarted_eq (started : Bool) (d : Device) :
    d.noteStarted started = d.setStu { d.stu with cueStarted := d.stu.cueStarted || started } := by
  cases started
  · simp only [Bool.or_false]
    rfl
  · simp only [Bool.or_true]
    rfl

/-- The device between the turns of the voices at a tick. -/
def Device.playing (d : Device) (x : Vector Voice 32) (started : Bool) (n : Ntu) : Device :=
  ((d.setVoices x).setStu { d.stu with cueStarted := started }).setNtu n

theorem Handing.voice_playing (kind : SceneState) (fired : List (Fin 8)) (d : Device) (v : Fin 32) {x : Vector Voice 32} (b : Bool) (n : Ntu)
    (ps : List (Fin 4 × IQ)) (hx : x[v] = d.voice v) :
    Handing.voice kind fired ⟨d.playing x b n, ps⟩ v =
      ⟨d.playing (x.set v (d.turn kind fired v).voice) (b || (d.turn kind fired v).started)
          (n.postAll d.stu.time (d.turn kind fired v).events),
        ps ++ [((d.voice v).port, (d.turn kind fired v).out)]⟩ := by
  have hv : (d.playing x b n).voice v = d.voice v := hx
  have hctx : (d.playing x b n).ctx v = d.ctx v := rfl
  unfold Handing.voice
  simp only [hv, hctx, Device.noteStarted_eq, Device.postAll_eq]
  rfl

/-- R16, R73: the voices' turns, in voice order. -/
theorem Device.playVoices_eq (kind : SceneState) (fired : List (Fin 8)) (d : Device) :
    d.playVoices kind fired =
      ⟨d.playing (Vector.ofFn (fun v => (d.turn kind fired v).voice))
          (d.stu.cueStarted || allVoices.any (fun v => (d.turn kind fired v).started))
          (d.ntu.postAll d.stu.time (allVoices.flatMap (fun v => (d.turn kind fired v).events))),
        allVoices.map (fun v => ((d.voice v).port, (d.turn kind fired v).out))⟩ := by
  have key : ∀ (vs : List (Fin 32)), vs.Nodup → ∀ (x : Vector Voice 32) (b : Bool) (n : Ntu) (ps : List (Fin 4 × IQ)),
      (∀ v ∈ vs, x[v] = d.voice v) →
      vs.foldl (Handing.voice kind fired) ⟨d.playing x b n, ps⟩ =
        ⟨d.playing (Vector.patched x vs (fun v => (d.turn kind fired v).voice))
            (b || vs.any (fun v => (d.turn kind fired v).started)) (n.postAll d.stu.time (vs.flatMap (fun v => (d.turn kind fired v).events))),
          ps ++ vs.map (fun v => ((d.voice v).port, (d.turn kind fired v).out))⟩ := by
    intro vs
    induction vs with
    | nil =>
      intro _ x b n ps _
      simp only [Vector.patched_nil, List.foldl_nil, List.any_nil, Bool.or_false, List.flatMap_nil, Ntu.postAll_nil, List.map_nil,
        List.append_nil]
    | cons v vs ih =>
      intro hnd x b n ps hx
      obtain ⟨hv, hvs⟩ := List.nodup_cons.1 hnd
      rw [List.foldl_cons, Handing.voice_playing kind fired d v b n ps (hx v (List.mem_cons_self ..)), ih hvs]
      · rw [Vector.patched_set x v vs (fun v => (d.turn kind fired v).voice), List.any_cons, Bool.or_assoc, List.flatMap_cons,
          Ntu.postAll_append, List.map_cons, List.append_assoc]
        rfl
      · intro u hu
        have hne : v.val ≠ u.val := fun h => hv (Fin.ext h ▸ hu)
        exact (Vector.getElem_set_ne _ _ hne).trans (hx u (List.mem_cons_of_mem _ hu))
  have h := key allVoices (by decide) d.voices d.stu.cueStarted d.ntu [] (fun v _ => rfl)
  rw [Vector.patched_all _ _ mem_allVoices] at h
  exact h

/-! ### The ports (R88 to R90, R93) -/

/-- R89, R93, R94: a port after its delivery at a tick. -/
def Port.delivered (kind : SceneState) (sum : IQ) (p : Port) : Port := p.deliver (p.condition true kind) (p.mix sum)

/-- R90: the CLIP event of port i's delivery at a tick. -/
def Port.clips (kind : SceneState) (i : Fin 4) (time : Nat) (sum : IQ) (p : Port) : List Event :=
  clipEvents i time (p.condition true kind) (p.mix sum) (p.delivered kind sum)

theorem Device.portTick_eq (kind : SceneState) (pairs : List (Fin 4 × IQ)) (d : Device) (i : Fin 4) :
    d.portTick kind pairs i =
      (d.setPort i ((d.port i).delivered kind (portSum i pairs))).setNtu
        (d.ntu.postAll d.stu.time ((d.port i).clips kind i d.stu.time (portSum i pairs))) :=
  Device.postAll_eq _ _

/-- R88, R93: the ports' deliveries, in port order. -/
theorem Handing.deliver_eq (kind : SceneState) (h : Handing) :
    h.deliver kind =
      (h.dev.setPorts (Vector.ofFn (fun i => (h.dev.port i).delivered kind (portSum i h.pairs)))).setNtu
        (h.dev.ntu.postAll h.dev.stu.time
          (allPorts.flatMap (fun i => (h.dev.port i).clips kind i h.dev.stu.time (portSum i h.pairs)))) := by
  obtain ⟨d, pairs⟩ := h
  have key : ∀ (is : List (Fin 4)), is.Nodup → ∀ (x : Vector Port 4) (n : Ntu), (∀ i ∈ is, x[i] = d.port i) →
      is.foldl (Device.portTick kind pairs) ((d.setPorts x).setNtu n) =
        (d.setPorts (Vector.patched x is (fun i => (d.port i).delivered kind (portSum i pairs)))).setNtu
          (n.postAll d.stu.time (is.flatMap (fun i => (d.port i).clips kind i d.stu.time (portSum i pairs)))) := by
    intro is
    induction is with
    | nil =>
      intro _ x n _
      simp only [Vector.patched_nil, List.foldl_nil, List.flatMap_nil, Ntu.postAll_nil]
    | cons i is ih =>
      intro hnd x n hx
      obtain ⟨hi, his⟩ := List.nodup_cons.1 hnd
      have hp : ((d.setPorts x).setNtu n).port i = d.port i := hx i (List.mem_cons_self ..)
      have hstep : ((d.setPorts x).setNtu n).portTick kind pairs i =
          (d.setPorts (x.set i ((d.port i).delivered kind (portSum i pairs)))).setNtu
            (n.postAll d.stu.time ((d.port i).clips kind i d.stu.time (portSum i pairs))) := by
        rw [Device.portTick_eq, hp]
        rfl
      rw [List.foldl_cons, hstep, ih his]
      · rw [Vector.patched_set x i is (fun i => (d.port i).delivered kind (portSum i pairs)), List.flatMap_cons, Ntu.postAll_append]
      · intro u hu
        have hne : i.val ≠ u.val := fun h => hi (Fin.ext h ▸ hu)
        exact (Vector.getElem_set_ne _ _ hne).trans (hx u (List.mem_cons_of_mem _ hu))
  have h := key allPorts (by decide) d.ports d.ntu (fun i _ => rfl)
  rw [Vector.patched_all _ _ mem_allPorts] at h
  exact h

/-! ### Ticks that are not RUNNING (R3, R29, R94) -/

/-- R93, R94: a port at a tick that is not RUNNING. -/
def Port.still (kind : SceneState) (p : Port) : Port :=
  if p.enable = true ∧ kind = .paused ∧ p.pause = .hold then p else { p with last := ⟨0, 0⟩ }

theorem Port.condition_still {kind : SceneState} (h : kind ≠ .running) (p : Port) :
    p.condition true kind ≠ .mix ∧ (p.condition true kind = .pauseHold ↔ p.enable = true ∧ kind = .paused ∧ p.pause = .hold) := by
  unfold Port.condition
  cases p.enable with
  | false => simp
  | true =>
    cases kind with
    | running => exact absurd rfl h
    | stopped => simp
    | armed => simp
    | paused => cases p.pause <;> simp

theorem Port.delivered_still {kind : SceneState} (h : kind ≠ .running) (sum : IQ) (p : Port) : p.delivered kind sum = p.still kind := by
  obtain ⟨hmix, hhold⟩ := p.condition_still h
  unfold Port.still Port.delivered Port.deliver
  by_cases hh : p.condition true kind = .pauseHold
  · rw [if_pos (hhold.1 hh), hh]
  · rw [if_neg (mt hhold.2 hh)]
    split
    · rename_i hc
      exact absurd hc hmix
    · rename_i hc
      exact absurd hc hh
    · rfl

theorem Port.clips_still {kind : SceneState} (h : kind ≠ .running) (i : Fin 4) (time : Nat) (sum : IQ) (p : Port) :
    p.clips kind i time sum = [] := by
  unfold Port.clips clipEvents
  split
  · rename_i hc
    exact absurd hc (p.condition_still h).1
  · rfl

theorem Device.turn_still {kind : SceneState} (h : kind ≠ .running) (fired : List (Fin 8)) (d : Device) (v : Fin 32) :
    d.turn kind fired v = ⟨d.voice v, (d.voice v).heldOut, [], false⟩ := by
  cases kind with
  | running => exact absurd rfl h
  | stopped => rfl
  | armed => rfl
  | paused => rfl

/-- R3, R29, R93, R94: a tick that is not RUNNING changes the ports alone. -/
theorem Device.stillTick_eq {kind : SceneState} (h : kind ≠ .running) (d : Device) :
    d.stillTick kind = d.setPorts (d.ports.map (Port.still kind)) := by
  have hvoices : (Vector.ofFn (fun v => (d.turn kind [] v).voice)) = d.voices := by
    refine Vector.ext fun i hi => ?_
    rw [Vector.getElem_ofFn, Device.turn_still h]
    rfl
  have hstarted : allVoices.any (fun v => (d.turn kind [] v).started) = false := by
    refine List.any_eq_false.2 fun v _ => ?_
    rw [Device.turn_still h]
    nofun
  have hevents : allVoices.flatMap (fun v => (d.turn kind [] v).events) = [] := by
    refine List.flatMap_eq_nil_iff.2 fun v _ => ?_
    rw [Device.turn_still h]
  have hplay : (d.playVoices kind []).dev = d := by
    rw [Device.playVoices_eq, hvoices, hstarted, hevents, Bool.or_false]
    rfl
  have hclips : ∀ pairs, allPorts.flatMap (fun i => (d.port i).clips kind i d.stu.time (portSum i pairs)) = [] := fun pairs =>
    List.flatMap_eq_nil_iff.2 fun i _ => Port.clips_still h _ _ _ _
  have hports : ∀ pairs, Vector.ofFn (fun i => (d.port i).delivered kind (portSum i pairs)) = d.ports.map (Port.still kind) := by
    intro pairs
    refine Vector.ext fun i hi => ?_
    rw [Vector.getElem_ofFn, Vector.getElem_map, Port.delivered_still h]
    rfl
  rw [Device.stillTick, Handing.deliver_eq, hplay, hclips, hports, Ntu.postAll_nil]
  rfl

/-! ### The opening of a tick (R4, R7, R8, R102) -/

/-- R102: the records of the edges that a tick of a kind takes. -/
def Device.records (kind : SceneState) (d : Device) (taken : List Taken) : List Capture :=
  (taken.filter (fun t => (d.line t.1).capture)).map (fun t => ⟨t.1, t.2, d.stu.time, kind⟩)

/-- R103: the event of the first record of an empty capture list. -/
def captureEvents : List Capture → List Capture → List Event
  | [], c :: _ => [evCapturePending c]
  | _, _ => []

/-- R102: what a tick's records make of the capture list and the Notice Unit. -/
def Device.captured (d : Device) (rs : List Capture) : Device :=
  (d.setStu { d.stu with
    captures := d.stu.captures ++ rs.take (32 - d.stu.captures.length)
    overrun := d.stu.overrun || decide (32 - d.stu.captures.length < rs.length) }).setNtu
      (d.ntu.postAll d.stu.time (captureEvents d.stu.captures rs))

theorem captureEvents_nil (cs : List Capture) : captureEvents cs [] = [] := by cases cs <;> rfl

theorem captureEvents_of_ne {cs : List Capture} (h : cs ≠ []) (rs : List Capture) : captureEvents cs rs = [] := by
  cases cs with
  | nil => exact absurd rfl h
  | cons c cs => rfl

theorem Device.captured_nil (d : Device) : d.captured [] = d := by
  have hover : decide (32 - d.stu.captures.length < 0) = false := by simp
  simp only [Device.captured, List.take_nil, List.append_nil, List.length_nil, hover, Bool.or_false, captureEvents_nil, Ntu.postAll_nil]
  rfl

theorem Device.appendCapture_room {d : Device} (h : d.stu.captures.length < 32) (c : Capture) :
    d.appendCapture c =
      (d.setStu { d.stu with captures := d.stu.captures ++ [c] }).setNtu (d.ntu.postAll d.stu.time (captureEvents d.stu.captures [c])) := by
  have happ : d.appendCapture c =
      if d.stu.captures.isEmpty then (d.setStu { d.stu with captures := d.stu.captures ++ [c] }).post (evCapturePending c)
      else d.setStu { d.stu with captures := d.stu.captures ++ [c] } := if_pos h
  rw [happ]
  cases d.stu.captures with
  | nil => rfl
  | cons x xs => rfl

theorem Device.appendCapture_full {d : Device} (h : ¬ d.stu.captures.length < 32) (c : Capture) :
    d.appendCapture c = d.setStu { d.stu with overrun := true } := if_neg h

/-- R102: a record leaves what later records are made of. -/
theorem Device.records_appendCapture (kind : SceneState) (taken : List Taken) (c : Capture) (d : Device) :
    (d.appendCapture c).records kind taken = d.records kind taken := by
  by_cases hfull : d.stu.captures.length < 32
  · rw [Device.appendCapture_room hfull]
    rfl
  · rw [Device.appendCapture_full hfull]
    rfl

/-- R102, R103: one record and then the others. -/
theorem Device.captured_cons (d : Device) (c : Capture) (rs : List Capture) : (d.appendCapture c).captured rs = d.captured (c :: rs) := by
  by_cases hfull : d.stu.captures.length < 32
  · obtain ⟨k, hk⟩ : ∃ k, 32 - d.stu.captures.length = k + 1 := ⟨31 - d.stu.captures.length, by omega⟩
    have hk' : 32 - (d.stu.captures ++ [c]).length = k := by simp; omega
    have happ : (d.stu.captures ++ [c]) ++ rs.take k = d.stu.captures ++ (c :: rs).take (k + 1) := by simp
    have hover : decide (k < rs.length) = decide (k + 1 < (c :: rs).length) := by simp
    have hev : (d.ntu.postAll d.stu.time (captureEvents d.stu.captures [c])).postAll d.stu.time
        (captureEvents (d.stu.captures ++ [c]) rs) = d.ntu.postAll d.stu.time (captureEvents d.stu.captures (c :: rs)) := by
      rw [captureEvents_of_ne (by simp) rs]
      cases d.stu.captures <;> rfl
    have hright : d.captured (c :: rs) = (d.setStu { d.stu with
        captures := (d.stu.captures ++ [c]) ++ rs.take k
        overrun := d.stu.overrun || decide (k < rs.length) }).setNtu
          ((d.ntu.postAll d.stu.time (captureEvents d.stu.captures [c])).postAll d.stu.time
            (captureEvents (d.stu.captures ++ [c]) rs)) := by
      rw [Device.captured, hk, happ, hover, hev]
    rw [hright, ← hk', Device.appendCapture_room hfull]
    rfl
  · have h0 : 32 - d.stu.captures.length = 0 := by omega
    have hne : d.stu.captures ≠ [] := by
      intro he
      rw [he] at hfull
      exact hfull (by decide)
    rw [Device.appendCapture_full hfull]
    show (d.setStu { d.stu with
      captures := d.stu.captures ++ rs.take (32 - d.stu.captures.length), overrun := true || _ }).setNtu
        (d.ntu.postAll d.stu.time (captureEvents d.stu.captures rs)) = _
    rw [Device.captured, h0, captureEvents_of_ne hne, captureEvents_of_ne hne]
    simp

/-- R102, R103: the records of a tick, in order. -/
theorem Device.captures_eq (kind : SceneState) (taken : List Taken) (d : Device) :
    taken.foldl (Device.capture kind) d = d.captured (d.records kind taken) := by
  induction taken generalizing d with
  | nil => exact d.captured_nil.symm
  | cons t taken ih =>
    rw [List.foldl_cons, ih]
    by_cases hc : (d.line t.1).capture = true
    · have hd : d.capture kind t = d.appendCapture ⟨t.1, t.2, d.stu.time, kind⟩ := by rw [Device.capture, if_pos hc]
      have hr : d.records kind (t :: taken) = ⟨t.1, t.2, d.stu.time, kind⟩ :: d.records kind taken := by
        rw [Device.records, List.filter_cons_of_pos (p := fun t : Taken => (d.line t.1).capture) hc]
        rfl
      rw [hd, hr, Device.records_appendCapture, Device.captured_cons]
    · have hd : d.capture kind t = d := by rw [Device.capture, if_neg hc]
      have hr : d.records kind (t :: taken) = d.records kind taken := by
        rw [Device.records, List.filter_cons_of_neg (p := fun t : Taken => (d.line t.1).capture) hc]
        rfl
      rw [hd, hr]

theorem Device.line_clearEdges (d : Device) (l : Fin 8) : d.clearEdges.line l = { d.line l with edges := [] } := by
  simp [Device.clearEdges, Device.line]

/-- R4, R7, R8: a device whose pending edges a tick has taken, its kind settled. -/
def Device.opened (fired : List (Fin 8)) (d : Device) : Device :=
  if d.goHolds fired = true then
    (d.clearEdges.setStu { d.stu with scene := .running, go := none }).post (evStateChange .armed .running d.stu.time)
  else d.clearEdges.setStu { d.stu with go := if d.stu.scene = .armed then d.stu.go.map (GoConds.latched fired) else d.stu.go }

theorem Device.goHolds_armed {d : Device} {fired : List (Fin 8)} (h : d.goHolds fired = true) : d.stu.scene = .armed := by
  unfold Device.goHolds at h
  split at h
  · rename_i hs _
    exact hs
  · cases h

theorem Device.latchGo_eq (fired : List (Fin 8)) (d : Device) :
    d.latchGo fired = d.setStu { d.stu with go := if d.stu.scene = .armed then d.stu.go.map (GoConds.latched fired) else d.stu.go } := by
  unfold Device.latchGo
  split <;> rfl

/-- R4, R7, R8, R102: a tick's opening. -/
theorem Device.openTick_opened (d : Device) :
    d.openTick = d.pendingEdges.foldl (Device.capture (d.tickKind (d.firedLines d.pendingEdges))) (d.opened (d.firedLines d.pendingEdges)) := by
  unfold Device.openTick Device.opened
  dsimp only
  split
  · rename_i hg
    rw [Device.latchGo_eq, Device.enterRunning, Device.moveScene]
    have hs := Device.goHolds_armed hg
    simp only [Device.clearEdges, Device.setStu_stu, Device.setLines_stu, Device.setStu_setStu, hs]
  · rw [Device.latchGo_eq]
    rfl

/-! ### The sample clock (R3) -/

theorem Device.ticking_iff (d : Device) : d.ticking = true ↔ d.pwc.power = .active ∧ d.pwc.rstn = false := by
  simp [Device.ticking]

theorem Device.sclkPeriod_ticking {d : Device} (hp : d.pwc.power = .active) (hr : d.pwc.rstn = false) : d.sclkPeriod = d.sceneTick :=
  if_pos (d.ticking_iff.2 ⟨hp, hr⟩)

/-- R3: a tick that is not RUNNING. -/
theorem Device.sceneTick_still {d : Device} (h : d.tickKind (d.firedLines d.pendingEdges) ≠ .running) :
    d.sceneTick = (d.openTick.setPorts (d.openTick.ports.map (Port.still (d.tickKind (d.firedLines d.pendingEdges))))).grant := by
  unfold Device.sceneTick
  dsimp only
  rw [if_neg h, Device.stillTick_eq h]

end Sys2Proof.Machine

open Sys2Proof Sys2Proof.Machine

/-- Settles O30: with no edge to take the opening of the tick changes nothing, and a tick that is not RUNNING changes the ports alone. -/
theorem stillTicksDeliver : Obligations.StillTicksDeliver := by
  refine ⟨fun s hset hedges hp hr hk => ?tick, fun s => ?silent⟩
  case tick =>
    have hpending : s.dev.pendingEdges = [] := by
      refine List.flatMap_eq_nil_iff.2 fun l _ => ?_
      rw [hedges l]
      rfl
    have hfired : s.dev.firedLines s.dev.pendingEdges = [] := by rw [hpending]; rfl
    have hgoes : ¬ s.dev.goHolds [] = true := fun h => hk (by rw [Device.tickKind, if_pos h])
    have hclear : s.dev.clearEdges = s.dev := by
      refine congrArg s.dev.setLines (Vector.ext fun i hi => ?_)
      rw [Vector.getElem_map]
      have := hedges ⟨i, hi⟩
      show ({ s.dev.line ⟨i, hi⟩ with edges := [] } : Line) = s.dev.line ⟨i, hi⟩
      rw [← this]
    have hlatched : s.dev.stu.go.map (GoConds.latched []) = s.dev.stu.go := by
      cases s.dev.stu.go with
      | none => rfl
      | some g =>
        rw [Option.map_some, GoConds.latched]
        cases g.cond <;> rfl
    have hopen : s.dev.openTick = s.dev := by
      rw [Device.openTick_opened, hfired, hpending, List.foldl_nil, Device.opened, if_neg hgoes, hclear, hlatched, ite_self]
      rfl
    have hkind : s.dev.tickKind (s.dev.firedLines s.dev.pendingEdges) = s.dev.stu.scene := by
      rw [hfired, Device.tickKind, if_neg hgoes]
    refine onDevice_eq ((Device.sclkPeriod_ticking hp hr).trans ?_)
    rw [Device.sceneTick_still (by rw [hfired]; exact hk), hopen, hkind]
    exact Device.grant_settled (hset.congr rfl rfl rfl rfl rfl rfl)
  case silent =>
    intro silent
    refine ⟨rfl, fun h => onDevice_eq (if_neg fun ht => ?_)⟩
    obtain ⟨hp, hr⟩ := s.dev.ticking_iff.1 ht
    rcases h with h | h
    · exact h hp
    · rw [hr] at h
      cases h
end

section
/-! PROOFS. The RUNNING tick (O29, O31, O32). -/

namespace Sys2Proof.Machine

/-! ### Latches (R106, R107) -/

/-- R106: the due entries of a line act on it in table order. -/
def Line.marked (l : Line) (ms : List Marker) : Line := ms.foldl (fun z m => m.action.act z) l

/-- R106: entries act on the lines they name. -/
theorem Device.marks_eq (ms : List Marker) (d : Device) :
    ms.foldl Device.mark d =
      d.setLines (Vector.ofFn (fun l => (d.line l).marked (ms.filter (fun m => decide (m.line = l))))) := by
  induction ms generalizing d with
  | nil =>
    have hl : (Vector.ofFn fun l => d.line l) = d.lines := Vector.ext fun i hi => by simp [Device.line]
    show d = d.setLines (Vector.ofFn fun l => d.line l)
    rw [hl]
    rfl
  | cons m ms ih =>
    rw [List.foldl_cons, ih]
    refine congrArg d.setLines (congrArg Vector.ofFn (funext fun l => ?_))
    by_cases hl : m.line = l
    · have hline : (d.mark m).line l = m.action.act (d.line l) := by
        subst hl
        simp [Device.mark]
      rw [List.filter_cons_of_pos (p := fun x : Marker => decide (x.line = l)) (by simp [hl]), hline]
      rfl
    · have hline : (d.mark m).line l = d.line l := Device.line_setLine_ne _ _ (fun h => hl h.symm)
      rw [List.filter_cons_of_neg (p := fun x : Marker => decide (x.line = l)) (by simp [hl]), hline]

/-- R106, R107: a line after its pulse has been counted and its due markers have acted. -/
def Device.latched (d : Device) (l : Fin 8) : Line :=
  (d.line l).countPulse.marked ((d.stu.markers.filter (fun m => decide (m.time ≤ d.stu.time))).filter (fun m => decide (m.line = l)))

/-- R4, R106, R107: a line after a RUNNING tick. -/
def Device.ticked (d : Device) (l : Fin 8) : Line := (d.latched l).noticed (d.line l).wire (d.latched l).wire

/-- R106, R107: what a RUNNING tick of an ACTIVE part does to the lines and the marker table. -/
theorem Device.tickLatches_eq {d : Device} (h : d.pwc.power = .active) :
    d.tickLatches =
      (d.setStu { d.stu with markers := d.stu.markers.filter (fun m => !decide (m.time ≤ d.stu.time)) }).setLines (Vector.ofFn d.ticked) := by
  have hcount : ∀ l, ((d.setLines (d.lines.map Line.countPulse))).line l = (d.line l).countPulse := fun l => by simp [Device.line]
  have hact : (d.setLines (d.lines.map Line.countPulse)).actMarkers =
      (d.setStu { d.stu with markers := d.stu.markers.filter (fun m => !decide (m.time ≤ d.stu.time)) }).setLines (Vector.ofFn d.latched) := by
    unfold Device.actMarkers
    dsimp only
    rw [Device.marks_eq]
    refine congrArg _ (congrArg Vector.ofFn (funext fun l => ?_))
    exact congrArg (fun z : Line => z.marked _) (hcount l)
  have hline : ∀ l, ((d.setStu { d.stu with markers := d.stu.markers.filter (fun m => !decide (m.time ≤ d.stu.time)) }).setLines
      (Vector.ofFn d.latched)).line l = d.latched l := fun l => by simp [Device.line]
  have hactive : (d.setLines (d.lines.map Line.countPulse)).actMarkers.pwc = d.pwc := by rw [hact]; rfl
  rw [Device.tickLatches, Device.changeLines_of_active h hactive, hact]
  simp only [hline]
  rfl

/-! ### The whole RUNNING tick (R2, R3, R16, R73, R85 to R90, R181) -/

theorem Device.judgeDrained_eq (d : Device) :
    d.judgeDrained =
      (d.setStu { d.stu with drainedPosted := d.stu.drainedPosted || d.drained }).setNtu
        (d.ntu.postAll d.stu.time (if d.drained then [evDrained d.stu.time] else [])) := by
  unfold Device.judgeDrained
  cases d.drained with
  | false =>
    simp only [Bool.or_false]
    rfl
  | true =>
    simp only [Bool.or_true]
    rfl

/-- R73: the pairs that the voices hand their ports at a RUNNING tick. -/
def Device.handed (fired : List (Fin 8)) (d : Device) : List (Fin 4 × IQ) :=
  allVoices.map (fun v => ((d.voice v).port, (d.turn .running fired v).out))

/-- R16, R47, R71, R90, R178: the events of a RUNNING tick once its edges are taken. -/
def Device.tickEvents (fired : List (Fin 8)) (d : Device) : List Event :=
  (if d.drained then [evDrained d.stu.time] else []) ++ allVoices.flatMap (fun v => (d.turn .running fired v).events) ++
    allPorts.flatMap (fun i => (d.port i).clips .running i d.stu.time (portSum i (d.handed fired)))

/-- R3: a device whose voices, ports, lines and markers have had their RUNNING tick, with T still as the tick carries it. -/
def Device.played (fired : List (Fin 8)) (d : Device) : Device :=
  { d with
    stu := { d.stu with
      drainedPosted := d.stu.drainedPosted || d.drained
      markers := d.stu.markers.filter (fun m => !decide (m.time ≤ d.stu.time))
      cueStarted := d.stu.cueStarted || allVoices.any (fun v => (d.turn .running fired v).started) }
    lines := Vector.ofFn d.ticked
    voices := Vector.ofFn (fun v => (d.turn .running fired v).voice)
    ports := Vector.ofFn (fun i => (d.port i).delivered .running (portSum i (d.handed fired)))
    ntu := d.ntu.postAll d.stu.time (d.tickEvents fired) }

theorem Device.runTick_eq {d : Device} (h : d.pwc.power = .active) (fired : List (Fin 8)) :
    d.runTick fired = ((d.played fired).formReport d.stu.time).advanceTime := by
  have hlatches : d.judgeDrained.tickLatches =
      ((d.setStu { d.stu with
        drainedPosted := d.stu.drainedPosted || d.drained
        markers := d.stu.markers.filter (fun m => !decide (m.time ≤ d.stu.time)) }).setLines (Vector.ofFn d.ticked)).setNtu
          (d.ntu.postAll d.stu.time (if d.drained then [evDrained d.stu.time] else [])) := by
    rw [Device.judgeDrained_eq]
    exact Device.tickLatches_eq h
  have hplayed : (d.judgeDrained.tickLatches.playVoices .running fired).deliver .running = d.played fired := by
    rw [hlatches, Device.playVoices_eq, Handing.deliver_eq, Device.played, Device.tickEvents, Ntu.postAll_append, Ntu.postAll_append]
    rfl
  unfold Device.runTick
  dsimp only
  rw [hplayed]
  rfl

/-- R3: a RUNNING tick. -/
theorem Device.sceneTick_running {d : Device} (h : d.tickKind (d.firedLines d.pendingEdges) = .running) :
    d.sceneTick = (d.openTick.runTick (d.firedLines d.pendingEdges)).grant := by
  unfold Device.sceneTick
  dsimp only
  rw [if_pos h]

theorem Device.formReport_stu (time : Nat) (d : Device) : (d.formReport time).stu = d.stu := by
  unfold Device.formReport
  split <;> rfl

theorem Device.runTick_stu (d : Device) (time : Nat) :
    ((d.formReport time).advanceTime).stu = { d.stu with time := satAdd Config.timeMax d.stu.time 1 } := by
  show ({ (d.formReport time).stu with time := satAdd Config.timeMax (d.formReport time).stu.time 1 } : Stu) = _
  rw [Device.formReport_stu]

/-! ### The opening of a tick, field by field (R4, R7, R8, R102) -/

theorem Device.contains_firedLines (d : Device) (l : Fin 8) :
    (d.firedLines d.pendingEdges).contains l = true ↔ ∃ e ∈ (d.line l).edges, e.fits (d.line l).edgeMode = true := by
  rw [List.contains_iff_mem]
  simp only [Device.firedLines, Device.pendingEdges, List.mem_map, List.mem_filter, List.mem_flatMap, Device.edgeFits]
  constructor
  · rintro ⟨⟨l', e⟩, ⟨⟨k, -, e', he', heq⟩, hfit⟩, rfl⟩
    obtain ⟨rfl, rfl⟩ := Prod.mk.inj heq
    exact ⟨e', he', hfit⟩
  · rintro ⟨e, he, hfit⟩
    exact ⟨(l, e), ⟨⟨l, mem_allLines l, e, he, rfl⟩, hfit⟩, rfl⟩

/-- R8: the GO conditions at a tick. -/
theorem Device.goHolds_iff (d : Device) :
    d.goHolds (d.firedLines d.pendingEdges) = true ↔ d.stu.scene = .armed ∧ ∃ g, d.stu.go = some g ∧
      (g.cond = .immediate ∨ ∃ l, g.cond = .line l ∧ (g.latch = true ∨ ∃ e ∈ (d.line l).edges, e.fits (d.line l).edgeMode = true)) ∧
      (g.primedWait = true → ∀ v : Fin 32, (d.voice v).cues = [] ∨ (d.voice v).state = .waiting) := by
  have hline : ∀ g : GoConds, (g.latched (d.firedLines d.pendingEdges)).lineMet = true ↔
      g.cond = .immediate ∨ ∃ l, g.cond = .line l ∧ (g.latch = true ∨ ∃ e ∈ (d.line l).edges, e.fits (d.line l).edgeMode = true) := by
    intro g
    obtain ⟨cond, primedWait, latch⟩ := g
    cases cond with
    | immediate => simp [GoConds.latched, GoConds.lineMet]
    | line l =>
      have hl := d.contains_firedLines l
      by_cases hf : (d.firedLines d.pendingEdges).contains l = true
      · simp only [GoConds.latched, GoConds.lineMet, hf, if_true, reduceCtorEq, StartCond.line.injEq, exists_eq_left', false_or, true_iff]
        exact .inr (hl.1 hf)
      · simp only [GoConds.latched, GoConds.lineMet, hf, reduceCtorEq, StartCond.line.injEq, exists_eq_left', false_or]
        exact ⟨.inl, fun h => h.resolve_right (mt hl.2 hf)⟩
  have hprimed : ∀ g : GoConds, d.primedAll g = true ↔
      (g.primedWait = true → ∀ v : Fin 32, (d.voice v).cues = [] ∨ (d.voice v).state = .waiting) := by
    intro g
    cases hp : g.primedWait with
    | false => simp [Device.primedAll, hp]
    | true =>
      simp only [Device.primedAll, hp, Bool.not_true, Bool.false_or, List.all_eq_true, Bool.not_eq_true', forall_const]
      refine ⟨fun h v => ?_, fun h v _ => ?_⟩
      · have := h v (mem_allVoices v)
        simp only [Voice.notWaiting, Bool.and_eq_false_iff, Bool.not_eq_false', List.isEmpty_iff, decide_eq_false_iff_not, not_not] at this
        exact this
      · simp only [Voice.notWaiting, Bool.and_eq_false_iff, Bool.not_eq_false', List.isEmpty_iff, decide_eq_false_iff_not, not_not]
        exact h v
  unfold Device.goHolds
  split
  · rename_i g hs hg
    rw [Bool.and_eq_true, hline, hprimed]
    exact ⟨fun h => ⟨hs, g, hg, h⟩, fun ⟨_, g', hg', h⟩ => Option.some.inj (hg.symm.trans hg') ▸ h⟩
  · rename_i hn
    exact ⟨nofun, fun ⟨hs, g, hg, _⟩ => absurd hg (hn g hs)⟩

theorem Device.records_eq (kind : SceneState) (d : Device) :
    d.records kind d.pendingEdges = allLines.flatMap (fun l =>
      if (d.line l).capture then (d.line l).edges.map (fun e => Capture.mk l e d.stu.time kind) else []) := by
  unfold Device.records Device.pendingEdges
  rw [List.filter_flatMap, List.map_flatMap]
  refine congrArg (fun f => allLines.flatMap f) (funext fun l => ?_)
  by_cases hc : (d.line l).capture = true
  · rw [if_pos hc, List.filter_eq_self.2 (fun t ht => ?_), List.map_map]
    · rfl
    · obtain ⟨e, -, rfl⟩ := List.mem_map.1 ht
      exact hc
  · rw [if_neg hc, List.filter_eq_nil_iff.2 (fun t ht => ?_), List.map_nil]
    obtain ⟨e, -, rfl⟩ := List.mem_map.1 ht
    exact hc

/-- R4, R7, R8: the device that a tick's opening leaves but for the captures. -/
theorem Device.opened_fields (fired : List (Fin 8)) (d : Device) :
    ∃ go n, d.opened fired = (d.clearEdges.setStu { d.stu with scene := d.tickKind fired, go := go }).setNtu n ∧
      go = (if d.goHolds fired = true then none else if d.stu.scene = .armed then d.stu.go.map (GoConds.latched fired) else d.stu.go) ∧
      n = d.ntu.postAll d.stu.time (if d.goHolds fired = true then [evStateChange .armed .running d.stu.time] else []) := by
  by_cases hg : d.goHolds fired = true
  · refine ⟨none, _, ?_, (if_pos hg).symm, rfl⟩
    rw [if_pos hg, Device.opened, if_pos hg, Device.tickKind, if_pos hg]
    rfl
  · refine ⟨_, _, ?_, rfl, rfl⟩
    rw [if_neg hg, if_neg hg, Device.opened, if_neg hg, Device.tickKind, if_neg hg]
    rfl

/-- R4, R7, R8, R102: a tick's opening changes the lines' pending edges, the scene, its GO conditions, the captures and the notices. -/
theorem Device.openTick_eq (d : Device) :
    let fired := d.firedLines d.pendingEdges
    let kind := d.tickKind fired
    let rs := d.records kind d.pendingEdges
    d.openTick =
      (d.clearEdges.setStu { d.stu with
        scene := kind
        go := if d.goHolds fired = true then none else if d.stu.scene = .armed then d.stu.go.map (GoConds.latched fired) else d.stu.go
        captures := d.stu.captures ++ rs.take (32 - d.stu.captures.length)
        overrun := d.stu.overrun || decide (32 - d.stu.captures.length < rs.length) }).setNtu
          (d.ntu.postAll d.stu.time ((if d.goHolds fired = true then [evStateChange .armed .running d.stu.time] else []) ++
            captureEvents d.stu.captures rs)) := by
  intro fired kind rs
  obtain ⟨go, n, ho, rfl, rfl⟩ := d.opened_fields fired
  have hrs : (d.opened fired).records kind d.pendingEdges = rs := by
    rw [ho]
    show List.map _ (d.pendingEdges.filter fun t => (d.clearEdges.line t.1).capture) = _
    have hcap : (fun t : Taken => (d.clearEdges.line t.1).capture) = fun t => (d.line t.1).capture := by
      funext t
      rw [Device.line_clearEdges]
    rw [hcap]
    rfl
  rw [Device.openTick_opened, Device.captures_eq, hrs, ho, Ntu.postAll_append]
  rfl

/-- R102, R103: the records of the edges that a tick takes. -/
def Device.tickRecords (d : Device) : List Capture := d.records (d.tickKind (d.firedLines d.pendingEdges)) d.pendingEdges

/-- R8: the GO conditions after a tick's opening. -/
def Device.goAfter (d : Device) : Option GoConds :=
  if d.goHolds (d.firedLines d.pendingEdges) = true then none
  else if d.stu.scene = .armed then d.stu.go.map (GoConds.latched (d.firedLines d.pendingEdges)) else d.stu.go

@[simp] theorem Device.openTick_voices (d : Device) : d.openTick.voices = d.voices := by rw [Device.openTick_eq]; rfl
@[simp] theorem Device.openTick_ports (d : Device) : d.openTick.ports = d.ports := by rw [Device.openTick_eq]; rfl
@[simp] theorem Device.openTick_tks (d : Device) : d.openTick.tks = d.tks := by rw [Device.openTick_eq]; rfl
@[simp] theorem Device.openTick_siu (d : Device) : d.openTick.siu = d.siu := by rw [Device.openTick_eq]; rfl
@[simp] theorem Device.openTick_smc (d : Device) : d.openTick.smc = d.smc := by rw [Device.openTick_eq]; rfl
@[simp] theorem Device.openTick_bli (d : Device) : d.openTick.bli = d.bli := by rw [Device.openTick_eq]; rfl
@[simp] theorem Device.openTick_ctu (d : Device) : d.openTick.ctu = d.ctu := by rw [Device.openTick_eq]; rfl
@[simp] theorem Device.openTick_pwc (d : Device) : d.openTick.pwc = d.pwc := by rw [Device.openTick_eq]; rfl

theorem Device.openTick_line (d : Device) (l : Fin 8) : d.openTick.line l = { d.line l with edges := [] } := by
  rw [Device.openTick_eq, ← Device.line_clearEdges]
  rfl

theorem Device.openTick_stu (d : Device) :
    d.openTick.stu = { d.stu with
      scene := d.tickKind (d.firedLines d.pendingEdges)
      go := d.goAfter
      captures := d.stu.captures ++ d.tickRecords.take (32 - d.stu.captures.length)
      overrun := d.stu.overrun || decide (32 - d.stu.captures.length < d.tickRecords.length) } := by
  rw [Device.openTick_eq]
  rfl

theorem Device.openTick_ntu (d : Device) :
    d.openTick.ntu = d.ntu.postAll d.stu.time
      ((if d.goHolds (d.firedLines d.pendingEdges) = true then [evStateChange .armed .running d.stu.time] else []) ++
        captureEvents d.stu.captures d.tickRecords) := by
  rw [Device.openTick_eq]
  rfl

end Sys2Proof.Machine

open Sys2Proof Sys2Proof.Machine

/-- Settles O29: the opening of a tick field by field, and the tick of either kind that follows it. -/
theorem ticksTakeEdges : Obligations.TicksTakeEdges := by
  intro d hlen fired goes kind records e
  have hgoes : d.goHolds (d.firedLines d.pendingEdges) = true ↔ goes := d.goHolds_iff
  have hrecords : d.records kind d.pendingEdges = records := d.records_eq kind
  have hstu := d.openTick_stu
  have hcap : d.stu.captures ++ records.take (32 - d.stu.captures.length) = (d.stu.captures ++ records).take 32 := by
    rw [List.take_append, List.take_of_length_le hlen]
  have hover : decide (32 - d.stu.captures.length < records.length) = decide (32 < d.stu.captures.length + records.length) := by
    rw [decide_eq_decide]
    omega
  have hcaptures : e.stu.captures = (d.stu.captures ++ records).take 32 := by
    rw [← hcap, ← hrecords]
    exact congrArg Stu.captures hstu
  have hoverrun : e.stu.overrun = (d.stu.overrun || decide (32 < d.stu.captures.length + records.length)) := by
    rw [← hover, ← hrecords]
    exact congrArg Stu.overrun hstu
  have hscene : e.stu.scene = kind := congrArg Stu.scene hstu
  have hgo : e.stu.go = if d.goHolds (d.firedLines d.pendingEdges) = true then none
      else if d.stu.scene = .armed then d.stu.go.map (GoConds.latched (d.firedLines d.pendingEdges)) else d.stu.go := congrArg Stu.go hstu
  have hkind : kind = if d.goHolds (d.firedLines d.pendingEdges) = true then .running else d.stu.scene := rfl
  have htime : e.stu.time = d.stu.time := (congrArg Stu.time hstu).trans rfl
  refine ⟨d.openTick_line, hcaptures, hoverrun, fun hg => ?_, fun hg => ?_, htime, d.openTick_voices, d.openTick_ports, d.openTick_tks,
    d.openTick_siu, d.openTick_smc, d.openTick_bli, d.openTick_ctu, d.openTick_pwc, fun s hs hp hr => ?_⟩
  · rw [if_pos (hgoes.2 hg)] at hkind hgo
    exact ⟨hkind, hscene.trans hkind, hgo⟩
  · rw [if_neg (mt hgoes.1 hg)] at hkind hgo
    exact ⟨hkind, hscene.trans hkind, hgo⟩
  · subst hs
    refine ⟨_, onDevice_eq (Device.sclkPeriod_ticking hp hr), ?_⟩
    by_cases hk : kind = .running
    · have hactive : e.pwc.power = .active := by rw [Device.openTick_pwc]; exact hp
      rw [Device.sceneTick_running hk, Device.runTick_eq hactive, Device.grant_stu]
      have hticked := Device.runTick_stu (e.played (s.dev.firedLines s.dev.pendingEdges)) e.stu.time
      exact ⟨(congrArg Stu.captures hticked).trans hcaptures, (congrArg Stu.overrun hticked).trans hoverrun,
        (congrArg Stu.scene hticked).trans hscene, (congrArg Stu.go hticked).trans rfl, fun h => absurd hk h⟩
    · rw [Device.sceneTick_still hk, Device.grant_stu]
      refine ⟨hcaptures, hoverrun, hscene, rfl, fun _ => ⟨htime, fun l => ?_, fun p => ?_, fun hset => ?_⟩⟩
      · rw [← Device.openTick_line, Device.line, Device.grant_lines]
        rfl
      · rw [Device.port, Device.grant_ports]
        show (e.ports.map (Port.still kind))[p] = _
        rw [Device.openTick_ports]
        simp only [Fin.getElem_fin, Vector.getElem_map]
        rfl
      · have hset' : (e.setPorts (e.ports.map (Port.still kind))).Settled :=
          hset.congr s.dev.openTick_ctu s.dev.openTick_voices (congrArg Tks.verifyStage s.dev.openTick_tks) s.dev.openTick_siu s.dev.openTick_smc
            (congrArg Pwc.power s.dev.openTick_pwc)
        rw [Device.grant_settled hset']
        exact s.dev.openTick_voices
end

section
/-! PROOFS. What a RUNNING tick plays, mixes and posts (O31, O32). -/

namespace Sys2Proof.Machine

/-! ### What a grant leaves (R147, R148) -/

/-- R148: a grant changes a voice by granting its request, if at all. -/
theorem Device.grant_voice (d : Device) (v : Fin 32) :
    d.grant.voice v = d.voice v ∨ ∃ r, (d.voice v).req = .waiting r ∧ d.grant.voice v = { d.voice v with req := .granted r } := by
  rcases d.grant_cases with ⟨h, -⟩ | ⟨-, c, -, h⟩
  · rw [h]
    exact .inl rfl
  rw [h]
  cases c with
  | refresh => exact .inl rfl
  | fetch u =>
    simp only [Device.grantChoice, Device.grantFetch]
    split
    · rename_i r hr
      rw [Device.voice_setSmc]
      by_cases huv : v = u
      · subst huv
        exact .inr ⟨r, hr, Device.voice_setVoice_self ..⟩
      · exact .inl (Device.voice_setVoice_ne _ _ huv)
    · exact .inl rfl
  | intake =>
    simp only [Device.grantChoice, Device.grantIntake]
    split
    · exact .inl rfl
    · exact .inl rfl
  | peek =>
    simp only [Device.grantChoice, Device.grantPeek]
    split
    · exact .inl rfl
    · exact .inl rfl
  | verify => exact .inl rfl
  | selftest =>
    simp only [Device.grantChoice, Device.grantSelftest]
    split
    · exact .inl rfl
    · exact .inl rfl

/-- R119, R133: a grant opens no take and binds no stream. -/
theorem Device.grant_directory (d : Device) : d.grant.tks.takes = d.tks.takes ∧ d.grant.siu.entries = d.siu.entries := by
  rcases d.grant_cases with ⟨h, -⟩ | ⟨-, c, -, h⟩
  · rw [h]
    exact ⟨rfl, rfl⟩
  rw [h]
  cases c with
  | refresh => exact ⟨rfl, rfl⟩
  | fetch u =>
    simp only [Device.grantChoice, Device.grantFetch]
    split
    · exact ⟨rfl, rfl⟩
    · exact ⟨rfl, rfl⟩
  | intake =>
    simp only [Device.grantChoice, Device.grantIntake]
    split
    · exact ⟨rfl, rfl⟩
    · exact ⟨rfl, rfl⟩
  | peek =>
    simp only [Device.grantChoice, Device.grantPeek]
    split
    · exact ⟨rfl, rfl⟩
    · exact ⟨rfl, rfl⟩
  | verify => exact ⟨rfl, rfl⟩
  | selftest =>
    simp only [Device.grantChoice, Device.grantSelftest]
    split
    · exact ⟨rfl, rfl⟩
    · exact ⟨rfl, rfl⟩

/-! ### The RUNNING tick of a device as the tick finds it (R2, R3) -/

/-- R3: the lines that fire at the next tick. -/
def Device.fired (d : Device) : List (Fin 8) := d.firedLines d.pendingEdges

theorem Device.runsNext_iff (d : Device) :
    d.runsNext = true ↔ d.pwc.power = .active ∧ d.pwc.rstn = false ∧ d.tickKind d.fired = .running := by
  rw [Device.runsNext, Bool.and_eq_true, d.ticking_iff, decide_eq_true_eq, and_assoc]
  rfl

/-- R3: the device after a RUNNING tick, before the arbiter decides. -/
def Device.afterTick (d : Device) : Device := ((d.openTick.played d.fired).formReport d.stu.time).advanceTime

theorem Device.sceneTick_of_runsNext {d : Device} (h : d.runsNext = true) : d.sceneTick = d.afterTick.grant := by
  obtain ⟨hp, -, hk⟩ := d.runsNext_iff.1 h
  have ht : d.openTick.stu.time = d.stu.time := (congrArg Stu.time d.openTick_stu).trans rfl
  rw [Device.sceneTick_running hk, Device.runTick_eq (by rw [Device.openTick_pwc]; exact hp), ht]
  rfl

theorem Device.sclkPeriod_of_runsNext {d : Device} (h : d.runsNext = true) : d.sclkPeriod = d.afterTick.grant := by
  obtain ⟨hp, hr, -⟩ := d.runsNext_iff.1 h
  rw [Device.sclkPeriod_ticking hp hr, Device.sceneTick_of_runsNext h]

theorem Device.formReport_eq (time : Nat) (d : Device) :
    d.formReport time = d.setNtu { d.ntu with
      report := if d.ntu.reportDue time then some (resultChain (reportFields time d)) else d.ntu.report } := by
  unfold Device.formReport
  split <;> rfl

/-- R2, R181: a RUNNING tick, before the arbiter decides, field by field. -/
theorem Device.afterTick_eq (d : Device) :
    d.afterTick =
      ((d.openTick.played d.fired).setStu
        { (d.openTick.played d.fired).stu with time := satAdd Config.timeMax d.stu.time 1 }).setNtu
          { (d.openTick.played d.fired).ntu with
            report := if (d.openTick.played d.fired).ntu.reportDue d.stu.time then
              some (resultChain (reportFields d.stu.time (d.openTick.played d.fired))) else (d.openTick.played d.fired).ntu.report } := by
  have ht : (d.openTick.played d.fired).stu.time = d.stu.time := (congrArg Stu.time d.openTick_stu).trans rfl
  rw [Device.afterTick, Device.formReport_eq, Device.advanceTime, ← ht]
  rfl

/-- R73: the opening of a tick changes nothing that a voice's turn is made of. -/
theorem Device.turn_openTick (kind : SceneState) (fired : List (Fin 8)) (d : Device) : d.openTick.turn kind fired = d.turn kind fired := by
  funext v
  have ht : d.openTick.stu.time = d.stu.time := (congrArg Stu.time d.openTick_stu).trans rfl
  rw [Device.turn, Device.voice, Device.ctx, Device.openTick_voices, Device.openTick_tks, ht]
  rfl

theorem Device.handed_openTick (fired : List (Fin 8)) (d : Device) : d.openTick.handed fired = d.handed fired := by
  rw [Device.handed, Device.turn_openTick]
  simp only [Device.voice, Device.openTick_voices]
  rfl

/-! ### Mixes (R85, R86, R87, R89) -/

/-- R85: the sum of the pairs handed to a port, component by component. -/
theorem portSum_map (p : Fin 4) (port : Fin 32 → Fin 4) (out : Fin 32 → IQ) (vs : List (Fin 32)) :
    portSum p (vs.map (fun v => (port v, out v))) =
      ⟨((vs.filter (fun v => decide (port v = p))).map (fun v => (out v).i)).sum,
        ((vs.filter (fun v => decide (port v = p))).map (fun v => (out v).q)).sum⟩ := by
  have key : ∀ (vs : List (Fin 32)) (acc : IQ),
      (vs.map (fun v => (port v, out v))).foldl (fun acc x => if x.1 = p then ⟨acc.i + x.2.i, acc.q + x.2.q⟩ else acc) acc =
        ⟨acc.i + ((vs.filter (fun v => decide (port v = p))).map (fun v => (out v).i)).sum,
          acc.q + ((vs.filter (fun v => decide (port v = p))).map (fun v => (out v).q)).sum⟩ := by
    intro vs
    induction vs with
    | nil => intro acc; simp
    | cons v vs ih =>
      intro acc
      rw [List.map_cons, List.foldl_cons, ih]
      by_cases hv : port v = p
      · simp [hv, add_assoc]
      · simp [hv]
  have h := key vs IQ.zero
  simp only [IQ.zero, zero_add] at h
  exact h

/-- R85: the sum that port p mixes at a RUNNING tick. -/
theorem Device.portSum_handed (p : Fin 4) (fired : List (Fin 8)) (d : Device) :
    portSum p (d.handed fired) =
      ⟨((allVoices.filter (fun v => decide ((d.voice v).port = p))).map (fun v => (d.turn .running fired v).out.i)).sum,
        ((allVoices.filter (fun v => decide ((d.voice v).port = p))).map (fun v => (d.turn .running fired v).out.q)).sum⟩ :=
  portSum_map p _ _ allVoices

/-- R93: a port delivers its mix at a RUNNING tick exactly when it is enabled. -/
theorem Port.condition_running (p : Port) : p.condition true .running = if p.enable then .mix else .disabled := by
  unfold Port.condition
  cases p.enable <;> rfl

/-- R86, R87, R89: whether one component of a mix saturates. -/
def componentClips (w : Width) (ap h : Nat) (acc : Int) : Prop :=
  sat16 (portScaled ap h acc) ≠ portScaled ap h acc ∨
    satBits w.bits (dacRounded w (sat16 (portScaled ap h acc))) ≠ dacRounded w (sat16 (portScaled ap h acc))

theorem mixComponent_stage (w : Width) (ap h : Nat) (acc : Int) :
    (mixComponent w ap h acc).2.isSome = true ↔ componentClips w ap h acc := by
  unfold mixComponent componentClips
  dsimp only
  split_ifs with h₁ h₂
  · simp [h₁]
  · simp [h₂]
  · simp [h₁, h₂]

/-- R86 to R89, R93: a port after a RUNNING tick. -/
theorem Port.delivered_running (p : Port) (sum : IQ) :
    let clips := componentClips p.width p.atten p.headroom sum.i ∨ componentClips p.width p.atten p.headroom sum.q
    let out : IQ := ⟨(mixComponent p.width p.atten p.headroom sum.i).1, (mixComponent p.width p.atten p.headroom sum.q).1⟩
    (¬ p.enable = true → p.delivered .running sum = { p with last := ⟨0, 0⟩ }) ∧
    (p.enable = true → ¬ clips → p.delivered .running sum = { p with last := out }) ∧
    (p.enable = true → clips → p.delivered .running sum = { p with last := out, clip := min 4294967295 (p.clip + 1) }) := by
  intro clips out
  have hclips : (p.mix sum).clips = true ↔ clips := by
    rw [Mix.clips, Bool.or_eq_true]
    exact or_congr (mixComponent_stage ..) (mixComponent_stage ..)
  rw [Port.delivered, Port.condition_running]
  refine ⟨fun he => ?_, fun he hc => ?_, fun he hc => ?_⟩
  · rw [if_neg he]
    rfl
  · rw [if_pos he]
    show ({ p with last := (p.mix sum).out, clip := if (p.mix sum).clips then satAdd Config.max32 p.clip 1 else p.clip } : Port) = _
    rw [if_neg (mt hclips.1 hc)]
    rfl
  · rw [if_pos he]
    show ({ p with last := (p.mix sum).out, clip := if (p.mix sum).clips then satAdd Config.max32 p.clip 1 else p.clip } : Port) = _
    rw [if_pos (hclips.2 hc)]
    rfl

/-! ### Lines (R106, R107) -/

/-- R107: a RUNNING tick's count of a pulse. -/
theorem Line.countPulse_eq (l : Line) :
    l.countPulse = { l with pulse := l.pulse - 1, latch := if l.pulse = 1 then false else l.latch } := by
  unfold Line.countPulse
  split
  · rename_i h
    have hp : l.pulse - 1 = l.pulse := by omega
    rw [hp, if_neg (by omega)]
  · rename_i h
    rw [h]
    rfl
  · rename_i n h
    rw [h, if_neg (by omega)]
    rfl

theorem MarkAction.act_edges (a : MarkAction) (l : Line) (es : List Edge) : a.act { l with edges := es } = { a.act l with edges := es } := by
  cases a <;> rfl

theorem Line.marked_edges (ms : List Marker) (l : Line) (es : List Edge) :
    ({ l with edges := es } : Line).marked ms = { l.marked ms with edges := es } := by
  induction ms generalizing l with
  | nil => rfl
  | cons m ms ih =>
    show Line.marked (m.action.act { l with edges := es }) ms = _
    rw [MarkAction.act_edges, ih]
    rfl

theorem Line.marked_wiring (ms : List Marker) (l : Line) : (l.marked ms).dir = l.dir ∧ (l.marked ms).bench = l.bench := by
  induction ms generalizing l with
  | nil => exact ⟨rfl, rfl⟩
  | cons m ms ih =>
    have h : (m.action.act l).dir = l.dir ∧ (m.action.act l).bench = l.bench := by cases m.action <;> exact ⟨rfl, rfl⟩
    exact ⟨(ih _).1.trans h.1, (ih _).2.trans h.2⟩

/-- R4: the edge that a change of a line's wire makes, with no edge pending. -/
theorem Line.noticed_latch (x y : Line) (hd : y.dir = x.dir) (hb : y.bench = x.bench) :
    ({ y with edges := [] } : Line).noticed x.wire y.wire =
      { y with edges := if x.dir = .output ∧ x.latch ≠ y.latch then [if y.latch then .rise else .fall] else [] } := by
  unfold Line.wire
  rw [hd]
  cases hdir : x.dir with
  | input =>
    simp only [hb, Line.noticed_self, reduceCtorEq, false_and, if_false]
  | output =>
    cases hx : x.latch <;> cases hy : y.latch <;> simp [Line.noticed, edgeOf, Line.holdEdge]

/-- R4, R106, R107: a line after a RUNNING tick. -/
theorem Device.ticked_eq (d : Device) (l : Fin 8) :
    let x := d.line l
    let y := x.countPulse.marked (d.stu.markers.filter (fun m => decide (m.line = l ∧ m.time ≤ d.stu.time)))
    d.openTick.ticked l = { y with edges := if x.dir = .output ∧ x.latch ≠ y.latch then [if y.latch then .rise else .fall] else [] } := by
  intro x y
  have hmarkers : d.openTick.stu.markers = d.stu.markers := (congrArg Stu.markers d.openTick_stu).trans rfl
  have htime : d.openTick.stu.time = d.stu.time := (congrArg Stu.time d.openTick_stu).trans rfl
  have hlatched : d.openTick.latched l = { y with edges := [] } := by
    have hcount : ({ x with edges := [] } : Line).countPulse = { x.countPulse with edges := [] } := by
      rw [Line.countPulse_eq, Line.countPulse_eq]
    rw [Device.latched, Device.openTick_line, hcount, Line.marked_edges, hmarkers, htime, List.filter_filter]
    simp only [y, Bool.decide_and]
  have hwiring := x.countPulse.marked_wiring (d.stu.markers.filter (fun m => decide (m.line = l ∧ m.time ≤ d.stu.time)))
  have hcount : x.countPulse.dir = x.dir ∧ x.countPulse.bench = x.bench := by rw [Line.countPulse_eq]; exact ⟨rfl, rfl⟩
  rw [Device.ticked, hlatched, Device.openTick_line]
  exact Line.noticed_latch x y (hwiring.1.trans hcount.1) (hwiring.2.trans hcount.2)

/-! ### Reports (R181, R182) -/

/-- R182: a report reads nothing of a request. -/
theorem reportFields_congr {d e : Device} (time : Nat) (hv : ∀ v, ∃ r, e.voice v = { d.voice v with req := r })
    (ht : e.tks.takes = d.tks.takes) : reportFields time e = reportFields time d := by
  have hvoice : ∀ v, reportVoice v (e.voice v) = reportVoice v (d.voice v) := by
    intro v
    obtain ⟨r, hr⟩ := hv v
    rw [hr]
    rfl
  have htake : ∀ t, e.take t = d.take t := fun t => by rw [Device.take, ht]; rfl
  simp only [reportFields, hvoice, htake]

theorem Ntu.postAll_frame (time : Nat) (es : List Event) (n : Ntu) :
    (n.postAll time es).interval = n.interval ∧ (n.postAll time es).report = n.report := by
  induction es generalizing n with
  | nil => exact ⟨rfl, rfl⟩
  | cons e es ih =>
    have h : (n.post time e).interval = n.interval ∧ (n.post time e).report = n.report := by
      unfold Ntu.post
      split <;> exact ⟨rfl, rfl⟩
    exact ⟨(ih _).1.trans h.1, (ih _).2.trans h.2⟩

/-- R181: the report that a RUNNING tick leaves pending. -/
theorem Device.afterTick_report (d : Device) :
    d.afterTick.ntu.report =
      if d.ntu.interval ≠ 0 ∧ 0 < d.stu.time ∧ d.stu.time % d.ntu.interval = 0 then
        some (resultChain (reportFields d.stu.time (d.openTick.played d.fired))) else d.ntu.report := by
  have hopen := Ntu.postAll_frame d.stu.time ((if d.goHolds (d.firedLines d.pendingEdges) = true then
    [evStateChange .armed .running d.stu.time] else []) ++ captureEvents d.stu.captures d.tickRecords) d.ntu
  have hplay := Ntu.postAll_frame d.openTick.stu.time (d.openTick.tickEvents d.fired) d.openTick.ntu
  rw [← Device.openTick_ntu] at hopen
  have hinterval : (d.openTick.played d.fired).ntu.interval = d.ntu.interval := hplay.1.trans hopen.1
  have hreport : (d.openTick.played d.fired).ntu.report = d.ntu.report := hplay.2.trans hopen.2
  rw [Device.afterTick_eq]
  show (if (d.openTick.played d.fired).ntu.reportDue d.stu.time = true then _ else (d.openTick.played d.fired).ntu.report) = _
  rw [Ntu.reportDue, hinterval, hreport]
  simp only [Bool.and_eq_true, decide_eq_true_eq, and_assoc]

end Sys2Proof.Machine

open Sys2Proof Sys2Proof.Machine

/-- Settles O31: the RUNNING tick in its closed form, field by field. -/
theorem runningTickPlays : Obligations.RunningTickPlays := by
  intro s h fired turn sum
  have hplayed := s.dev.afterTick_eq
  have hopen := s.dev.openTick_stu
  have hturn : ∀ v, s.dev.openTick.turn .running s.dev.fired v = turn v := fun v => congrFun (Device.turn_openTick _ _ _) v
  have hvoice : ∀ v, s.dev.afterTick.voice v = (turn v).voice := by
    intro v
    rw [hplayed]
    show (Vector.ofFn fun v => (s.dev.openTick.turn .running s.dev.fired v).voice)[v] = _
    simp [hturn]
  have hstu : s.dev.afterTick.stu =
      { (s.dev.openTick.played s.dev.fired).stu with time := satAdd Config.timeMax s.dev.stu.time 1 } := by
    rw [hplayed]
    rfl
  have htakes : s.dev.afterTick.grant.tks.takes = s.dev.tks.takes := by
    rw [s.dev.afterTick.grant_directory.1, hplayed]
    exact congrArg Tks.takes s.dev.openTick_tks
  refine ⟨_, onDevice_eq (Device.sclkPeriod_of_runsNext h), ?scene, ?time, ?frozen, ?started, ?markers, ?voices, ?ports, ?lines, ?report, htakes,
    ?entries, ?power, ?replies⟩
  case scene =>
    rw [Device.grant_stu, hstu]
    exact (congrArg Stu.scene hopen).trans (s.dev.runsNext_iff.1 h).2.2
  case time =>
    rw [Device.grant_stu, hstu]
    rfl
  case frozen =>
    rw [Device.grant_stu, hstu]
    exact (congrArg Stu.frozen hopen).trans rfl
  case started =>
    rw [Device.grant_stu, hstu]
    show (s.dev.openTick.stu.cueStarted || allVoices.any fun v => (s.dev.openTick.turn .running s.dev.fired v).started) = _
    simp only [hturn, hopen]
  case markers =>
    rw [Device.grant_stu, hstu]
    show s.dev.openTick.stu.markers.filter (fun m => !decide (m.time ≤ s.dev.openTick.stu.time)) = _
    rw [hopen]
    refine List.filter_congr fun m _ => ?_
    rw [← decide_not, decide_eq_decide]
    exact Nat.not_le
  case voices =>
    intro v
    rw [← hvoice v]
    exact s.dev.afterTick.grant_voice v
  case ports =>
    intro p x scaled rounded mix clips
    rw [Device.port, Device.grant_ports, hplayed]
    show (Vector.ofFn fun i => (s.dev.openTick.port i).delivered .running (portSum i (s.dev.openTick.handed s.dev.fired)))[p] = _
    have hport : s.dev.openTick.port p = x := by rw [Device.port, Device.openTick_ports]; rfl
    have hsum : portSum p (s.dev.openTick.handed s.dev.fired) = ⟨sum p IQ.i, sum p IQ.q⟩ := by
      rw [Device.handed_openTick]
      exact Device.portSum_handed p s.dev.fired s.dev
    have hround : rounded = dacRounded x.width := by
      funext y
      cases hw : x.width <;> simp only [rounded, dacRounded, hw]
    have hclips : ∀ acc, clips acc ↔ componentClips x.width x.atten x.headroom acc := by
      intro acc
      simp only [clips, mix, hround]
      rfl
    have hmix : ∀ acc, mix acc = (mixComponent x.width x.atten x.headroom acc).1 := by
      intro acc
      simp only [mix, hround]
      rfl
    obtain ⟨hoff, hclear, hclip⟩ := x.delivered_running ⟨sum p IQ.i, sum p IQ.q⟩
    simp only [Fin.getElem_fin, Vector.getElem_ofFn]
    rw [show (⟨p.val, p.isLt⟩ : Fin 4) = p from rfl, hport, hsum]
    by_cases he : x.enable = true
    · rw [if_pos he]
      by_cases hc : clips (sum p IQ.i) ∨ clips (sum p IQ.q)
      · rw [if_pos hc, hmix, hmix]
        exact hclip he (hc.imp (hclips _).1 (hclips _).1)
      · rw [if_neg hc, hmix, hmix]
        exact hclear he (fun h => hc (h.imp (hclips _).2 (hclips _).2))
    · rw [if_neg he]
      exact hoff he
  case lines =>
    intro l x counted due y
    have hact : (fun (z : Line) (m : Marker) => m.action.act z) = fun z m => match m.action with
        | .set => { z with latch := true }
        | .clear => { z with latch := false }
        | .toggle => { z with latch := !z.latch }
        | .pulse w => { z with latch := true, pulse := w } := by
      funext z m
      cases m.action <;> rfl
    have hcounted : x.countPulse = counted := x.countPulse_eq
    have hy : x.countPulse.marked due = y := (congrArg (fun z : Line => z.marked due) hcounted).trans
      (congrArg (fun f => due.foldl f counted) hact)
    rw [Device.line, Device.grant_lines, hplayed]
    show (Vector.ofFn s.dev.openTick.ticked)[l] = _
    simp only [Fin.getElem_fin, Vector.getElem_ofFn]
    rw [show (⟨l.val, l.isLt⟩ : Fin 8) = l from rfl, Device.ticked_eq]
    show ({ x.countPulse.marked due with edges := if x.dir = .output ∧ x.latch ≠ (x.countPulse.marked due).latch then
      [if (x.countPulse.marked due).latch then .rise else .fall] else [] } : Line) = _
    rw [hy]
  case report =>
    have hreport := s.dev.afterTick_report
    have hfields : reportFields s.dev.stu.time s.dev.afterTick.grant = reportFields s.dev.stu.time (s.dev.openTick.played s.dev.fired) := by
      refine reportFields_congr _ (fun v => ?_) ?_
      · have hv : (s.dev.openTick.played s.dev.fired).voice v = s.dev.afterTick.voice v := by rw [hplayed]; rfl
        rw [hv]
        rcases s.dev.afterTick.grant_voice v with hg | ⟨r, -, hg⟩
        · exact ⟨_, hg⟩
        · exact ⟨_, hg⟩
      · rw [htakes]
        exact (congrArg Tks.takes s.dev.openTick_tks).symm
    rw [Device.grant_ntu, hreport, hfields]
  case entries =>
    rw [s.dev.afterTick.grant_directory.2, hplayed]
    exact congrArg Siu.entries s.dev.openTick_siu
  case power =>
    rw [Device.grant_pwc, hplayed]
    exact s.dev.openTick_pwc
  case replies =>
    rw [Device.grant_replyQ, hplayed]
    exact congrArg Bli.replyQ s.dev.openTick_bli
end

section
/-! PROOFS. What a RUNNING tick posts, and the ticks at which something falls due (O32, O33). -/

namespace Sys2Proof.Machine

/-! ### The events of a RUNNING tick (R16, R17, R90, R103) -/

/-- R178: a RUNNING tick posts its events, in order, with its T; nothing else changes the Notice Unit but a report. -/
theorem Device.afterTick_ntu (d : Device) :
    ∃ r, d.afterTick.ntu =
      { d.ntu.postAll d.stu.time (((if d.goHolds d.fired = true then [evStateChange .armed .running d.stu.time] else []) ++
          captureEvents d.stu.captures d.tickRecords) ++ d.openTick.tickEvents d.fired) with report := r } := by
  have ht : d.openTick.stu.time = d.stu.time := (congrArg Stu.time d.openTick_stu).trans rfl
  obtain ⟨r, hr⟩ : ∃ r, d.afterTick.ntu =
      { d.openTick.ntu.postAll d.openTick.stu.time (d.openTick.tickEvents d.fired) with report := r } :=
    ⟨_, congrArg Device.ntu d.afterTick_eq⟩
  refine ⟨r, ?_⟩
  rw [hr, Ntu.postAll_append, Device.openTick_ntu, ht]
  rfl

theorem Device.drained_iff (d : Device) :
    d.drained = true ↔ d.stu.cueStarted = true ∧ d.stu.drainedPosted = false ∧ ∀ v : Fin 32, (d.voice v).state = .idle := by
  simp only [Device.drained, Bool.and_eq_true, Bool.not_eq_true', List.all_eq_true, decide_eq_true_eq, and_assoc]
  exact and_congr_right fun _ => and_congr_right fun _ => ⟨fun h v => h v (mem_allVoices v), fun h v _ => h v⟩

theorem Device.drained_openTick (d : Device) : d.openTick.drained = d.drained := by
  have hs : d.openTick.stu.cueStarted = d.stu.cueStarted := (congrArg Stu.cueStarted d.openTick_stu).trans rfl
  have hp : d.openTick.stu.drainedPosted = d.stu.drainedPosted := (congrArg Stu.drainedPosted d.openTick_stu).trans rfl
  have hv : ∀ v, d.openTick.voice v = d.voice v := fun v => by rw [Device.voice, Device.openTick_voices]; rfl
  simp only [Device.drained, hv, hs, hp]

/-- R102: the edges of captured lines that a tick takes. -/
def Device.capturedEdges (d : Device) : List (Fin 8 × Edge) :=
  allLines.flatMap (fun l => if (d.line l).capture then (d.line l).edges.map (fun e => (l, e)) else [])

theorem Device.tickRecords_eq (d : Device) :
    d.tickRecords = d.capturedEdges.map (fun t => ⟨t.1, t.2, d.stu.time, d.tickKind d.fired⟩) := by
  rw [Device.tickRecords, Device.records_eq, Device.capturedEdges, List.map_flatMap]
  refine congrArg (fun f => allLines.flatMap f) (funext fun l => ?_)
  split
  · rw [List.map_map]
    rfl
  · rfl

/-- R103: the bytes of CAPTURE_PENDING for a record of a RUNNING tick. -/
theorem evCapturePending_eq (l : Fin 8) (e : Edge) (time : Nat) :
    evCapturePending ⟨l, e, time, .running⟩ =
      { source := 6, kind := 0, detail := [[leBytes 1 l.val ++ leBytes 1 e.code ++ leBytes 6 time ++ [2#8]]] } := by
  have hb : Capture.bytes ⟨l, e, time, .running⟩ = leBytes 1 l.val ++ leBytes 1 e.code ++ leBytes 6 time ++ [2#8] := by
    show leBytes 1 l.val ++ (leBytes 1 e.code ++ (leBytes 6 time ++ ([2#8] ++ []))) = _
    simp only [List.append_assoc, List.append_nil]
  rw [evCapturePending, hb]
  rfl

/-- R90: the item of a component that saturated. -/
theorem stageItem_eq (n : Nat) (st : Option ClipStage) :
    stageItem n st = match st with
      | some .port => [[BitVec.ofNat 8 n, 0#8]]
      | some .dac => [[BitVec.ofNat 8 n, 1#8]]
      | none => [] := by
  cases st with
  | none => rfl
  | some s => cases s <;> rfl

/-- R90: the CLIP event of a port at a RUNNING tick. -/
theorem Port.clips_running (p : Port) (i : Fin 4) (time : Nat) (sum : IQ) :
    let stageI := (mixComponent p.width p.atten p.headroom sum.i).2
    let stageQ := (mixComponent p.width p.atten p.headroom sum.q).2
    p.clips .running i time sum =
      if p.enable = true ∧ (stageI ≠ none ∨ stageQ ≠ none) then
        [{ source := srcPort i, kind := 0,
           detail := [[leBytes 6 time], stageItem 0 stageI ++ stageItem 1 stageQ, [leBytes 4 (min 4294967295 (p.clip + 1))]] }]
      else [] := by
  intro stageI stageQ
  have hclips : (p.mix sum).clips = true ↔ stageI ≠ none ∨ stageQ ≠ none := by
    rw [Mix.clips, Bool.or_eq_true, Option.isSome_iff_ne_none, Option.isSome_iff_ne_none]
    rfl
  rw [Port.clips, Port.delivered, Port.condition_running]
  by_cases he : p.enable = true
  · rw [if_pos he]
    show (if (p.mix sum).clips then
      [evClip i time (p.mix sum) (if (p.mix sum).clips then satAdd Config.max32 p.clip 1 else p.clip)] else []) = _
    by_cases hc : (p.mix sum).clips = true
    · rw [if_pos hc, if_pos hc, if_pos ⟨he, hclips.1 hc⟩]
      rfl
    · rw [if_neg hc, if_neg (fun h => hc (hclips.2 h.2))]
  · rw [if_neg he, if_neg (fun h => he h.1)]
    rfl

end Sys2Proof.Machine

open Sys2Proof Sys2Proof.Machine

/-- Settles O32: the events of the tick's opening, of DRAINED, of the voices and of the ports, in that order. -/
theorem runningTicksPost : Obligations.RunningTicksPost := by
  intro s h d time fired turn sum went records captured drains drained clip events
  have hk : d.tickKind d.fired = .running := (d.runsNext_iff.1 h).2.2
  have hwent : (if d.goHolds d.fired = true then [evStateChange .armed .running d.stu.time] else []) = went := by
    have hgoes : d.goHolds d.fired = true ↔ d.stu.scene = .armed := by
      refine ⟨Device.goHolds_armed, fun ha => ?_⟩
      by_contra hn
      rw [Device.tickKind, if_neg hn, ha] at hk
      cases hk
    simp only [went]
    by_cases ha : d.stu.scene = .armed
    · rw [if_pos (hgoes.2 ha), if_pos ha]
      rfl
    · rw [if_neg (mt hgoes.1 ha), if_neg ha]
  have hcaptured : captureEvents d.stu.captures d.tickRecords = captured := by
    have hr : d.tickRecords = records.map (fun t => ⟨t.1, t.2, d.stu.time, .running⟩) := by rw [d.tickRecords_eq, hk]; rfl
    rw [hr]
    simp only [captured]
    cases d.stu.captures with
    | cons c cs => rfl
    | nil =>
      cases records with
      | nil => rfl
      | cons t ts => exact congrArg (fun x => [x]) (evCapturePending_eq t.1 t.2 d.stu.time)
  have hdrained : (if d.openTick.drained then [evDrained d.openTick.stu.time] else []) = drained := by
    have ht : d.openTick.stu.time = d.stu.time := (congrArg Stu.time d.openTick_stu).trans rfl
    rw [ht, d.drained_openTick]
    simp only [drained]
    by_cases hd : drains
    · rw [if_pos (d.drained_iff.2 hd), if_pos hd]
      rfl
    · rw [if_neg (mt d.drained_iff.1 hd), if_neg hd]
  have hclip : allPorts.flatMap (fun i => (d.openTick.port i).clips .running i d.openTick.stu.time (portSum i (d.openTick.handed d.fired))) =
      [0, 1, 2, 3].flatMap clip := by
    have ht : d.openTick.stu.time = d.stu.time := (congrArg Stu.time d.openTick_stu).trans rfl
    refine congrArg (fun f => allPorts.flatMap f) (funext fun p => ?_)
    have hport : d.openTick.port p = d.port p := by rw [Device.port, Device.openTick_ports]; rfl
    have hsum : portSum p (d.openTick.handed d.fired) = ⟨sum p IQ.i, sum p IQ.q⟩ := by
      rw [Device.handed_openTick]
      exact Device.portSum_handed p d.fired d
    rw [hport, hsum, ht, Port.clips_running, stageItem_eq, stageItem_eq]
    rfl
  have hevents : ((if d.goHolds d.fired = true then [evStateChange .armed .running d.stu.time] else []) ++
      captureEvents d.stu.captures d.tickRecords) ++ d.openTick.tickEvents d.fired = events := by
    rw [hwent, hcaptured, Device.tickEvents, hdrained, hclip, Device.turn_openTick]
    simp only [events, List.append_assoc]
    rfl
  obtain ⟨r, hr⟩ := d.afterTick_ntu
  rw [hevents] at hr
  refine ⟨_, onDevice_eq (Device.sclkPeriod_of_runsNext h), ?_, ?_⟩
  · rw [Device.grant_ntu]
    show d.afterTick.ntu = { d.ntu.postAll d.stu.time events with report := d.afterTick.ntu.report }
    rw [hr]
  · rw [Device.grant_stu]
    show d.afterTick.stu.drainedPosted = _
    rw [d.afterTick_eq]
    show (d.openTick.stu.drainedPosted || d.openTick.drained) = _
    have hp : d.openTick.stu.drainedPosted = d.stu.drainedPosted := (congrArg Stu.drainedPosted d.openTick_stu).trans rfl
    rw [hp, d.drained_openTick]
    congr 1
    rw [Bool.eq_iff_iff, d.drained_iff, decide_eq_true_eq]
end

section
/-! PROOFS. A voice's turn at a RUNNING tick: what it reads, plays and hands (O35, O36). -/

namespace Sys2Proof.Machine

/-! ### What a voice reads of its slots and its cursor (R26, R43, R52, R63, R67) -/

theorem Voice.headRequested_eq (v : Voice) : v.headRequested = match v.cursor with
    | .atTarget i _ _ _ => decide (0 < i)
    | .held i _ _ => decide (0 < i)
    | _ => true := by
  unfold Voice.headRequested
  cases v.cursor <;> rfl

theorem Slot.filled_iff (s : Slot) : s.filled = true ↔ s.status ≠ none := Option.isSome_iff_ne_none

theorem Voice.headReady_iff (v : Voice) : v.headReady = true ↔ ∃ u us, v.slots = u :: us ∧ u.cue = 0 ∧ u.status ≠ none := by
  unfold Voice.headReady
  cases hs : v.slots with
  | nil => simp
  | cons s ss => simp [Slot.filled_iff]

theorem Voice.headSpent_iff (v : Voice) : v.headSpent = true ↔ v.headRequested = true ∧ ∀ s ∈ v.slots, s.cue ≠ 0 := by
  rw [Voice.headSpent, Bool.and_eq_true, List.isEmpty_iff, Voice.headSlots, List.filter_eq_nil_iff]
  simp only [decide_eq_true_eq]

theorem Voice.headHeld_iff (v : Voice) : v.headHeld = true ↔ v.headRequested = true ∧ ∀ s ∈ v.slots, s.cue = 0 → s.status ≠ none := by
  rw [Voice.headHeld, Bool.and_eq_true, List.all_eq_true, Voice.headSlots]
  simp only [List.mem_filter, decide_eq_true_eq, Slot.filled_iff, and_imp]

theorem Voice.primed_iff (v : Voice) :
    v.primed = true ↔ v.primeDepth ≤ (v.slots.filter (fun s => s.status.isSome)).length ∨ v.headHeld = true := by
  rw [Voice.primed, Bool.or_eq_true, decide_eq_true_eq]
  exact Iff.rfl

theorem Voice.resumable_iff (v : Voice) :
    v.resumable = true ↔ v.resumeDepth ≤ (v.slots.filter (fun s => s.status.isSome)).length ∨ v.headHeld = true := by
  rw [Voice.resumable, Bool.or_eq_true, decide_eq_true_eq]
  exact Iff.rfl

theorem Voice.withSlots_eq (v : Voice) (slots : List Slot) :
    v.withSlots slots = { v with slots := slots, req := if ∃ s ∈ slots, s.status = none then v.req else .none } := by
  rw [← Voice.withSlots_req]
  rfl

/-! ### A played sample (R31, R51, R65, R83) -/

/-- R83: the attenuation code and the ramp of a voice after a counted sample. -/
def Voice.counted (v : Voice) : Nat × Option Ramp :=
  match v.ramp with
  | none => (v.atten, none)
  | some r =>
    if r.counter + 1 < r.interval then (v.atten, some { r with counter := r.counter + 1 })
    else
      let a := stepToward v.atten r.target
      (a, if a = r.target then none else some { r with counter := 0 })

theorem Voice.countRamp_eq (v : Voice) : v.countRamp = { v with atten := v.counted.1, ramp := v.counted.2 } := by
  unfold Voice.countRamp Voice.counted
  cases hr : v.ramp with
  | none =>
    dsimp only
    rw [← hr]
  | some r =>
    dsimp only
    by_cases h : r.counter + 1 < r.interval
    · rw [if_pos h, if_pos h]
    · rw [if_neg h, if_neg h]

theorem Voice.consume_eq (s : Slot) (rest : List Slot) (v : Voice) :
    v.consume s rest = { v with
      state := .playing, lastOut := v.sampleOut s, phase := v.phase + v.freq, atten := v.counted.1, ramp := v.counted.2,
      slots := playSlot s rest, req := if ∃ u ∈ playSlot s rest, u.status = none then v.req else .none } := by
  rw [Voice.consume, Voice.countRamp_eq, Voice.withSlots_eq]
  rfl

theorem Voice.advance_resident {c : Cue} {l : Nat} {k : Bool} (h : c.verdict = .resident l k) (v : Voice) :
    v.advance c = { v with
      pass := if v.offset + 1 < l then v.pass else min 4294967295 (v.pass + 1)
      offset := if v.offset + 1 < l then v.offset + 1 else 0 } := by
  simp only [Voice.advance, h, advanceResident]
  by_cases hl : v.offset + 1 < l
  · rw [if_pos hl, if_pos hl, if_pos hl]
  · rw [if_neg hl, if_neg hl, if_neg hl]
    rfl

theorem Voice.advance_ring {c : Cue} {b : BlockNo} (h : c.verdict = .ring b) (v : Voice) :
    v.advance c = { v with offset := v.offset + 1 } := by
  simp only [Voice.advance, h]

/-- R23: the rest output. -/
theorem Voice.restOut_eq (v : Voice) : v.restOut = match v.rest with
    | .zero => ⟨0, 0⟩
    | .held => v.lastOut := by
  unfold Voice.restOut
  cases v.rest <;> rfl

/-- R24: the conceal output. -/
theorem Voice.concealOut_eq (v : Voice) : v.concealOut = match v.conceal with
    | .zero => ⟨0, 0⟩
    | .hold => v.lastOut := by
  unfold Voice.concealOut
  cases v.conceal <;> rfl

/-- R65, R73: a VALID block's sample is rotated and scaled, every other is concealed. -/
theorem Voice.sampleOut_eq {s : Slot} {st : BlockStatus} (v : Voice) (h : s.status = some st)
    (hp : st = .valid → s.played < s.samples.length) :
    v.sampleOut s = if st = .valid then voiceOutput (s.samples.getD s.played ⟨0, 0⟩) v.phase v.atten else v.concealOut := by
  unfold Voice.sampleOut
  rw [h]
  cases st with
  | valid =>
    have hlt := hp rfl
    rw [if_pos rfl, List.getElem?_eq_getElem hlt, List.getD_eq_getElem?_getD, List.getElem?_eq_getElem hlt]
    rfl
  | absent => rfl
  | corrupt => rfl

/-! ### The turn (R22) -/

theorem Voice.runningTick_empty {v : Voice} (x : Ctx) (fired : List (Fin 8)) (h : v.cues = []) :
    v.runningTick x fired = ⟨v, v.restOut, [], false⟩ := by
  unfold Voice.runningTick
  rw [h]

theorem Voice.runningTick_priming {v : Voice} {c : Cue} {cs : List Cue} (x : Ctx) (fired : List (Fin 8)) (h : v.cues = c :: cs)
    (hs : v.state = .priming) : v.runningTick x fired = ⟨v, v.restOut, [], false⟩ := by
  unfold Voice.runningTick
  rw [h, hs]

theorem Voice.runningTick_waiting {v : Voice} {c : Cue} {cs : List Cue} (x : Ctx) (fired : List (Fin 8)) (h : v.cues = c :: cs)
    (hs : v.state = .waiting) : v.runningTick x fired = v.waitingTick x fired c := by
  unfold Voice.runningTick
  rw [h, hs]

theorem Voice.runningTick_playing {v : Voice} {c : Cue} {cs : List Cue} (x : Ctx) (fired : List (Fin 8)) (h : v.cues = c :: cs)
    (hs : v.state = .playing) (hb : v.started = true) : v.runningTick x fired = v.playOrStarve x c := by
  unfold Voice.runningTick
  rw [h, hs, hb]
  rfl

/-- R43: a gapless succession. -/
theorem Voice.runningTick_succession {v : Voice} {c : Cue} {cs : List Cue} (x : Ctx) (fired : List (Fin 8)) (h : v.cues = c :: cs)
    (hs : v.state = .playing) (hb : v.started = false) : v.runningTick x fired = v.startCue x c false [] := by
  unfold Voice.runningTick
  rw [h, hs, hb]
  rfl

theorem Voice.runningTick_starved {v : Voice} {c : Cue} {cs : List Cue} (x : Ctx) (fired : List (Fin 8)) (h : v.cues = c :: cs)
    (hs : v.state = .starved) : v.runningTick x fired = v.starve x c := by
  unfold Voice.runningTick
  rw [h, hs]

/-- R65: a voice with its next sample in a FILLED slot plays it. -/
theorem Voice.playOrStarve_ready {v : Voice} {u : Slot} {us : List Slot} (x : Ctx) (c : Cue) (hs : v.slots = u :: us)
    (hr : v.headReady = true) : v.playOrStarve x c = v.playFrom x c u us := by
  unfold Voice.playOrStarve
  rw [hs]
  exact if_pos hr

/-- R66: a voice without starves. -/
theorem Voice.playOrStarve_unready {v : Voice} (x : Ctx) (c : Cue) (hr : ¬ v.headReady = true) : v.playOrStarve x c = v.starve x c := by
  unfold Voice.playOrStarve
  cases hs : v.slots with
  | nil => rfl
  | cons u us => exact if_neg hr

theorem Voice.playFrom_spent {v : Voice} {u : Slot} {us : List Slot} (x : Ctx) (c : Cue) (h : (v.consume u us).headSpent = true) :
    v.playFrom x c u us =
      ⟨((v.consume u us).endCue x c (v.consume u us).pass .complete).1, v.sampleOut u,
        ((v.consume u us).endCue x c (v.consume u us).pass .complete).2, false⟩ := by
  have hp : (v.consume u us).pass = v.pass := by rw [Voice.consume_eq]
  rw [hp]
  exact if_pos h

theorem Voice.playFrom_unspent {v : Voice} {u : Slot} {us : List Slot} (x : Ctx) (c : Cue) (h : ¬ (v.consume u us).headSpent = true) :
    v.playFrom x c u us = ⟨(v.consume u us).advance c, v.sampleOut u, [], false⟩ := if_neg h

/-! ### Cue starts (R37 to R41) -/

/-- R41, R82: the ramp of a starting cue and the code it starts from. -/
theorem Voice.startRamp_eq (c : Cue) (v : Voice) :
    v.startRamp c = { v with
      atten := (match c.ramp with
        | some (g, 0) => g
        | _ => v.atten)
      ramp := (match c.ramp with
        | none => v.ramp
        | some (g, n) => if n = 0 ∨ v.atten = g then none else some ⟨g, n, 0⟩) } := by
  unfold Voice.startRamp
  cases c.ramp with
  | none => rfl
  | some gn =>
    obtain ⟨g, n⟩ := gn
    show v.beginRamp g n = _
    unfold Voice.beginRamp
    cases n with
    | zero => rfl
    | succ n =>
      rw [if_neg (Nat.succ_ne_zero n)]
      by_cases hg : v.atten = g
      · simp [hg]
      · simp [hg]

/-- R41: the start actions, field by field. -/
theorem Voice.startActions_eq (c : Cue) (v : Voice) :
    v.startActions c = { v with
      atten := (match c.ramp with
        | some (g, 0) => g
        | _ => c.entry.getD v.atten)
      ramp := (match c.ramp with
        | none => v.ramp
        | some (g, n) => if n = 0 ∨ c.entry.getD v.atten = g then none else some ⟨g, n, 0⟩)
      freq := c.freq
      phase := (match c.phase with
        | none => v.phase
        | some q => BitVec.ofNat 32 (q.toNat * 65536))
      starvedTicks := 0
      started := true } := by
  cases hp : c.phase <;> simp only [Voice.startActions, hp, Voice.startRamp_eq]

theorem Cue.clamped_eq (c : Cue) : c.clamped = match c.verdict with
    | .resident _ k => k
    | _ => false := by
  unfold Cue.clamped
  cases c.verdict <;> rfl

theorem Cue.allPasses_eq (c : Cue) : c.allPasses = match c.verdict with
    | .resident _ _ => c.count
    | _ => 1 := by
  unfold Cue.allPasses
  cases c.verdict <;> rfl

/-- A voice that plays. -/
def Voice.nowPlaying (v : Voice) : Voice := { v with state := .playing }

/-- R65, R66: a voice's state matters to its tick only when it is STARVED already. -/
theorem Voice.playOrStarve_state (x : Ctx) (c : Cue) {v : Voice} (h : v.state ≠ .starved) :
    v.nowPlaying.playOrStarve x c = v.playOrStarve x c := by
  have hstarve : v.nowPlaying.starve x c = v.starve x c := by
    unfold Voice.starve Voice.nowPlaying
    dsimp only
    rw [if_neg h, if_neg nofun]
    rfl
  by_cases hr : v.headReady = true
  · obtain ⟨u, us, hu, -⟩ := v.headReady_iff.1 hr
    rw [Voice.playOrStarve_ready x c (v := v.nowPlaying) hu hr, Voice.playOrStarve_ready x c hu hr]
    rfl
  · rw [Voice.playOrStarve_unready x c (v := v.nowPlaying) hr, Voice.playOrStarve_unready x c hr, hstarve]

/-- R41: a start is the tick of a begun head, its own events beside. -/
theorem Voice.startCue_eq {v : Voice} {c : Cue} {cs : List Cue} (x : Ctx) (fired : List (Fin 8)) (late : Bool) (before : List Event)
    (hc : v.cues = c :: cs) (hs : v.state ≠ .starved) :
    v.startCue x c late before =
      ((v.startActions c).nowPlaying.runningTick x fired).withStart (before ++ startEvents x c late v) := by
  have hcues : (v.startActions c).cues = c :: cs := by
    rw [Voice.startActions_eq]
    exact hc
  have hstate : (v.startActions c).state ≠ .starved := by
    rw [Voice.startActions_eq]
    exact hs
  rw [Voice.runningTick_playing (v := (v.startActions c).nowPlaying) x fired hcues rfl rfl, Voice.playOrStarve_state x c hstate, Voice.startCue]

end Sys2Proof.Machine

open Sys2Proof Sys2Proof.Machine

/-- Settles O35: the turn by the voice's state, and a played sample by what it leaves of the slots. -/
theorem voicesPlayOrStarve : Obligations.VoicesPlayOrStarve := by
  refine ⟨fun x fired v => ⟨rfl, fun hc hr => ?_, fun hc hr => ?_⟩, fun x fired v c cs hc => ?turn⟩
  · rw [Voice.runningTick_empty x fired hc, v.restOut_eq, hr]
  · rw [Voice.runningTick_empty x fired hc, v.restOut_eq, hr]
  case turn =>
    intro conceal rest
    have hrest : v.restOut = rest := v.restOut_eq
    have hconceal : v.concealOut = conceal := v.concealOut_eq
    refine ⟨fun t hs hm ht => ?waits, fun hs => ?primes, fun u us st hs hb hu hcue hst hp => ?plays, fun hb hs hno => ?starves⟩
    case waits =>
      rw [Voice.runningTick_waiting x fired hc hs, Voice.waitingTick, hm, startOf, if_pos ht, hrest]
    case primes =>
      rw [Voice.runningTick_priming x fired hc hs, hrest]
    case plays =>
      intro out counted slots w fetched spent
      have hout : v.sampleOut u = out := by rw [v.sampleOut_eq hst hp, hconceal]
      have hcounted : v.counted = counted := rfl
      have hready : v.headReady = true := v.headReady_iff.2 ⟨u, us, hu, hcue, by rw [hst]; exact nofun⟩
      have hw : v.consume u us = w := by
        rw [v.consume_eq, hout, hcounted]
        simp only [w, ← hs]
        rfl
      have hspent : (v.consume u us).headSpent = true ↔ spent := by
        have h := (v.consume u us).headSpent_iff
        rw [Voice.headRequested_eq, hw] at h
        rw [hw]
        exact h
      have hplay : v.runningTick x fired = v.playFrom x c u us :=
        (Voice.runningTick_playing x fired hc hs hb).trans (Voice.playOrStarve_ready x c hu hready)
      refine ⟨fun h => ?_, fun h => ⟨fun l k hv => ?_, fun b hv => ?_⟩⟩
      · intro e
        rw [hplay, Voice.playFrom_spent x c (hspent.2 h), hw, hout]
      · rw [hplay, Voice.playFrom_unspent x c (mt hspent.1 h), hw, hout, Voice.advance_resident hv]
      · rw [hplay, Voice.playFrom_unspent x c (mt hspent.1 h), hw, hout, Voice.advance_ring hv]
    case starves =>
      intro w
      have hstarve : v.runningTick x fired = v.starve x c := by
        rcases hs with hs | hs
        · rw [Voice.runningTick_playing x fired hc hs hb]
          refine Voice.playOrStarve_unready x c fun hr => ?_
          obtain ⟨u, us, hu, h0, hf⟩ := v.headReady_iff.1 hr
          rcases hno with h | h | ⟨u', us', h, hn⟩
          · rw [hs] at h
            cases h
          · rw [hu] at h
            cases h
          · rw [hu] at h
            cases h
            exact hn.elim (fun k => k h0) hf
        · exact Voice.runningTick_starved x fired hc hs
      rw [hstarve, Voice.starve, hconceal]
      rfl

/-- Settles O36: the start by its condition, and the start itself as the tick of a begun head. -/
theorem cuesStart : Obligations.CuesStart := by
  intro x fired v c cs hc flag head clamped begun start rest
  have hrest : v.restOut = rest := v.restOut_eq
  have hclamped : c.clamped = clamped := c.clamped_eq
  have hbegun : ∀ u : Voice, (u.startActions c).nowPlaying = begun u := by
    intro u
    exact (congrArg Voice.nowPlaying (u.startActions_eq c)).trans rfl
  have hown : ∀ (late : Bool) (u : Voice), startEvents x c late u = if c.notifyStart then
      [{ source := x.src, kind := 0, detail := head ++ [[leBytes 4 u.pass], [flag clamped], [flag late]] }] else [] := by
    intro late u
    have hflag : ∀ b : Bool, flagByte b = flag b := by
      intro b
      cases b <;> rfl
    unfold startEvents
    by_cases hn : c.notifyStart = true
    · rw [if_pos hn, if_pos hn, evCueStart, hclamped, hflag, hflag]
      rfl
    · rw [if_neg hn, if_neg hn]
  have hstart : ∀ (before : List Event) (late : Bool) (u : Voice), u.cues = c :: cs → u.state ≠ .starved →
      u.startCue x c late before = start before late u := by
    intro before late u hu hs
    rw [Voice.startCue_eq x fired late before hu hs, hbegun, hown]
    rfl
  refine ⟨fun hs hb => ?_, fun hs => ⟨fun hm => ?follow, fun l hm => ?line, fun t hm => ?time⟩⟩
  · rw [Voice.runningTick_succession x fired hc hs hb]
    exact hstart [] false v hc (by rw [hs]; exact nofun)
  all_goals
    have hwait := Voice.runningTick_waiting x fired hc hs
    have hns : v.state ≠ .starved := by rw [hs]; exact nofun
    rw [Voice.waitingTick, hm] at hwait
  case follow => exact hwait.trans (hstart [] false v hc hns)
  case line =>
    rw [startOf] at hwait
    by_cases hl : l ∈ fired
    · rw [if_pos hl]
      rw [if_pos (List.contains_iff_mem.2 hl)] at hwait
      exact hwait.trans (hstart [] false v hc hns)
    · rw [if_neg hl]
      rw [if_neg (mt List.contains_iff_mem.1 hl)] at hwait
      exact hwait.trans (by rw [hrest])
  case time =>
    intro lateStart
    rw [startOf] at hwait
    have hlate : t < x.time → v.runningTick x fired = v.startLate x c (x.time - t) := fun h => by
      rw [if_neg (by omega), if_neg (by omega)] at hwait
      exact hwait
    have hevent : t < x.time → evLateStart x c (x.time - (x.time - t)) (x.time - t) v.timeMode = lateStart := fun h => by
      rw [show x.time - (x.time - t) = t by omega]
      rfl
    refine ⟨fun h => ?_, fun h => ?_, fun h hm => ?_, fun h hm => ⟨fun made w hk => ?_, fun made hk => ?_⟩⟩
    · rw [if_pos h] at hwait
      rw [hwait, hrest]
    · rw [if_neg (by omega), if_pos h] at hwait
      exact hwait.trans (hstart [] false v hc hns)
    · rw [hlate h, Voice.startLate, hevent h, hm]
      exact hstart [lateStart] true v hc hns
    · obtain ⟨hstate, hcues, -⟩ := Voice.skip_moved hk
      rw [hlate h, Voice.startLate, hevent h, hm]
      dsimp only
      rw [Voice.startKept, hk]
      exact hstart [lateStart] true w (hcues.trans hc) (by rw [hstate]; exact hns)
    · intro passes e
      have hpasses : c.allPasses = passes := c.allPasses_eq
      rw [hlate h, Voice.startLate, hevent h, hm]
      dsimp only
      rw [Voice.startKept, hk]
      dsimp only
      rw [hpasses, hrest]
      rfl
end

section
/-! PROOFS. The ticks at which something falls due, and the fields of a report (O33). -/

namespace Sys2Proof.Machine

/-! ### The attenuation code through the end of a cue (R42, R43) -/

theorem Voice.removeHead_atten (takes : Vector Take 64) (v : Voice) : (v.removeHead takes).atten = v.atten := by
  obtain ⟨u, -, -, ha, -, hw⟩ := v.removeHead_shape takes
  rw [hw.atten, ha]

theorem takeHead_atten (x : Ctx) (fuel : Nat) (v : Voice) : (takeHead x fuel v).1.atten = v.atten := by
  induction fuel generalizing v with
  | zero => rfl
  | succ fuel ih =>
    unfold takeHead
    split
    · rfl
    · split
      · exact (ih _).trans (Voice.removeHead_atten ..)
      · rfl

/-- R42: the end of a cue keeps the attenuation code. -/
theorem Voice.endCue_atten (x : Ctx) (c : Cue) (passes : Nat) (how : EndHow) (v : Voice) : (v.endCue x c passes how).1.atten = v.atten := by
  rw [Voice.endCue_voice, Voice.settleHead, takeHead_atten, Voice.removeHead_atten]
  rfl

/-- R65, R83: what playing a sample makes of the attenuation code, the cue ended at it or not. -/
theorem Voice.playFrom_atten (x : Ctx) (c : Cue) (u : Slot) (us : List Slot) (v : Voice) :
    (v.playFrom x c u us).voice.atten = v.counted.1 := by
  have hconsume : (v.consume u us).atten = v.counted.1 := by rw [Voice.consume_eq]
  by_cases h : (v.consume u us).headSpent = true
  · rw [Voice.playFrom_spent x c h]
    exact (Voice.endCue_atten x c (v.consume u us).pass .complete (v.consume u us)).trans hconsume
  · rw [Voice.playFrom_unspent x c h]
    exact (Voice.advance_walked c _).atten.trans hconsume

/-! ### A tick at which something falls due (assumption logs 3 and 4) -/

/-- R3: a command that stands for a due tick leaves the state when nothing is due. -/
theorem onDevice_tickIf_false {due : Device → Bool} {s : State} (h : due s.dev = false) :
    onDevice (fun d => d.tickIf (due d)) s = .next s := by
  rw [onDevice, h]
  rfl

/-- R3: and is the scene tick when something is. -/
theorem onDevice_tickIf_true {due : Device → Bool} {s : State} (h : due s.dev = true) (hr : s.dev.runsNext = true) :
    onDevice (fun d => d.tickIf (due d)) s = .next (s.setDev s.dev.afterTick.grant) := by
  refine onDevice_eq ?_
  rw [h]
  exact Device.sceneTick_of_runsNext hr

/-- R83: a PLAYING voice's ramp steps at the next tick exactly when its counter comes to the interval. -/
theorem Device.stepDue_iff {d : Device} {v : Fin 32} {c : Cue} {cs : List Cue} {r : Ramp} (hc : (d.voice v).cues = c :: cs)
    (hs : (d.voice v).state = .playing) (hb : (d.voice v).started = true) (hh : (d.voice v).headReady = true)
    (hr : (d.voice v).ramp = some r) (hn : d.runsNext = true) : d.stepDue v = decide (r.interval ≤ r.counter + 1) := by
  rw [Device.stepDue, hn, Bool.true_and, Voice.rampDue, hc, hs]
  dsimp only
  rw [if_pos hb, Voice.rampReaches, hh, hr]
  rfl

/-! ### The fields of a report (R182) -/

/-- R182: a report reads the state as its tick leaves it, the grant after it included. -/
theorem Device.reportFields_afterTick (d : Device) :
    reportFields d.stu.time d.afterTick.grant = reportFields d.stu.time (d.openTick.played d.fired) := by
  have hplayed := d.afterTick_eq
  refine reportFields_congr _ (fun v => ?_) ?_
  · have hv : (d.openTick.played d.fired).voice v = d.afterTick.voice v := by rw [hplayed]; rfl
    rw [hv]
    rcases d.afterTick.grant_voice v with hg | ⟨r, -, hg⟩
    · exact ⟨_, hg⟩
    · exact ⟨_, hg⟩
  · rw [d.afterTick.grant_directory.1, hplayed]
    rfl

theorem reportRing_eq (t : Fin 64) (k : Take) : reportRing t k = leBytes 1 t.val ++ match k.ring with
    | some r => 0#8 :: leBytes 4 r.w.toNat
    | none => [1#8] := by
  unfold reportRing
  cases k.ring <;> simp [record, leBytes]

/-- R182: a voice's record of a report, about what it says of the head. -/
def voiceReport (i : Fin 32) (v : Voice) (middle : List Byte) : List Byte :=
  leBytes 1 i.val ++ leBytes 1 v.state.code ++ middle ++ leBytes 1 v.filledCount

theorem reportVoice_empty (i : Fin 32) {v : Voice} (h : v.cues = []) : reportVoice i v = voiceReport i v [] := by
  unfold reportVoice
  rw [h]
  simp [record, voiceReport]

theorem reportVoice_waiting (i : Fin 32) {v : Voice} {c : Cue} {cs : List Cue} (h : v.cues = c :: cs) (hb : v.started = false) :
    reportVoice i v = voiceReport i v (leBytes 2 c.label.toNat) := by
  unfold reportVoice
  rw [h, hb]
  simp [record, voiceReport, partsIf]

theorem reportVoice_begun (i : Fin 32) {v : Voice} {c : Cue} {cs : List Cue} (h : v.cues = c :: cs) (hb : v.started = true) :
    reportVoice i v = voiceReport i v (leBytes 2 c.label.toNat ++ leBytes 1 c.take.val ++ leBytes 4 v.nextBlock.toNat) := by
  unfold reportVoice
  rw [h, hb]
  simp [record, voiceReport, partsIf]

theorem Voice.nextBlock_slot {v : Voice} {u : Slot} {us : List Slot} (h : v.headSlots = u :: us) : v.nextBlock = u.block := by
  unfold Voice.nextBlock
  rw [h]

theorem Voice.nextBlock_target {v : Voice} {k p least : Nat} {b : BlockNo} (h : v.headSlots = []) (hc : v.cursor = .atTarget k p b least) :
    v.nextBlock = b := by
  unfold Voice.nextBlock
  rw [h, hc]

theorem Voice.nextBlock_held {v : Voice} {k p : Nat} {b : BlockNo} (h : v.headSlots = []) (hc : v.cursor = .held k p (some b)) :
    v.nextBlock = b := by
  unfold Voice.nextBlock
  rw [h, hc]

theorem Voice.filledCount_eq (v : Voice) : v.filledCount = (v.slots.filter (fun u => decide (u.status ≠ none))).length := by
  refine congrArg List.length (List.filter_congr fun u _ => ?_)
  rw [Bool.eq_iff_iff, Slot.filled_iff, decide_eq_true_eq]

theorem VoiceState.code_bytes (st : VoiceState) : leBytes 1 st.code = [match st with
    | .idle => 0#8
    | .priming => 1#8
    | .waiting => 2#8
    | .playing => 3#8
    | .starved => 4#8] := by
  cases st <;> rfl

end Sys2Proof.Machine

open Sys2Proof Sys2Proof.Machine

/-- Settles O33: each due command as the tick it stands for, and the report's records field by field. -/
theorem dueTicksAct : Obligations.DueTicksAct := by
  refine ⟨fun s => ⟨fun l => ⟨onDevice_tickIf_false (due := fun d => d.pulseDue l), fun h hm => ?pulse⟩,
    fun v c cs r hc hs hb hh hr hn => ⟨fun hlt => ?counts, fun hle => ?steps⟩, onDevice_tickIf_false (due := Device.reportNext), fun h => ?report⟩,
    fun time d => ?fields, fun i v => ?record⟩
  case pulse =>
    obtain ⟨hn, hp⟩ := Bool.and_eq_true_iff.1 h
    rw [decide_eq_true_eq] at hp
    have hnone : s.dev.stu.markers.filter (fun m => decide (m.line = l ∧ m.time ≤ s.dev.stu.time)) = [] := by
      refine List.filter_eq_nil_iff.2 fun m hmem => ?_
      rw [decide_eq_true_eq]
      exact fun ⟨hl, ht⟩ => absurd ht (Nat.not_le.2 (hm m hmem hl))
    have hline : s.dev.afterTick.grant.line l = s.dev.openTick.ticked l := by
      rw [Device.line, Device.grant_lines, Device.afterTick_eq]
      show (Vector.ofFn s.dev.openTick.ticked)[l] = _
      simp only [Fin.getElem_fin, Vector.getElem_ofFn]
    have hcount : (s.dev.line l).countPulse = { s.dev.line l with pulse := 0, latch := false } := by
      rw [Line.countPulse_eq, hp]
      rfl
    refine ⟨_, onDevice_tickIf_true (due := fun d => d.pulseDue l) h hn, onDevice_eq (Device.sclkPeriod_of_runsNext hn), ?_, ?_⟩
    · rw [hline, Device.ticked_eq, hnone, hcount]
      rfl
    · rw [hline, Device.ticked_eq, hnone, hcount]
      rfl
  case counts =>
    refine onDevice_tickIf_false (due := fun d => d.stepDue v) ?_
    rw [Device.stepDue_iff hc hs hb hh hr hn, decide_eq_false_iff_not]
    omega
  case steps =>
    have hdue : s.dev.stepDue v = true := by rw [Device.stepDue_iff hc hs hb hh hr hn, decide_eq_true_eq]; exact hle
    refine ⟨_, onDevice_tickIf_true (due := fun d => d.stepDue v) hdue hn, onDevice_eq (Device.sclkPeriod_of_runsNext hn), ?_⟩
    obtain ⟨u, us, hu, -⟩ := (s.dev.voice v).headReady_iff.1 hh
    have hturn : (s.dev.turn .running s.dev.fired v).voice.atten = (s.dev.voice v).counted.1 := by
      show ((((s.dev.voice v).runningTick (s.dev.ctx v) s.dev.fired).voice.request (s.dev.ctx v)).1).atten = _
      rw [(Voice.request_walked _ _).atten, Voice.runningTick_playing _ _ hc hs hb, Voice.playOrStarve_ready _ _ hu hh, Voice.playFrom_atten]
    have hvoice : s.dev.afterTick.voice v = (s.dev.turn .running s.dev.fired v).voice := by
      rw [Device.afterTick_eq]
      show (Vector.ofFn fun v => (s.dev.openTick.turn .running s.dev.fired v).voice)[v] = _
      simp only [Fin.getElem_fin, Vector.getElem_ofFn, Device.turn_openTick]
    have hcounted : (s.dev.voice v).counted.1 = stepToward (s.dev.voice v).atten r.target := by
      rw [Voice.counted, hr]
      exact congrArg Prod.fst (if_neg (by omega))
    have hgrant : (s.dev.afterTick.grant.voice v).atten = (s.dev.afterTick.voice v).atten := by
      rcases s.dev.afterTick.grant_voice v with hg | ⟨q, -, hg⟩
      · rw [hg]
      · rw [hg]
    rw [hgrant, hvoice, hturn, hcounted]
    rfl
  case report =>
    obtain ⟨hn, hdue⟩ := Bool.and_eq_true_iff.1 h
    refine ⟨_, onDevice_tickIf_true (due := Device.reportNext) h hn, onDevice_eq (Device.sclkPeriod_of_runsNext hn), ?_⟩
    simp only [Ntu.reportDue, Bool.and_eq_true, decide_eq_true_eq, and_assoc] at hdue
    rw [Device.grant_ntu, Device.afterTick_report, if_pos hdue, Device.reportFields_afterTick]
  case fields =>
    simp only [reportFields, reportRing_eq]
    rfl
  case record =>
    intro state record own
    have hrecord : ∀ middle, voiceReport i v middle = record middle := fun middle =>
      congrArg₂ (fun st n => leBytes 1 i.val ++ st ++ middle ++ leBytes 1 n) v.state.code_bytes v.filledCount_eq
    have hown : v.headSlots = own := rfl
    refine ⟨fun hc => ?_, fun c cs hc hb => ?_, fun c cs hc hb => ⟨fun u us ho => ?_, fun k p b least ho hcur => ?_, fun k p b ho hcur => ?_⟩⟩
    · rw [reportVoice_empty i hc, hrecord]
    · rw [reportVoice_waiting i hc hb, hrecord]
    · rw [reportVoice_begun i hc hb, hrecord, Voice.nextBlock_slot (hown.trans ho)]
    · rw [reportVoice_begun i hc hb, hrecord, Voice.nextBlock_target (hown.trans ho) hcur]
    · rw [reportVoice_begun i hc hb, hrecord, Voice.nextBlock_held (hown.trans ho) hcur]
end

section
/-! PROOFS. The end of a cue and the head that follows (O37). -/

namespace Sys2Proof.Machine

/-! ### The head leaves the list (R43, R55) -/

/-- R43: the slots that the removal of the head keeps, counted from the new head. -/
def Voice.keptSlots (v : Voice) : List Slot := (v.slots.filter (fun s => decide (s.cue ≠ 0))).map Slot.shifted

/-- R43: a voice without its head, its cursor not yet moved. -/
def Voice.beheaded (v : Voice) : Voice :=
  { v with
    slots := v.keptSlots, req := if ∃ u ∈ v.keptSlots, u.status = none then v.req else .none
    cues := v.cues.tail, started := false, pass := 1, offset := 0 }

theorem Voice.removeHead_eq (takes : Vector Take 64) (v : Voice) :
    v.removeHead takes =
      match v.cursor.cue with
      | none => v.beheaded.arrive takes 0
      | some 0 => v.beheaded.arrive takes 0
      | some (_ + 1) => { v.beheaded with cursor := v.cursor.shifted } := by
  have h : ({ v.withSlots ((v.slots.filter (fun s => decide (s.cue ≠ 0))).map Slot.shifted) with
      cues := v.cues.tail, started := false, pass := 1, offset := 0 } : Voice) = v.beheaded := by
    rw [Voice.withSlots_eq]
    rfl
  unfold Voice.removeHead
  dsimp only
  cases v.cursor.cue with
  | none => exact congrArg (Voice.arrive takes 0) h
  | some k =>
    cases k with
    | zero => exact congrArg (Voice.arrive takes 0) h
    | succ k => exact congrArg (fun w : Voice => { w with cursor := v.cursor.shifted }) h

/-- R55: a cursor on a later cue stays on it. -/
theorem Voice.removeHead_later {takes : Vector Take 64} {v : Voice} {k : Nat} (h : v.cursor.cue = some (k + 1)) :
    v.removeHead takes = { v.beheaded with cursor := v.cursor.shifted } := by
  rw [Voice.removeHead_eq, h]

/-- R55: a cursor on the head moves on to the cue that follows. -/
theorem Voice.removeHead_here {takes : Vector Take 64} {v : Voice} (h : v.cursor.cue = none ∨ v.cursor.cue = some 0) :
    v.removeHead takes = v.beheaded.arrive takes 0 := by
  rcases h with h | h
  · rw [Voice.removeHead_eq, h]
  · rw [Voice.removeHead_eq, h]

/-- R43: the last cue's removal leaves no cue, whatever the cursor. -/
theorem Voice.removeHead_last {takes : Vector Take 64} {v : Voice} {c : Cue} (h : v.cues = [c]) :
    ∃ cur, v.removeHead takes = { v.beheaded with cursor := cur } := by
  have hnil : v.beheaded.cues = [] := congrArg List.tail h
  cases hc : v.cursor.cue with
  | none => exact ⟨_, (Voice.removeHead_here (.inl hc)).trans (Voice.arrive_none (by rw [hnil]; rfl))⟩
  | some k =>
    cases k with
    | zero => exact ⟨_, (Voice.removeHead_here (.inr hc)).trans (Voice.arrive_none (by rw [hnil]; rfl))⟩
    | succ k => exact ⟨_, Voice.removeHead_later hc⟩

theorem Voice.keptSlots_nil {v : Voice} (h : ∀ u ∈ v.slots, u.cue = 0) : v.keptSlots = [] := by
  rw [Voice.keptSlots, List.filter_eq_nil_iff.2 fun u hu => by rw [decide_eq_true_eq]; exact not_not.2 (h u hu)]
  rfl

/-! ### The head that follows (R43, R46) -/

/-- R22, R43: a voice with no cue left is IDLE. -/
theorem Voice.settleHead_nil {x : Ctx} {v : Voice} (h : v.cues = []) : v.settleHead x = ({ v with state := .idle, cursor := .cleared }, []) := by
  unfold Voice.settleHead takeHead
  rw [h]

/-- R46: a skipped head leaves at once. -/
theorem Voice.settleHead_skipped {x : Ctx} {v : Voice} {c : Cue} {cs : List Cue} {r : SkipReason} (h : v.cues = c :: cs)
    (hv : c.verdict = .skipped r) :
    v.settleHead x =
      (((({ v with rest := c.endAction } : Voice).removeHead x.takes).settleHead x).1,
        evCueSkipped x c r :: ((({ v with rest := c.endAction } : Voice).removeHead x.takes).settleHead x).2) := by
  have hlen : (({ v with rest := c.endAction } : Voice).removeHead x.takes).cues.length + 1 = v.cues.length := by
    rw [Voice.removeHead_length]
    show v.cues.length - 1 + 1 = _
    rw [h]
    rfl
  unfold Voice.settleHead
  rw [hlen]
  conv_lhs => unfold takeHead
  rw [h]
  dsimp only
  rw [hv]

/-- R46: a lone skipped head leaves an IDLE voice. -/
theorem Voice.settleHead_lone {x : Ctx} {v : Voice} {c : Cue} {r : SkipReason} (h : v.cues = [c]) (hv : c.verdict = .skipped r)
    (hs : v.slots = []) :
    v.settleHead x =
      ({ v with
          cues := [], cursor := .cleared, req := .none, state := .idle, rest := c.endAction, started := false, pass := 1, offset := 0 },
        [evCueSkipped x c r]) := by
  have hk : v.keptSlots = [] := Voice.keptSlots_nil (by rw [hs]; exact nofun)
  obtain ⟨cur, hcur⟩ := Voice.removeHead_last (takes := x.takes) (v := { v with rest := c.endAction }) h
  have hb : ({ v with rest := c.endAction } : Voice).beheaded =
      { v with cues := [], req := .none, rest := c.endAction, started := false, pass := 1, offset := 0 } := by
    have hkept : ({ v with rest := c.endAction } : Voice).keptSlots = [] := hk
    rw [Voice.beheaded, hkept, if_neg (by rintro ⟨u, hu, -⟩; exact absurd hu List.not_mem_nil)]
    simp only [h, hs, List.tail_cons]
  rw [Voice.settleHead_skipped h hv, hcur, hb, Voice.settleHead_nil (by rfl)]

theorem Voice.headState_follow {v : Voice} {c : Cue} (h : c.mode = .follow) : v.headState c = if v.headReady then .playing else .priming := by
  rw [Voice.headState, h]

theorem Voice.headState_other {v : Voice} {c : Cue} (h : c.mode ≠ .follow) : v.headState c = if v.primed then .waiting else .priming := by
  unfold Voice.headState
  cases hm : c.mode with
  | follow => exact absurd hm h
  | atTime t => rfl
  | onLine l => rfl

/-- R43, R47: the end of a cue, its own event first. -/
theorem Voice.endCue_eq (x : Ctx) (c : Cue) (passes : Nat) (how : EndHow) (v : Voice) :
    v.endCue x c passes how =
      ((((v.ending c).removeHead x.takes).settleHead x).1,
        (if c.notifyEnd then [evCueEnd x c passes how] else []) ++ (((v.ending c).removeHead x.takes).settleHead x).2) :=
  Prod.ext (v.endCue_voice x c passes how) rfl

theorem arriveDecided_skipped (takes : Vector Take 64) (fuel i : Nat) (c : Cue) (r : SkipReason) (v : Voice) :
    arriveDecided takes fuel i c (.skipped r) v = arriveAt takes fuel (i + 1) v := rfl

theorem arriveAt_none {takes : Vector Take 64} {fuel i : Nat} {v : Voice} (h : v.cues[i]? = none) :
    arriveAt takes (fuel + 1) i v = { v with cursor := endCursor v.cues.length } := by
  rw [arriveAt_succ, h]

theorem arriveAt_some {takes : Vector Take 64} {fuel i : Nat} {v : Voice} {c : Cue} (h : v.cues[i]? = some c) :
    arriveAt takes (fuel + 1) i v =
      arriveDecided takes fuel i c (arriveVerdict takes c) { v with cues := v.cues.set i { c with verdict := arriveVerdict takes c } } := by
  rw [arriveAt_succ, h]

/-- R46: the cursor passes a skipped cue that is the last. -/
theorem Voice.arrive_skipped_last {takes : Vector Take 64} {i : Nat} {v : Voice} {c : Cue} {r : SkipReason} (h : v.cues[i]? = some c)
    (hv : arriveVerdict takes c = .skipped r) (hl : v.cues.length = i + 1) :
    v.arrive takes i = { v with cues := v.cues.set i { c with verdict := .skipped r }, cursor := .atEnd i } := by
  have hlen : (v.cues.set i { c with verdict := .skipped r }).length = i + 1 := by rw [List.length_set, hl]
  have hnone : (v.cues.set i { c with verdict := .skipped r })[i + 1]? = none := List.getElem?_eq_none (Nat.le_of_eq hlen)
  have hpass := arriveAt_none (takes := takes) (fuel := i) (v := { v with cues := v.cues.set i { c with verdict := .skipped r } }) hnone
  have hend : endCursor (v.cues.set i { c with verdict := .skipped r }).length = .atEnd i := by rw [hlen]; rfl
  rw [Voice.arrive, arriveAt_some h, hv, hl, arriveDecided_skipped, hpass, hend]

/-- R44: a resident cue that is not READY, or that starts beyond its take, is skipped. -/
theorem judgeCue_skipped {t : Take} {c : Cue} (hk : t.kind = .resident) (h : t.state ≠ .ready ∨ t.length ≤ c.start.toNat) :
    judgeCue t c = .skipped (if t.state = .ready then .range else .notReady) := by
  simp only [judgeCue, hk, judgeResident]
  cases hs : t.state with
  | ready => exact (if_pos (h.resolve_left (not_not.2 hs))).trans rfl
  | free => rfl
  | filling => rfl
  | live => rfl
  | ended => rfl

end Sys2Proof.Machine

open Sys2Proof Sys2Proof.Machine

/-- Settles O37: the removal of the head by the cursor's place, and the head that follows by its verdict. -/
theorem cuesEnd : Obligations.CuesEnd := by
  intro x v c cs passes how hc ended skipped kept left after
  have hended : (if c.notifyEnd then [evCueEnd x c passes how] else []) = ended := by
    simp only [ended]
    cases how <;> rfl
  have hskipped : ∀ (n : Cue) (r : SkipReason), evCueSkipped x n r = skipped n r := fun n r => rfl
  have hafter : after = ((((v.ending c).removeHead x.takes).settleHead x).1,
      ended ++ (((v.ending c).removeHead x.takes).settleHead x).2) := by
    simp only [after]
    rw [Voice.endCue_eq, hended]
  have hbehead : ∀ cur st, ({ (v.ending c).beheaded with cursor := cur, state := st } : Voice) = left cs cur st := by
    intro cur st
    have htail : (v.ending c).cues.tail = cs := congrArg List.tail hc
    unfold Voice.beheaded
    rw [htail]
    rfl
  refine ⟨fun hcs => ?none, fun n more cursor hcs hcur => ?decided, fun n more hcs hund hkind hcur hslots => ?undecided⟩
  case none =>
    subst hcs
    obtain ⟨cur, hrem⟩ := Voice.removeHead_last (takes := x.takes) (v := v.ending c) hc
    have htail : (v.ending c).beheaded.cues = [] := congrArg List.tail hc
    rw [hafter, hrem, Voice.settleHead_nil (v := { (v.ending c).beheaded with cursor := cur }) htail, List.append_nil]
    exact congrArg (fun w => (w, ended)) (hbehead .cleared .idle)
  case decided =>
    intro fetched ready primed
    obtain ⟨k, hk, hshift⟩ : ∃ k, v.cursor.cue = some (k + 1) ∧ v.cursor.shifted = cursor := by
      rcases hcur with ⟨i, p, b, l, h, h'⟩ | ⟨i, p, b, h, h'⟩ | ⟨i, h, h'⟩
      · exact ⟨i, by rw [h]; rfl, by rw [h, h']; rfl⟩
      · exact ⟨i, by rw [h]; rfl, by rw [h, h']; rfl⟩
      · exact ⟨i, by rw [h]; rfl, by rw [h, h']; rfl⟩
    have hrem : (v.ending c).removeHead x.takes = left cs cursor v.state := by
      rw [Voice.removeHead_later (v := v.ending c) hk]
      have hs : (v.ending c).cursor.shifted = cursor := hshift
      rw [hs]
      exact hbehead cursor v.state
    have hlist : (left cs cursor v.state).cues = n :: more := hcs
    rw [hrem] at hafter
    refine ⟨fun hns => ?_, fun r hr => ?_⟩
    · have hsettle : after = (left cs cursor ((left cs cursor v.state).headState n), ended) := by
        rw [hafter, Voice.settleHead_of_head hlist hns, List.append_nil]
      have hready : (left cs cursor v.state).headReady = true ↔ ready := Voice.headReady_iff _
      have hprimed : (left cs cursor v.state).primed = true ↔ primed := by
        have h := (left cs cursor v.state).primed_iff
        rw [Voice.headHeld_iff, Voice.headRequested_eq] at h
        exact h
      refine ⟨fun hm => ⟨fun h => ?_, fun h => ?_⟩, fun hm => ⟨fun h => ?_, fun h => ?_⟩⟩
      · rw [hsettle, Voice.headState_follow hm, if_pos (hready.2 h)]
      · rw [hsettle, Voice.headState_follow hm, if_neg (mt hready.1 h)]
      · rw [hsettle, Voice.headState_other hm, if_pos (hprimed.2 h)]
      · rw [hsettle, Voice.headState_other hm, if_neg (mt hprimed.1 h)]
    · intro onward
      rw [hafter, Voice.settleHead_skipped hlist hr]
      rfl
  case undecided =>
    intro t
    have hhere : (v.ending c).cursor.cue = none ∨ (v.ending c).cursor.cue = some 0 := by
      show v.cursor.cue = none ∨ v.cursor.cue = some 0
      rcases hcur with h | ⟨p, b, l, h⟩ | ⟨p, b, h⟩ | h
      · exact .inl (by rw [h]; rfl)
      · exact .inr (by rw [h]; rfl)
      · exact .inr (by rw [h]; rfl)
      · exact .inr (by rw [h]; rfl)
    have hkept : kept = [] := Voice.keptSlots_nil hslots
    have hlist : (v.ending c).beheaded.cues = n :: more := (congrArg List.tail hc).trans hcs
    have hplace : (v.ending c).beheaded.cues[0]? = some n := by rw [hlist]; rfl
    have hrem : (v.ending c).removeHead x.takes = (v.ending c).beheaded.arrive x.takes 0 := Voice.removeHead_here hhere
    have hverdict : arriveVerdict x.takes n = judgeCue t n := if_pos hund
    refine ⟨fun hr hlt hp => ?_, fun hmore hr => ?_⟩
    · intro cut l
      have hjudge : arriveVerdict x.takes n = .resident l (decide cut) := by
        rw [hverdict, judgeCue_ready hkind hr hlt]
        refine congrArg₂ Verdict.resident ?_ rfl
        simp only [l, cut]
        by_cases h0 : n.length = 0
        · rw [if_pos (.inl h0), if_pos (.inl h0)]
        · refine if_congr ⟨fun h => .inr ⟨h0, h.resolve_left h0⟩, fun h => .inr (h.resolve_left h0).2⟩ rfl rfl
      rw [Voice.arrive_resident hplace hjudge, hlist] at hrem
      have hpriming : ((v.ending c).removeHead x.takes).headState { n with verdict := .resident l (decide cut) } = .priming := by
        rw [hrem]
        exact Voice.headState_priming hkept rfl hp
      rw [hafter, Voice.settleHead_of_head (x := x) (v := (v.ending c).removeHead x.takes) (c := { n with verdict := .resident l (decide cut) })
        (cs := more) (by rw [hrem]; rfl) nofun, hpriming, hrem, List.append_nil]
      rfl
    · intro r
      subst hmore
      have hjudge : arriveVerdict x.takes n = .skipped r := hverdict.trans (judgeCue_skipped hkind hr)
      rw [Voice.arrive_skipped_last hplace hjudge (by rw [hlist]; rfl), hlist] at hrem
      rw [hafter, Voice.settleHead_lone (x := x) (v := (v.ending c).removeHead x.takes) (c := { n with verdict := .skipped r }) (r := r)
        (by rw [hrem]; rfl) rfl (by rw [hrem]; exact hkept), hrem]
      have hreq : (if ∃ u ∈ kept, u.status = none then v.req else .none) = FetchStage.none :=
        if_neg (by rw [hkept]; rintro ⟨u, hu, -⟩; exact absurd hu List.not_mem_nil)
      simp only [left, hreq]
      rfl
end

section
/-! PROOFS. Ring cues: their start, their requests, and what the ring's writes and end bring about (O38). -/

namespace Sys2Proof.Machine

/-! ### The start of a ring cue (R45) -/

theorem judgeCue_ring {t : Take} {r : RingState} (c : Cue) (hk : t.kind = .ring) (hr : t.ring = some r) :
    judgeCue t c = .ring (ringStart t c r) := by
  simp only [judgeCue, hk, judgeRing, hr]

theorem judgeCue_unwritten {t : Take} (c : Cue) (hk : t.kind = .ring) (hr : t.ring = none) :
    judgeCue t c = if t.state = .ended then .skipped .range else .ringWaiting := by
  simp only [judgeCue, hk, judgeRing, hr]

theorem Voice.arrive_ringWaiting {takes : Vector Take 64} {i : Nat} {v : Voice} {c : Cue} (h : v.cues[i]? = some c)
    (hv : arriveVerdict takes c = .ringWaiting) :
    v.arrive takes i = { v with cues := v.cues.set i { c with verdict := .ringWaiting }, cursor := .held i 1 none, assigned := 0 } := by
  rw [Voice.arrive, arriveAt_some h, hv]
  rfl

/-- R26, R43: with no slot and a block of it still to request, a head is PRIMING. -/
theorem Voice.headState_unrequested {v : Voice} {c : Cue} (hs : v.slots = []) (hr : v.headRequested = false) (hp : 1 ≤ v.primeDepth) :
    v.headState c = .priming := by
  have hready : v.headReady = false := by simp [Voice.headReady, hs]
  have hprimed : v.primed = false := by
    have : ¬ v.primeDepth ≤ 0 := by omega
    simp [Voice.primed, Voice.filledCount, Voice.headHeld, hr, hs, this]
  unfold Voice.headState
  split
  · simp [hready]
  · simp [hprimed]

/-! ### Requests (R56, R62 to R64) -/

theorem Voice.request_untargeted {x : Ctx} {v : Voice} (h : ∀ i p b l, v.cursor ≠ .atTarget i p b l) : v.request x = (v, []) := by
  unfold Voice.request
  split
  · rename_i i p b l _ hc
    exact absurd hc (h i p b l)
  · rfl

theorem Voice.request_idle {x : Ctx} {v : Voice} (h : v.state = .idle) : v.request x = (v, []) := by
  have hm : v.mayRequest = false := by simp [Voice.mayRequest, h]
  simp only [Voice.request, hm]

/-- R64: the target that a ring request is made for. -/
theorem lapCheck_eq {t : Take} {r : RingState} (b : BlockNo) (hr : t.ring = some r) :
    lapCheck t b =
      if (b - (r.w - BitVec.ofNat 32 (t.segments.length * 32768))).toInt < 0 then (r.w - BitVec.ofNat 32 (t.segments.length * 32768), true)
      else (b, false) := by
  simp only [lapCheck, hr]
  rfl

theorem Voice.request_ring {x : Ctx} {v : Voice} {i pass least : Nat} {b s b' : BlockNo} {c : Cue} {lapped : Bool} (hm : v.mayRequest = true)
    (hc : v.cursor = .atTarget i pass b least) (hi : v.cues[i]? = some c) (hv : c.verdict = .ring s)
    (hl : lapCheck (x.take c) b = (b', lapped)) :
    v.request x =
      let plan := planRing (x.take c).format.spb c.length v.assigned (if lapped then 0 else least)
      ((v.reserve (x.take c) c i pass b' plan).afterRing x.takes (x.take c) i b' plan.2 c, if lapped then [evLapped x c b b'] else []) := by
  simp only [Voice.request, hm, hc, hi, hv, hl]

/-- R62: a ring cue's last sample is assigned. -/
theorem Voice.afterRing_full {takes : Vector Take 64} {t : Take} {i count : Nat} {b : BlockNo} {c : Cue} {v : Voice}
    (h : c.length ≠ 0 ∧ c.length ≤ v.assigned + count) :
    v.afterRing takes t i b count c = ({ v with assigned := v.assigned + count } : Voice).arrive takes (i + 1) := if_pos h

theorem Voice.afterRing_more {takes : Vector Take 64} {t : Take} {i count : Nat} {b : BlockNo} {c : Cue} {v : Voice}
    (h : ¬ (c.length ≠ 0 ∧ c.length ≤ v.assigned + count)) :
    v.afterRing takes t i b count c = ({ v with assigned := v.assigned + count } : Voice).comeToRing takes t i (b + 1) := if_neg h

/-- R63: the next block lies below w, at w of a LIVE ring, or beyond an ENDED one. -/
theorem Voice.comeToRing_below {takes : Vector Take 64} {t : Take} {r : RingState} {i : Nat} {b : BlockNo} {v : Voice} (hr : t.ring = some r)
    (h : (b - r.w).toInt < 0) : v.comeToRing takes t i b = { v with cursor := .atTarget i 1 b 0 } := by
  rw [Voice.comeToRing, hr]
  exact if_pos h

theorem Voice.comeToRing_held {takes : Vector Take 64} {t : Take} {r : RingState} {i : Nat} {b : BlockNo} {v : Voice} (hr : t.ring = some r)
    (h : ¬ (b - r.w).toInt < 0) (he : t.state ≠ .ended) : v.comeToRing takes t i b = { v with cursor := .held i 1 (some b) } := by
  rw [Voice.comeToRing, hr]
  exact (if_neg h).trans (if_neg he)

theorem Voice.comeToRing_beyond {takes : Vector Take 64} {t : Take} {r : RingState} {i : Nat} {b : BlockNo} {v : Voice} (hr : t.ring = some r)
    (h : ¬ (b - r.w).toInt < 0) (he : t.state = .ended) : v.comeToRing takes t i b = v.arrive takes (i + 1) := by
  rw [Voice.comeToRing, hr]
  exact (if_neg h).trans (if_pos he)

/-- R54: the cursor rests behind the last cue. -/
theorem Voice.arrive_behind {takes : Vector Take 64} {i : Nat} {v : Voice} (h : v.cues.length = i + 1) :
    v.arrive takes (i + 1) = { v with cursor := .atEnd i } := by
  rw [Voice.arrive_none (List.getElem?_eq_none (Nat.le_of_eq h)), h]
  rfl

theorem Take.blockAddress_ring {t : Take} (b : BlockNo) (hk : t.kind = .ring) :
    t.blockAddress b = t.address (b.toNat % (t.segments.length * 32768)) := by
  rw [Take.blockAddress, Take.storeIndex, hk]
  rfl

/-! ### What a ring's writes and end bring about (R46, R62, R63) -/

theorem Voice.ringWritten_unheld {x : Ctx} {t : Fin 64} {v : Voice} (h : ∀ i p ob, v.cursor ≠ .held i p ob) : v.ringWritten x t = (v, []) := by
  unfold Voice.ringWritten
  split
  · rename_i i p ob hc
    exact absurd hc (h i p ob)
  · rfl

theorem Voice.ringEnded_unheld {x : Ctx} {t : Fin 64} {v : Voice} (h : ∀ i p ob, v.cursor ≠ .held i p ob) : v.ringEnded x t = (v, []) := by
  unfold Voice.ringEnded
  split
  · rename_i i p ob hc
    exact absurd hc (h i p ob)
  · rfl

section
variable {x : Ctx} {t : Fin 64} {v : Voice} {i p : Nat} {ob : Option BlockNo} {c : Cue}

theorem Voice.ringWritten_other (hc : v.cursor = .held i p ob) (hi : v.cues[i]? = some c) (ht : c.take ≠ t) : v.ringWritten x t = (v, []) := by
  rw [Voice.ringWritten, hc]
  dsimp only
  rw [hi]
  cases (x.takes[t]).ring with
  | none => rfl
  | some r => exact if_pos ht

theorem Voice.ringWritten_waiting {r : RingState} (hc : v.cursor = .held i p none) (hi : v.cues[i]? = some c) (ht : c.take = t)
    (hr : (x.takes[t]).ring = some r) :
    v.ringWritten x t =
      ({ v with
        cues := v.cues.set i { c with verdict := .ring (ringStart (x.takes[t]) c r) }
        cursor := .atTarget i p (ringStart (x.takes[t]) c r) 0 } : Voice).request x := by
  subst ht
  simp only [Voice.ringWritten, hc, hi, hr, ne_eq, not_true_eq_false, if_false]

theorem Voice.ringWritten_held {r : RingState} {b : BlockNo} (hc : v.cursor = .held i p (some b)) (hi : v.cues[i]? = some c)
    (ht : c.take = t) (hr : (x.takes[t]).ring = some r) :
    v.ringWritten x t = if BlockNo.diff b r.w < 0 then ({ v with cursor := .atTarget i p b 0 } : Voice).request x else (v, []) := by
  subst ht
  simp only [Voice.ringWritten, hc, hi, hr, ne_eq, not_true_eq_false, if_false]

theorem Voice.ringEnded_other (hc : v.cursor = .held i p ob) (hi : v.cues[i]? = some c) (ht : c.take ≠ t) : v.ringEnded x t = (v, []) := by
  rw [Voice.ringEnded, hc]
  dsimp only
  rw [hi]
  exact if_pos ht

theorem Voice.ringEnded_waiting (hc : v.cursor = .held i p none) (hi : v.cues[i]? = some c) (ht : c.take = t) :
    v.ringEnded x t =
      let w := ({ v with cues := v.cues.set i { c with verdict := .skipped .range } } : Voice).arrive x.takes (i + 1)
      if i = 0 then andThen (Voice.settleHead x) (Voice.request x) w else w.request x := by
  subst ht
  simp only [Voice.ringEnded, hc, hi, ne_eq, not_true_eq_false, if_false]

theorem Voice.ringEnded_held {b : BlockNo} (hc : v.cursor = .held i p (some b)) (hi : v.cues[i]? = some c) (ht : c.take = t) :
    v.ringEnded x t = (v.arrive x.takes (i + 1)).proceed x := by
  subst ht
  simp only [Voice.ringEnded, hc, hi, ne_eq, not_true_eq_false, if_false]

end

theorem andThen_eq {f g : Voice → Voice × List Event} {v w u : Voice} {es fs : List Event} (hf : f v = (w, es)) (hg : g w = (u, fs)) :
    andThen f g v = (u, es ++ fs) := by
  rw [andThen, hf]
  dsimp only
  rw [hg]

end Sys2Proof.Machine

open Sys2Proof Sys2Proof.Machine

/-- Settles O38: the ring cue by its verdict, its request by the lap and the next block, and a HELD cursor by what it waits for. -/
theorem ringCuesWalk : Obligations.RingCuesWalk := by
  refine ⟨fun x v c hcues hslots hreq hstate hund hdepth hk hr => ?load, fun t c r hk hr => judgeCue_ring c hk hr,
    fun x v c i p b s least r hstate hslots hreq hcur hi hv hk hr => ?request, fun x t v =>
      ⟨fun hc => ⟨Voice.ringWritten_unheld hc, Voice.ringEnded_unheld hc⟩, fun i p ob c hcur hi => ⟨fun ht =>
        ⟨Voice.ringWritten_other hcur hi ht, Voice.ringEnded_other hcur hi ht⟩, fun r ht hr => ?written, fun ht hlen => ?ended⟩⟩⟩
  case load =>
    have hjudge : arriveVerdict x.takes c = judgeCue (x.take c) c := if_pos hund
    rw [judgeCue_unwritten c hk hr] at hjudge
    let w : Voice := { v.appended [c] with state := .priming }
    have hw : w.cues = [c] := by simp [w, Voice.appended, hcues]
    have hplace : w.cues[0]? = some c := by rw [hw]; rfl
    have hfirst : v.loaded x [c] = andThen (Voice.settleHead x) (Voice.request x) (w.arrive x.takes 0) := Voice.loaded_first x (by simp) hcues
    refine ⟨fun hs => ?_, fun hs => ?_⟩
    · rw [if_neg (by rw [hs]; exact nofun)] at hjudge
      let a : Voice := { w with cues := [{ c with verdict := .ringWaiting }], cursor := .held 0 1 none, assigned := 0 }
      have ha : w.arrive x.takes 0 = a := by
        rw [Voice.arrive_ringWaiting hplace hjudge, hw]
        rfl
      have hhead : a.settleHead x = (a, []) := by
        rw [Voice.settleHead_of_head (v := a) (c := { c with verdict := .ringWaiting }) (cs := []) rfl nofun,
          Voice.headState_unrequested (v := a) hslots rfl hdepth]
      rw [hfirst, ha, andThen_eq hhead (Voice.request_untargeted (v := a) nofun)]
      rfl
    · rw [if_pos hs] at hjudge
      let a : Voice := { w with cues := [{ c with verdict := .skipped .range }], cursor := .atEnd 0 }
      have ha : w.arrive x.takes 0 = a := by
        rw [Voice.arrive_skipped_last hplace hjudge (by rw [hw]; rfl), hw]
        rfl
      rw [hfirst, ha, andThen_eq (Voice.settleHead_lone (x := x) (v := a) (c := { c with verdict := .skipped .range }) rfl rfl hslots)
        (Voice.request_idle rfl)]
      simp only [a, w, Voice.appended, ← hcues, ← hreq, ← hstate]
      rfl
  case request =>
    intro t spb low lapped b' first count asked events more
    have hmay : v.mayRequest = true := v.mayRequest_iff.2 ⟨hstate, hslots, hreq⟩
    have hlap : lapCheck (x.take c) b = (b', decide lapped) := by
      rw [lapCheck_eq b hr]
      by_cases h : lapped
      · rw [if_pos h]
        simp only [b', if_pos h, decide_eq_true h]
        rfl
      · rw [if_neg h]
        simp only [b', if_neg h, decide_eq_false h]
    have hfirst : (if decide lapped = true then 0 else least) = first := by
      simp only [decide_eq_true_eq]
      rfl
    have hrequest := Voice.request_ring hmay hcur hi hv hlap
    rw [hfirst] at hrequest
    have hevents : (if decide lapped = true then [evLapped x c b b'] else []) = events := by
      by_cases h : lapped
      · have hb : b' = low := if_pos h
        rw [if_pos (decide_eq_true h), hb]
        exact (if_pos h).symm
      · rw [if_neg (by rw [decide_eq_false h]; exact nofun)]
        exact (if_neg h).symm
    have hasked : ({ v.reserve (x.take c) c i p b' (first, count) with assigned := v.assigned + count } : Voice) = asked := by
      rw [Voice.reserve, Take.blockAddress_ring b' hk, hk]
      rfl
    have hfull : (c.length ≠ 0 ∧ c.length ≤ v.assigned + count) ↔ ¬ more := by
      simp only [more]
      omega
    have hlist : asked.cues = v.cues := rfl
    have hend : v.cues.length = i + 1 → asked.arrive x.takes (i + 1) = { asked with cursor := .atEnd i } :=
      fun h => Voice.arrive_behind (hlist ▸ h)
    have hgo : more → v.request x = (asked.comeToRing x.takes (x.take c) i (b' + 1), events) := by
      intro hmore
      rw [hrequest]
      refine Prod.ext ?_ hevents
      rw [← hasked]
      exact Voice.afterRing_more (v := v.reserve (x.take c) c i p b' (first, count)) (mt hfull.1 (not_not.2 hmore))
    refine ⟨fun hmore hlt => ?_, fun hmore hge he => ?_, fun hlen hcases => ?_⟩
    · rw [hgo hmore, Voice.comeToRing_below hr hlt]
    · rw [hgo hmore, Voice.comeToRing_held hr (Int.not_lt.2 hge) he]
    · by_cases hmore : more
      · obtain ⟨hge, he⟩ := hcases.resolve_left (not_not.2 hmore)
        rw [hgo hmore, Voice.comeToRing_beyond hr (Int.not_lt.2 hge) he, hend hlen]
      · rw [← hend hlen, hrequest]
        refine Prod.ext ?_ hevents
        rw [← hasked]
        exact Voice.afterRing_full (v := v.reserve (x.take c) c i p b' (first, count)) (hfull.2 hmore)
  case written =>
    refine ⟨fun b hob => ?_, fun hob => ?_⟩
    · subst hob
      exact Voice.ringWritten_held hcur hi ht hr
    · subst hob
      exact Voice.ringWritten_waiting hcur hi ht hr
  case ended =>
    refine ⟨fun b hob => ?_, fun hob hpos => ?_, fun hob hzero hslots => ?_⟩
    · subst hob
      rw [Voice.ringEnded_held hcur hi ht, Voice.arrive_behind hlen]
    · subst hob
      have hset : (v.cues.set i { c with verdict := .skipped .range }).length = i + 1 := by rw [List.length_set, hlen]
      have hwait := Voice.ringEnded_waiting (x := x) hcur hi ht
      rw [Voice.arrive_behind (v := { v with cues := v.cues.set i { c with verdict := .skipped .range } }) hset] at hwait
      exact hwait.trans (if_neg (by omega))
    · subst hob hzero
      obtain ⟨c', hc'⟩ : ∃ c', v.cues = [c'] := List.length_eq_one_iff.1 hlen
      have hwait := Voice.ringEnded_waiting (x := x) hcur hi ht
      rw [hc'] at hi hwait
      cases hi
      rw [Voice.arrive_behind (i := 0) (v := { v with cues := [c].set 0 { c with verdict := .skipped .range } }) rfl] at hwait
      let a : Voice := { v with cues := [{ c with verdict := .skipped .range }], cursor := .atEnd 0 }
      refine (hwait.trans (if_pos rfl)).trans ((andThen_eq (v := a) (Voice.settleHead_lone rfl rfl hslots) (Voice.request_idle rfl)).trans ?_)
      rfl
end

section
/-! PROOFS. How a voice re-judges its state, and the skip rule (O39). -/

namespace Sys2Proof.Machine

/-! ### Re-judgement, case by case (R26, R63, R67, R68) -/

section
variable {x : Ctx} {v : Voice} {c : Cue} {cs : List Cue}

theorem Voice.rejudge_priming (hc : v.cues = c :: cs) (hs : v.state = .priming) :
    v.rejudge x = (if v.primed then { v with state := .waiting } else v, []) := by
  unfold Voice.rejudge
  rw [hc, hs]

theorem Voice.rejudge_waiting (hc : v.cues = c :: cs) (hs : v.state = .waiting) : v.rejudge x = (v, []) := by
  unfold Voice.rejudge
  rw [hc, hs]

theorem Voice.rejudge_playing (hc : v.cues = c :: cs) (hs : v.state = .playing) :
    v.rejudge x = if v.started && v.headSpent then v.endCue x c v.pass .complete else (v, []) := by
  unfold Voice.rejudge
  rw [hc, hs]

theorem Voice.rejudge_spent (hc : v.cues = c :: cs) (hs : v.state = .starved) (h : v.headSpent = true) :
    v.rejudge x = v.endCue x c v.pass .complete := by
  unfold Voice.rejudge
  rw [hc, hs]
  exact if_pos h

theorem Voice.rejudge_starving (hc : v.cues = c :: cs) (hs : v.state = .starved) (h : ¬ v.headSpent = true) (hr : ¬ v.resumable = true) :
    v.rejudge x = (v, []) := by
  unfold Voice.rejudge
  rw [hc, hs]
  exact (if_neg h).trans (if_neg hr)

theorem Voice.rejudge_slip (hc : v.cues = c :: cs) (hs : v.state = .starved) (h : ¬ v.headSpent = true) (hr : v.resumable = true)
    (hm : v.timeMode = .slip) : v.rejudge x = v.recoverSlip x c := by
  unfold Voice.rejudge
  rw [hc, hs, hm]
  exact (if_neg h).trans (if_pos hr)

theorem Voice.rejudge_keep (hc : v.cues = c :: cs) (hs : v.state = .starved) (h : ¬ v.headSpent = true) (hr : v.resumable = true)
    (hm : v.timeMode = .keep) : v.rejudge x = v.recoverKeep x c := by
  unfold Voice.rejudge
  rw [hc, hs, hm]
  exact (if_neg h).trans (if_pos hr)

theorem Voice.recoverKeep_ended {made : Nat} (h : v.skip x c v.starvedTicks = .ended made) :
    v.recoverKeep x c =
      ((({ v with starvedTicks := 0 } : Voice).endCue x c c.allPasses .skippedToEnd).1,
        evResumed x c v.starvedTicks .keep made :: (({ v with starvedTicks := 0 } : Voice).endCue x c c.allPasses .skippedToEnd).2) := by
  unfold Voice.recoverKeep
  dsimp only
  rw [h]

theorem Voice.recoverKeep_moved {made : Nat} {w : Voice} (h : v.skip x c v.starvedTicks = .moved made w) :
    v.recoverKeep x c =
      if w.headReady && w.resumable then ({ w with state := .playing, starvedTicks := 0 }, [evResumed x c v.starvedTicks .keep made])
      else ({ w with starvedTicks := 0 }, []) := by
  unfold Voice.recoverKeep
  dsimp only
  rw [h]

end

/-! ### The skip rule (R69, R70) -/

/-- R69: the slots that a skip passes over whole go, one by one. -/
theorem passOver_gone (d : Nat) (gone others : List Slot) (h : ∀ w ∈ gone, w.cue = 0) (hle : (gone.map Slot.left).sum ≤ d) :
    passOver d (gone ++ others) = passOver (d - (gone.map Slot.left).sum) others := by
  induction gone generalizing d with
  | nil => rfl
  | cons s ss ih =>
    have hs : s.cue = 0 := h s (by simp)
    simp only [List.map_cons, List.sum_cons] at hle ⊢
    rw [List.cons_append, passOver, if_neg (not_not.2 hs), if_pos (by omega), ih _ (fun w hw => h w (List.mem_cons_of_mem _ hw)) (by omega),
      Nat.sub_sub]

/-- R69: slots of later cues are not passed over. -/
theorem passOver_later (d : Nat) {others : List Slot} (h : ∀ w ∈ others, w.cue ≠ 0) : passOver d others = others := by
  cases others with
  | nil => rfl
  | cons s ss => exact if_pos (h s (by simp))

/-- R69: the slot that holds the new position stays, played up to it. -/
theorem passOver_within {d : Nat} {u : Slot} (others : List Slot) (hu : u.cue = 0) (h : d < u.left) :
    passOver d (u :: others) = { u with played := u.played + d } :: others := by
  rw [passOver, if_neg (not_not.2 hu), if_neg (by omega)]

theorem Voice.headSlots_isEmpty (v : Voice) : v.headSlots.isEmpty = true ↔ ¬ ∃ u ∈ v.slots, u.cue = 0 := by
  rw [List.isEmpty_iff, Voice.headSlots, List.filter_eq_nil_iff]
  simp only [decide_eq_true_eq, not_exists, not_and]

/-- R69: a skip on a resident cue. -/
theorem Voice.skip_resident {x : Ctx} {c : Cue} {l : Nat} {k : Bool} (h : c.verdict = .resident l k) (d : Nat) (v : Voice) :
    v.skip x c d = v.skipResident (x.take c).format.spb c.start.toNat l c.count d := by
  simp only [Voice.skip, h]

/-- R70: a skip on a ring cue whose ring has been written. -/
theorem Voice.skip_ring {x : Ctx} {c : Cue} {b : BlockNo} {r : RingState} (h : c.verdict = .ring b) (hr : (x.take c).ring = some r) (d : Nat)
    (v : Voice) : v.skip x c d = v.skipRing (x.take c).format.spb c.length d (x.take c) r := by
  simp only [Voice.skip, h, hr]

/-- R69, R70: a voice at a new play position, the slots before it gone. -/
def Voice.skippedTo (pass offset : Nat) (slots : List Slot) (v : Voice) : Voice :=
  { v with pass := pass, offset := offset, slots := slots, req := if ∃ u ∈ slots, u.status = none then v.req else .none }

theorem Voice.skippedTo_eq (pass offset : Nat) (slots : List Slot) (v : Voice) :
    ({ v with pass := pass, offset := offset } : Voice).withSlots slots = v.skippedTo pass offset slots := by
  rw [Voice.withSlots_eq]
  rfl

theorem sub_div_mul_eq_mod (n m : Nat) : n - n / m * m = n % m := by
  have := Nat.div_add_mod' n m
  omega

/-- R69: a resident cue's skip, by where it comes to. -/
theorem Voice.skipResident_eq (spb s l n d : Nat) (v : Voice) :
    v.skipResident spb s l n d =
      let q := v.offset + d
      let w := v.skippedTo (min 4294967295 (v.pass + q / l)) (q % l) (passOver d v.slots)
      if n ≠ 0 ∧ n < v.pass + q / l then .ended ((n - v.pass) * l + (l - v.offset))
      else if ∃ u ∈ passOver d v.slots, u.cue = 0 then .moved d w
      else .moved d { w with
        cursor := .atTarget 0 (min 4294967295 (v.pass + q / l)) (BitVec.ofNat 32 ((s + q % l) / spb)) ((s + q % l) % spb) } := by
  have hw := v.skippedTo_eq (satAdd Config.max32 v.pass ((v.offset + d) / l)) ((v.offset + d) % l) (passOver d v.slots)
  have hempty := (v.skippedTo (satAdd Config.max32 v.pass ((v.offset + d) / l)) ((v.offset + d) % l) (passOver d v.slots)).headSlots_isEmpty
  unfold Voice.skipResident
  dsimp only
  rw [hw, sub_div_mul_eq_mod]
  by_cases hend : n ≠ 0 ∧ n < v.pass + (v.offset + d) / l
  · rw [if_pos hend, if_pos hend]
  · rw [if_neg hend, if_neg hend]
    by_cases hin : ∃ u ∈ passOver d v.slots, u.cue = 0
    · rw [if_neg (fun h => hempty.1 h hin), if_pos hin]
      rfl
    · rw [if_pos (hempty.2 hin), if_neg hin]
      rfl

/-- R70: a ring cue's skip, by where it comes to. -/
theorem Voice.skipRing_eq (spb l d : Nat) (t : Take) (r : RingState) (v : Voice) :
    v.skipRing spb l d t r =
      let avail := v.slotsLeft + v.beyondSlots spb r
      let k := min d avail
      let w := v.skippedTo v.pass (v.offset + k) (passOver k v.slots)
      if l ≠ 0 ∧ l - v.offset ≤ d ∧ l - v.offset ≤ avail then .ended (l - v.offset)
      else if avail ≤ d ∧ t.state = .ended then .ended avail
      else if ∃ u ∈ passOver k v.slots, u.cue = 0 then .moved k w
      else .moved k (w.cursorOn spb (k - v.slotsLeft) r) := by
  let avail := v.slotsLeft + v.beyondSlots spb r
  let k := min d avail
  let w := v.skippedTo v.pass (v.offset + k) (passOver k v.slots)
  have hw := v.skippedTo_eq v.pass (v.offset + k) (passOver k v.slots)
  have hempty := w.headSlots_isEmpty
  unfold Voice.skipRing
  dsimp only
  by_cases hend : l ≠ 0 ∧ l - v.offset ≤ d ∧ l - v.offset ≤ avail
  · rw [if_pos hend, if_pos hend]
  · rw [if_neg hend, if_neg hend]
    by_cases hover : avail ≤ d ∧ t.state = .ended
    · rw [if_pos hover, if_pos hover]
    · rw [if_neg hover, if_neg hover]
      refine (congrArg (fun u : Voice => Skip.moved k (if u.headSlots.isEmpty then u.cursorOn spb (k - v.slotsLeft) r else u)) hw).trans ?_
      by_cases hin : ∃ u ∈ passOver k v.slots, u.cue = 0
      · rw [if_neg (fun h => hempty.1 h hin), if_pos hin]
      · rw [if_pos (hempty.2 hin), if_neg hin]

theorem Voice.beyondSlots_eq (spb : Nat) (r : RingState) (v : Voice) : v.beyondSlots spb r = match v.cursor with
    | .atTarget 0 _ b least => (r.w - b).toNat * spb - least
    | _ => 0 := by
  unfold Voice.beyondSlots
  cases v.cursor with
  | cleared => rfl
  | atTarget c p b least => cases c <;> rfl
  | held c p b => rfl
  | atEnd c => rfl

theorem Voice.cursorOn_target {spb k p least : Nat} {r : RingState} {b : BlockNo} {v : Voice} (h : v.cursor = .atTarget 0 p b least) :
    v.cursorOn spb k r =
      let b' := b + BitVec.ofNat 32 ((least + k) / spb)
      { v with
        cursor := if BlockNo.diff b' r.w < 0 then .atTarget 0 p b' ((least + k) % spb) else .held 0 p (some b')
        assigned := v.offset } := by
  simp only [Voice.cursorOn, h]

theorem Voice.cursorOn_other {spb k : Nat} {r : RingState} {v : Voice} (h : ∀ p b least, v.cursor ≠ .atTarget 0 p b least) :
    v.cursorOn spb k r = v := by
  unfold Voice.cursorOn
  split
  · rename_i p b least hc
    exact absurd hc (h p b least)
  · rfl

end Sys2Proof.Machine

open Sys2Proof Sys2Proof.Machine

/-- Settles O39: re-judgement by the voice's state, and a skip by the slots it passes over. -/
theorem voicesRecover : Obligations.VoicesRecover := by
  refine ⟨fun x v => rfl, fun x v c cs hc => ?rejudge, fun d gone others hg => ?slots, fun x v c d l k hv hl => ?resident,
    fun x v c d b r hv hr => ?ring⟩
  case rejudge =>
    intro filled fetched whole spent ready resumes resumed passes
    have hwhole : ∀ u : Voice, u.headHeld = true ↔ whole u := by
      intro u
      have h := u.headHeld_iff
      rw [Voice.headRequested_eq] at h
      exact h
    have hspent : v.headSpent = true ↔ spent := by
      have h := v.headSpent_iff
      rw [Voice.headRequested_eq] at h
      exact h
    have hprimed : v.primed = true ↔ v.primeDepth ≤ filled v ∨ whole v := v.primed_iff.trans (or_congr Iff.rfl (hwhole v))
    have hresumes : ∀ u : Voice, u.resumable = true ↔ resumes u := fun u => u.resumable_iff.trans (or_congr Iff.rfl (hwhole u))
    have hresumed : ∀ made, evResumed x c v.starvedTicks v.timeMode made = resumed made := fun _ => rfl
    have hpasses : c.allPasses = passes := c.allPasses_eq
    refine ⟨fun hs => ⟨fun h => ?_, fun h => ?_⟩, fun hs => Voice.rejudge_waiting hc hs, fun hs => ⟨fun hb h => ?_, fun h => ?_⟩,
      fun hs => ⟨fun h => Voice.rejudge_spent hc hs (hspent.2 h), fun h hr => Voice.rejudge_starving hc hs (mt hspent.1 h)
        (mt (hresumes v).1 hr), fun h hr hm => ?_, fun h hr hm => ?_⟩⟩
    · rw [Voice.rejudge_priming hc hs, if_pos (hprimed.2 h)]
    · rw [Voice.rejudge_priming hc hs, if_neg (mt hprimed.1 h)]
    · rw [Voice.rejudge_playing hc hs, if_pos (Bool.and_eq_true_iff.2 ⟨hb, hspent.2 h⟩)]
    · rw [Voice.rejudge_playing hc hs, if_neg]
      intro hn
      obtain ⟨hb, hsp⟩ := Bool.and_eq_true_iff.1 hn
      rcases h with h | h
      · rw [hb] at h
        cases h
      · exact h (hspent.1 hsp)
    · rw [Voice.rejudge_slip hc hs (mt hspent.1 h) ((hresumes v).2 hr) hm, Voice.recoverSlip, ← hm, hresumed]
    · have hkeep : v.rejudge x = v.recoverKeep x c := Voice.rejudge_keep hc hs (mt hspent.1 h) ((hresumes v).2 hr) hm
      refine ⟨fun made hk => ?_, fun made w hk => ⟨fun hrd hrs => ?_, fun hn => ?_⟩⟩
      · intro e
        rw [hkeep, Voice.recoverKeep_ended hk, ← hm, hresumed, hpasses]
      · rw [hkeep, Voice.recoverKeep_moved hk, ← hm, hresumed,
          if_pos (Bool.and_eq_true_iff.2 ⟨w.headReady_iff.2 hrd, (hresumes w).2 hrs⟩)]
      · rw [hkeep, Voice.recoverKeep_moved hk, if_neg]
        intro hb
        obtain ⟨h₁, h₂⟩ := Bool.and_eq_true_iff.1 hb
        exact hn ⟨w.headReady_iff.1 h₁, (hresumes w).1 h₂⟩
  case slots =>
    intro left hle
    refine ⟨fun ho => ?_, fun u hu hlt => ?_⟩
    · rw [passOver_gone d gone others hg hle, passOver_later _ ho]
    · rw [passOver_gone d gone (u :: others) hg hle]
      exact passOver_within others hu hlt
  case resident =>
    intro spb q place slots pass w
    have hskip := (Voice.skip_resident (x := x) hv d v).trans (v.skipResident_eq spb c.start.toNat l c.count d)
    by_cases hend : c.count ≠ 0 ∧ c.count < v.pass + q / l
    · rw [if_pos hend]
      exact hskip.trans (if_pos hend)
    · rw [if_neg hend]
      replace hskip := hskip.trans (if_neg hend)
      by_cases hin : ∃ u ∈ slots, u.cue = 0
      · rw [if_pos hin]
        exact hskip.trans (if_pos hin)
      · rw [if_neg hin]
        exact hskip.trans (if_neg hin)
  case ring =>
    intro spb inSlots beyond some' k slots w
    have hbeyond : v.beyondSlots spb r = beyond := v.beyondSlots_eq spb r
    have hskip := (Voice.skip_ring (x := x) hv hr d v).trans (v.skipRing_eq spb c.length d (x.take c) r)
    rw [hbeyond] at hskip
    by_cases hend : c.length ≠ 0 ∧ some' ≤ d ∧ some' ≤ inSlots + beyond
    · rw [if_pos hend]
      exact hskip.trans (if_pos hend)
    · rw [if_neg hend]
      replace hskip := hskip.trans (if_neg hend)
      by_cases hover : inSlots + beyond ≤ d ∧ (x.take c).state = .ended
      · rw [if_pos hover]
        exact hskip.trans (if_pos hover)
      · rw [if_neg hover]
        replace hskip := hskip.trans (if_neg hover)
        by_cases hin : ∃ u ∈ slots, u.cue = 0
        · rw [if_pos hin]
          exact hskip.trans (if_pos hin)
        · rw [if_neg hin]
          replace hskip := hskip.trans (if_neg hin)
          have hw : w.cursor = v.cursor := rfl
          split
          · rename_i p b least hcur
            exact hskip.trans (congrArg (Skip.moved k) (Voice.cursorOn_target (v := w) (hw.trans hcur)))
          · rename_i hcur
            exact hskip.trans (congrArg (Skip.moved k) (Voice.cursorOn_other (v := w) fun p b least h => hcur p b least (hw.symm.trans h)))
end

section
/-! PROOFS. The arbiter's order, and what each grant puts at the store port (O43). -/

namespace Sys2Proof.Machine

/-! ### What waits, and in which order (R147, R148) -/

theorem Voice.waits_iff (v : Voice) : v.waits = true ↔ ∃ r, v.req = .waiting r := by
  unfold Voice.waits
  cases v.req <;> simp

theorem Voice.urgent_iff (v : Voice) :
    v.urgent = true ↔ (v.state = .playing ∨ v.state = .starved) ∧ (v.slots.filter (fun u => u.status.isSome)).length < 2 := by
  rw [Voice.urgent, Bool.and_eq_true, Bool.or_eq_true, decide_eq_true_eq, decide_eq_true_eq, decide_eq_true_eq]
  exact Iff.rfl

theorem Siu.waits_iff (u : Siu) : u.waits = true ↔ ∃ j, u.stage = .judged j := by
  unfold Siu.waits
  cases u.stage <;> simp

theorem Ctu.waits_iff (c : Ctu) : c.waits = true ↔ ∃ p, c = .holding p .waiting := by
  unfold Ctu.waits
  split
  · simp
  · rename_i h
    simp only [Bool.false_eq_true, false_iff, not_exists]
    exact fun p hp => h p hp

/-- R148: how far a voice stands behind the last-voice record. -/
def roundDistance (last v : Fin 32) : Nat := (v.val + 31 - last.val) % 32

theorem searchOrder_sorted : ∀ last : Fin 32, (searchOrder last).Pairwise (fun a b => roundDistance last a < roundDistance last b) := by
  decide +kernel

/-- The first element that meets a test, in a list in rising order of a key. -/
theorem find?_of_keyed {α : Type} {p : α → Bool} {key : α → Nat} {a : α} {l : List α} (hs : l.Pairwise (fun x y => key x < key y))
    (ha : a ∈ l) (hp : p a = true) (hb : ∀ b ∈ l, p b = true → key a ≤ key b) : l.find? p = some a := by
  induction l with
  | nil => cases ha
  | cons x l ih =>
    obtain ⟨hx, hl⟩ := List.pairwise_cons.1 hs
    rcases List.mem_cons.1 ha with rfl | ha
    · rw [List.find?_cons_of_pos (p := p) hp]
    · rw [List.find?_cons_of_neg (p := p), ih hl ha fun b hm => hb b (List.mem_cons_of_mem _ hm)]
      exact fun hpx => absurd (hx a ha) (Nat.not_lt.2 (hb x (by simp) hpx))

/-- R148: the voice of a level that stands first after the last-voice record. -/
theorem Device.pickVoice_first {d : Device} {level : Voice → Bool} {v : Fin 32} (hw : (d.voice v).waits = true) (hl : level (d.voice v) = true)
    (hf : ∀ u, (d.voice u).waits = true → level (d.voice u) = true → roundDistance d.smc.lastVoice v ≤ roundDistance d.smc.lastVoice u) :
    d.pickVoice level = some v := by
  refine find?_of_keyed (searchOrder_sorted d.smc.lastVoice) (mem_searchOrder _ v) (Bool.and_eq_true_iff.2 ⟨hw, hl⟩) fun u _ hu => ?_
  obtain ⟨hu, hul⟩ := Bool.and_eq_true_iff.1 hu
  exact hf u hu hul

theorem Device.choose_urgent {d : Device} {v : Fin 32} (h : d.smc.debt ≠ 8) (hu : d.pickVoice Voice.urgent = some v) :
    d.choose = some (.fetch v) := by
  have h' : ¬ d.smc.debt = Config.debtMax := h
  unfold Device.choose
  rw [if_neg h', hu]

theorem Device.choose_intake {d : Device} (h : d.smc.debt ≠ 8) (hu : d.pickVoice Voice.urgent = none) (hi : d.siu.waits = true) :
    d.choose = some .intake := by
  have h' : ¬ d.smc.debt = Config.debtMax := h
  unfold Device.choose
  rw [if_neg h', hu]
  exact if_pos hi

theorem Device.choose_normal {d : Device} {v : Fin 32} (h : d.smc.debt ≠ 8) (hu : d.pickVoice Voice.urgent = none)
    (hi : ¬ d.siu.waits = true) (hv : d.pickVoice (fun v => !v.urgent) = some v) : d.choose = some (.fetch v) := by
  have h' : ¬ d.smc.debt = Config.debtMax := h
  unfold Device.choose
  rw [if_neg h', hu, hv]
  exact if_neg hi

/-- R148: with no voice and no intake write waiting. -/
theorem Device.choose_rest {d : Device} (h : d.smc.debt ≠ 8) (hv : ∀ v, ¬ (d.voice v).waits = true) (hi : ¬ d.siu.waits = true) :
    d.choose = if 1 ≤ d.smc.debt then some .refresh else d.chooseLast := by
  have hnone : ∀ level, d.pickVoice level = none := fun level => (d.pickVoice_eq_none level).2 fun v hw => absurd hw (hv v)
  have h' : ¬ d.smc.debt = Config.debtMax := h
  unfold Device.choose
  rw [if_neg h', hnone, hnone]
  exact if_neg hi

/-! ### What a grant puts at the port (R135, R143, R147) -/

theorem Device.grant_of_choose {d : Device} {c : Choice} (hp : d.smc.port = none) (ha : d.pwc.power = .active) (hr : d.smc.reinit = false)
    (hc : d.choose = some c) : d.grant = d.grantChoice c := by
  have hm : d.mayGrant = true := d.mayGrant_iff.2 ⟨hp, ha, hr⟩
  rw [Device.grant, if_pos hm, hc]

theorem Device.grant_still {d : Device} (h : d.smc.port ≠ none ∨ d.pwc.power ≠ .active ∨ d.smc.reinit = true) : d.grant = d := by
  have hm : ¬ d.mayGrant = true := by
    rw [d.mayGrant_iff]
    rintro ⟨hp, ha, hr⟩
    rcases h with h | h | h
    · exact h hp
    · exact h ha
    · rw [hr] at h
      cases h
  rw [Device.grant, if_neg hm]

theorem Bli.departed_eq (b : Bli) : b.departed = { b with flow := if b.flow = .hold ∧ b.sampleQ.length ≤ 4 then .release else b.flow } := by
  unfold Bli.departed
  split_ifs <;> rfl

theorem Device.popSample_eq (d : Device) :
    d.popSample = d.setBli { d.bli with
      sampleQ := d.bli.sampleQ.tail
      flow := if d.bli.flow = .hold ∧ d.bli.sampleQ.tail.length ≤ 4 then .release else d.bli.flow } := by
  rw [Device.popSample, Bli.departed_eq]

/-- R143: whether the record matches a write. -/
theorem Smc.injects_eq (m : Smc) (t : Fin 64) (b : BlockNo) :
    m.injects t b = match m.injection with
      | some i => i.armed && decide (i.take = t ∧ i.block = b)
      | none => false := by
  unfold Smc.injects
  cases m.injection with
  | none => rfl
  | some i =>
    show (i.armed && decide (i.take = t) && decide (i.block = b)) = (i.armed && decide (i.take = t ∧ i.block = b))
    rw [Bool.and_assoc, Bool.decide_and]

theorem Smc.disarm_if (m : Smc) (hit : Bool) :
    (if hit then m.disarm else m) =
      { m with injection := if hit then m.injection.map (fun i => { i with armed := false }) else m.injection } := by
  cases hit <;> rfl

theorem Device.grantIntake_eq {d : Device} {j : Judged} (h : d.siu.stage = .judged j) :
    let hit := d.smc.injects j.take j.packet.seq
    d.grantIntake = (d.popSample.setSiu { d.siu with stage := .writing j }).setSmc
      { (if hit then d.smc.disarm else d.smc) with port := some (.intake j.addr (j.image hit)) } := by
  unfold Device.grantIntake
  rw [h]

theorem Device.grantFetch_eq {d : Device} {v : Fin 32} {r : FetchReq} (h : (d.voice v).req = .waiting r) :
    d.grantFetch v = (d.setVoice v { d.voice v with req := .granted r }).setSmc { d.smc with port := some (.fetch v r), lastVoice := v } := by
  unfold Device.grantFetch
  rw [h]

theorem Device.grantPeek_eq {d : Device} {p : PeekReq} {st : Stage} (h : d.ctu = .holding p st) :
    d.grantPeek = (d.setCtu (.holding p .granted)).setSmc { d.smc with port := some (.peek p.addr) } := by
  unfold Device.grantPeek
  rw [h]
  rfl

theorem Device.grantSelftest_step {d : Device} (h : d.smc.engine.state ≠ .clearing) :
    let e := d.smc.engine
    d.grantSelftest = d.setSmc { d.smc with
      port := some (.selftest e.pattern e.pass e.pos)
      engine := { e with stage := .granted, written := if e.pos.seg ∈ e.written then e.written else e.written ++ [e.pos.seg] } } := by
  unfold Device.grantSelftest
  dsimp only
  split
  · rename_i hc
    exact absurd hc h
  · simp only [List.contains_iff_mem]

theorem Device.grantSelftest_clearing {d : Device} {g : Fin 64} {rest : List (Fin 64)} (h : d.smc.engine.state = .clearing)
    (hg : d.smc.engine.clearing = g :: rest) :
    d.grantSelftest = d.setSmc { d.smc with
      port := some (.clearing (g.val * 33554432 + d.smc.engine.clearBlock * 1024)), engine := { d.smc.engine with stage := .granted } } := by
  have haddr : d.smc.engine.clearAddress = g.val * 33554432 + d.smc.engine.clearBlock * 1024 := by
    rw [Engine.clearAddress, hg]
    rfl
  unfold Device.grantSelftest
  dsimp only
  split
  · rw [haddr]
  · rename_i hn
    exact absurd h hn

end Sys2Proof.Machine

open Sys2Proof Sys2Proof.Machine

/-- Settles O43: the order of the levels, the round-robin by distance, and each grant by its choice. -/
theorem arbiterOrder : Obligations.ArbiterOrder := by
  refine ⟨fun d => ?order, fun d hp ha hr => ?grants⟩
  case order =>
    intro waits urgent distance firstOf intake peek
    have hwaits : ∀ v, (d.voice v).waits = true ↔ waits v := fun v => (d.voice v).waits_iff
    have hurgent : ∀ v, (d.voice v).urgent = true ↔ urgent v := fun v => (d.voice v).urgent_iff
    have hcalm : ∀ v, (!(d.voice v).urgent) = true ↔ ¬ urgent v := fun v => by rw [Bool.not_eq_true', ← Bool.not_eq_true, hurgent]
    have hintake : d.siu.waits = true ↔ intake := d.siu.waits_iff
    have hpeek : d.ctu.waits = true ↔ peek := d.ctu.waits_iff
    have hnone : (∀ v, waits v → ¬ urgent v) → d.pickVoice Voice.urgent = none := fun h =>
      (d.pickVoice_eq_none _).2 fun v hw => Bool.eq_false_of_not_eq_true (mt (hurgent v).1 (h v ((hwaits v).1 hw)))
    have hrest : d.smc.debt ≠ 8 → (∀ v, ¬ waits v) → ¬ intake → d.choose = if 1 ≤ d.smc.debt then some .refresh else d.chooseLast :=
      fun h hv hi => Device.choose_rest h (fun v => mt (hwaits v).1 (hv v)) (mt hintake.1 hi)
    refine ⟨fun h => ?_, fun h v hv => ?_, fun h hv hi => ?_, fun h hv hi v hf => ?_, fun h hv hi => ⟨fun h0 => ?_, fun h0 hk => ?_,
      fun h0 hk ht => ?_, fun h0 hk ht he => ?_, fun h0 hk ht he => ?_⟩, Device.grant_still, fun hp ha hr v r hc hq => ?_, fun hp ha hr hc => ?_⟩
    · exact if_pos h
    · obtain ⟨hw, hu, hfirst⟩ := hv
      exact Device.choose_urgent h (Device.pickVoice_first ((hwaits v).2 hw) ((hurgent v).2 hu)
        fun u hw hu => hfirst u ((hwaits u).1 hw) ((hurgent u).1 hu))
    · exact Device.choose_intake h (hnone hv) (hintake.2 hi)
    · obtain ⟨hw, hu, hfirst⟩ := hf
      have hpick : d.pickVoice (fun v => !v.urgent) = some v := Device.pickVoice_first ((hwaits v).2 hw) ((hcalm v).2 hu)
        fun u hw hu => hfirst u ((hwaits u).1 hw) ((hcalm u).1 hu)
      exact Device.choose_normal h (hnone hv) (mt hintake.1 hi) hpick
    · rw [hrest h hv hi, if_pos (Nat.one_le_iff_ne_zero.2 h0)]
    · rw [hrest h hv hi, if_neg (by omega), Device.chooseLast, if_pos (hpeek.2 hk)]
    · rw [hrest h hv hi, if_neg (by omega), Device.chooseLast, if_neg (mt hpeek.1 hk), if_pos ht]
    · rw [hrest h hv hi, if_neg (by omega), Device.chooseLast, if_neg (mt hpeek.1 hk), if_neg ht, if_pos he]
    · rw [hrest h hv hi, if_neg (by omega), Device.chooseLast, if_neg (mt hpeek.1 hk), if_neg ht, if_neg he]
    · exact (Device.grant_of_choose hp ha hr hc).trans (Device.grantFetch_eq hq)
    · exact Device.grant_of_choose hp ha hr hc
  case grants =>
    intro e
    have granted : ∀ c, d.choose = some c → d.grant = d.grantChoice c := fun c hc => Device.grant_of_choose hp ha hr hc
    refine ⟨fun j hc hj => ?_, fun p hc hq => (granted _ hc).trans (Device.grantPeek_eq hq), fun hc => granted _ hc,
      fun hc hs => (granted _ hc).trans (Device.grantSelftest_step hs), fun g rest hc hs hg =>
        (granted _ hc).trans (Device.grantSelftest_clearing hs hg)⟩
    intro hit check image
    have hhit : d.smc.injects j.take j.packet.seq = hit := d.smc.injects_eq j.take j.packet.seq
    have hgrant := (granted _ hc).trans (Device.grantIntake_eq hj)
    rw [hhit, Device.popSample_eq, Smc.disarm_if] at hgrant
    exact hgrant
end

section
/-! PROOFS. The completions of voice, verify and peek reads (O44, O47). -/

namespace Sys2Proof.Machine

/-! ### What a completed read fills (R59, R60, R61) -/

theorem slotStatus_eq (r : FetchReq) (b : Block) (s : Slot) :
    slotStatus r b s =
      if b.judge r.opening r.block = .valid ∧ r.ring = false ∧ b.count < s.first + s.count then .corrupt else b.judge r.opening r.block := by
  unfold slotStatus
  cases h : b.judge r.opening r.block with
  | valid =>
    simp only [true_and]
  | absent => exact (if_neg (by rintro ⟨h, -⟩; cases h)).symm
  | corrupt => exact (if_neg (by rintro ⟨h, -⟩; cases h)).symm

/-- R60: the only RESERVED slot is filled; one left with no sample is EMPTY at once. -/
theorem fillSlots_eq {r : FetchReq} {b : Block} {pre post : List Slot} {u : Slot} (hu : u.status = none)
    (h : ∀ w ∈ pre ++ post, w.status ≠ none ∧ w.played < w.count) :
    fillSlots r b (pre ++ u :: post) = if u.played < (u.fill r b).count then pre ++ u.fill r b :: post else pre ++ post := by
  have keep : ∀ ws : List Slot, (∀ w ∈ ws, w.status ≠ none ∧ w.played < w.count) → fillSlots r b ws = ws := by
    intro ws hws
    have hmap : ws.map (fun s => if s.filled then s else s.fill r b) = ws :=
      (List.map_congr_left fun w hw => if_pos (w.filled_iff.2 (hws w hw).1)).trans (List.map_id' ws)
    rw [fillSlots, hmap]
    exact List.filter_eq_self.2 fun w hw => decide_eq_true (hws w hw).2
  have split : ∀ ws vs : List Slot, fillSlots r b (ws ++ vs) = fillSlots r b ws ++ fillSlots r b vs := by
    intro ws vs
    rw [fillSlots, List.map_append, List.filter_append]
    rfl
  have hone : fillSlots r b [u] = if u.played < (u.fill r b).count then [u.fill r b] else [] := by
    have hnf : ¬ u.filled = true := mt u.filled_iff.1 (not_not.2 hu)
    have hmap : [u].map (fun s => if s.filled then s else s.fill r b) = [u.fill r b] := congrArg (fun s => [s]) (if_neg hnf)
    rw [fillSlots, hmap]
    by_cases hlt : u.played < (u.fill r b).count
    · rw [if_pos hlt]
      exact List.filter_cons_of_pos (p := fun s : Slot => decide (s.played < s.count)) (decide_eq_true hlt)
    · rw [if_neg hlt]
      exact List.filter_cons_of_neg (p := fun s : Slot => decide (s.played < s.count)) (mt of_decide_eq_true hlt)
  rw [split, keep pre fun w hw => h w (List.mem_append_left _ hw), show u :: post = [u] ++ post from rfl, split, hone,
    keep post fun w hw => h w (List.mem_append_right _ hw)]
  split_ifs <;> simp

theorem find?_reserved {pre post : List Slot} {u : Slot} (hu : u.status = none) (h : ∀ w ∈ pre ++ post, w.status ≠ none ∧ w.played < w.count) :
    (pre ++ u :: post).find? (fun s => !s.filled) = some u := by
  have hpre : pre.find? (fun s => !s.filled) = none := by
    refine List.find?_eq_none.2 fun w hw => ?_
    rw [w.filled_iff.2 (h w (List.mem_append_left _ hw)).1]
    exact nofun
  have hnf : (!u.filled) = true := by
    rw [Bool.not_eq_true', ← Bool.not_eq_true]
    exact mt u.filled_iff.1 (not_not.2 hu)
  rw [List.find?_append, hpre, Option.none_or]
  exact List.find?_cons_of_pos (p := fun s : Slot => !s.filled) hnf

/-- R61: the number of the take that a slot's cue names. -/
def Voice.takeNumber (v : Voice) (s : Slot) : Nat :=
  match v.cues[s.cue]? with
  | some c => c.take.val
  | none => 0

/-- R61: a completion of a status counts it, and reports it once. -/
theorem Voice.countConceal_eq (x : Ctx) (enabled : Bool) {s : Slot} {st : BlockStatus} (v : Voice) (h : s.status = some st) :
    v.countConceal x enabled s =
      let absent := if st = .absent then min 65535 (v.absentCount + 1) else v.absentCount
      let corrupt := if st = .corrupt then min 65535 (v.corruptCount + 1) else v.corruptCount
      ({ v with
          absentCount := absent, corruptCount := corrupt
          concealReported := v.concealReported || (decide (st ≠ .valid) && enabled) },
        if st = .valid ∨ v.concealReported = true then [] else [evConceal x s.label (v.takeNumber s) s.block st absent corrupt]) := by
  unfold Voice.countConceal
  rw [h]
  cases st with
  | valid =>
    refine Prod.ext ?_ rfl
    show v = { v with concealReported := v.concealReported || false }
    rw [Bool.or_false]
  | absent => cases hr : v.concealReported <;> rfl
  | corrupt => cases hr : v.concealReported <;> rfl

theorem Voice.fill_eq {x : Ctx} {enabled : Bool} {r : FetchReq} {b : Block} {v : Voice} {s : Slot}
    (h : v.slots.find? (fun s => !s.filled) = some s) :
    v.fill x enabled r b =
      ({ v with slots := fillSlots r b v.slots, req := .none, assigned := assignedAfter v s (s.fill r b) } : Voice).countConceal x enabled
        (s.fill r b) := by
  unfold Voice.fill
  rw [h]

/-! ### The completion at the port (R58, R60, R147) -/

/-- R60, R147: a completion of the voice read in flight. -/
theorem fetchCompletes_eq {m : List Host.Cell} {d : Device} {v : Fin 32} {r : FetchReq} (h : d.smc.port = some (.fetch v r)) :
    fetchCompletes m d = (d.takeFetch v r (readBlock m r.addr)).freePort := by
  unfold fetchCompletes
  rw [h]

theorem fetchCompletes_none {m : List Host.Cell} {d : Device} (h : ∀ v r, d.smc.port ≠ some (.fetch v r)) : fetchCompletes m d = d := by
  unfold fetchCompletes
  split
  · rename_i v r hp
    exact absurd hp (h v r)
  · rfl

/-! ### Verify reads (R126, R127, R129) -/

theorem Verify.counted_eq (r : Verify) (st : BlockStatus) :
    r.counted st = { r with
      checked := min 4294967295 (r.checked + 1)
      absent := if st = .absent then min 4294967295 (r.absent + 1) else r.absent
      corrupt := if st = .corrupt then min 4294967295 (r.corrupt + 1) else r.corrupt
      firstBad := if r.firstBad = .none ∧ st ≠ .valid then some (r.next, st) else r.firstBad
      next := r.next + 1 } := by
  have hbad : (r.counted st).firstBad = if r.firstBad = .none ∧ st ≠ .valid then some (r.next, st) else r.firstBad := by
    unfold Verify.counted
    cases hb : r.firstBad with
    | some b => rfl
    | none => cases st <;> rfl
  rw [← hbad]
  rfl

/-- R126: the next block of the range is requested. -/
theorem Device.verifyRead_more {d : Device} {b : Block} {r' : Verify}
    (hr : (d.take d.tks.verifyTake).verify.counted (b.judge (d.take d.tks.verifyTake).verify.opening (d.take d.tks.verifyTake).verify.next) = r')
    (h : r'.checked < r'.size) : d.verifyRead b = (d.setVerify d.tks.verifyTake r').setVerifyStage .waiting := by
  unfold Device.verifyRead
  dsimp only
  rw [hr, if_pos h]

/-- R127: after the last block the verify is done. -/
theorem Device.verifyRead_last {d : Device} {b : Block} {r' : Verify}
    (hr : (d.take d.tks.verifyTake).verify.counted (b.judge (d.take d.tks.verifyTake).verify.opening (d.take d.tks.verifyTake).verify.next) = r')
    (h : ¬ r'.checked < r'.size) :
    d.verifyRead b =
      ((d.setVerify d.tks.verifyTake { r' with state := .done }).setVerifyStage .idle).post
        (evVerifyDone d.tks.verifyTake { r' with state := .done } .done) := by
  have hself : ((d.setVerify d.tks.verifyTake r').take d.tks.verifyTake) = { d.take d.tks.verifyTake with verify := r' } :=
    Device.take_setTake_self ..
  have hset : (d.setVerify d.tks.verifyTake r').setVerify d.tks.verifyTake { r' with state := .done } =
      d.setVerify d.tks.verifyTake { r' with state := .done } := by
    rw [Device.setVerify, hself, Device.setVerify, Device.setTake_setTake]
    rfl
  unfold Device.verifyRead
  dsimp only
  rw [hr, if_neg h, Device.verifyDone, hself]
  dsimp only
  rw [hset]

theorem verifyCompletes_eq {m : List Host.Cell} {d : Device} {t : Fin 64} {a : Nat} (h : d.smc.port = some (.verify t a)) :
    verifyCompletes m d = (d.takeVerify (readBlock m a)).freePort := by
  unfold verifyCompletes
  rw [h]

theorem verifyCompletes_none {m : List Host.Cell} {d : Device} (h : ∀ t a, d.smc.port ≠ some (.verify t a)) : verifyCompletes m d = d := by
  unfold verifyCompletes
  split
  · rename_i t a hp
    exact absurd hp (h t a)
  · rfl

theorem Verify.badBytes_eq (r : Verify) : r.badBytes = match r.firstBad with
    | some (b, st) => 0#8 :: (leBytes 4 b.toNat ++ match st with
      | .valid => [0#8]
      | .absent => [1#8]
      | .corrupt => [2#8])
    | .none => [1#8] := by
  unfold Verify.badBytes
  cases r.firstBad with
  | none => rfl
  | some bad =>
    obtain ⟨b, st⟩ := bad
    cases st <;> simp [record, leBytes, BlockStatus.code]

theorem VerifyEnd.code_bytes (how : VerifyEnd) : leBytes 1 how.code = [match how with
    | .done => 0#8
    | .aborted => 1#8] := by
  cases how <;> rfl

/-! ### Peek reads (R128) -/

theorem peekCompletes_eq {m : List Host.Cell} {d : Device} {a : Nat} (h : d.smc.port = some (.peek a)) :
    peekCompletes m d = ((d.takePeek (readBlock m a)).freePort).runCtu := by
  unfold peekCompletes
  rw [h]

theorem peekCompletes_none {m : List Host.Cell} {d : Device} (h : ∀ a, d.smc.port ≠ some (.peek a)) : peekCompletes m d = d := by
  unfold peekCompletes
  split
  · rename_i a hp
    exact absurd hp (h a)
  · rfl

theorem Device.takePeek_none {d : Device} {b : Block} (h : ∀ p, d.ctu ≠ .holding p .granted) : d.takePeek b = d := by
  unfold Device.takePeek
  split
  · rename_i p hp
    exact absurd hp (h p)
  · rfl

theorem Device.takePeek_granted {d : Device} {b : Block} {p : PeekReq} (h : d.ctu = .holding p .granted) :
    d.takePeek b = (d.pushReply (peekReply p b)).setCtu .free := by
  unfold Device.takePeek
  rw [h]

theorem flagByte_eq (b : Bool) : flagByte b = [if b then 1#8 else 0#8] := by
  cases b <;> rfl

theorem peekFields_eq (b : Block) (opening : Nat) (number : BlockNo) :
    peekFields b opening number =
      [[leBytes 3 b.opening], [leBytes 4 b.number.toNat], [leBytes 2 b.count], [leBytes 1 b.format], [[if b.last then 1#8 else 0#8]],
        [leBytes 2 b.check.toNat], [[if b.opening = opening ∧ b.number = number then 1#8 else 0#8]],
        [[if b.checkRight then 1#8 else 0#8]], [b.payload]] := by
  have hfits : flagByte (b.fits opening number) = [if b.opening = opening ∧ b.number = number then 1#8 else 0#8] := by
    rw [flagByte_eq]
    refine congrArg (fun x => [x]) (if_congr ?_ rfl rfl)
    rw [Block.fits, Bool.and_eq_true, decide_eq_true_eq, decide_eq_true_eq]
  rw [peekFields, flagByte_eq, hfits, flagByte_eq]
  rfl

end Sys2Proof.Machine

open Sys2Proof Sys2Proof.Machine

/-- Settles O44: the completion by its request, and the slot it fills by what the block is judged. -/
theorem fetchesFillSlots : Obligations.FetchesFillSlots := by
  refine ⟨fun s v r hp => ⟨fun hq => ?stands, fun hq => ?released⟩, fun s hp => ?none, fun x enabled r b v pre post u hs hu hrest => ?fills⟩
  case stands =>
    refine onDevice_eq ?_
    rw [fetchCompletes_eq hp, Device.takeFetch, if_pos hq, Device.freePort, Device.release, Device.onVoice_smc]
    rfl
  case released =>
    refine onDevice_eq ?_
    rw [fetchCompletes_eq hp, Device.takeFetch, if_neg hq]
    rfl
  case none => exact onDevice_eq (fetchCompletes_none hp)
  case fills =>
    intro judged st n filled w
    have hst : slotStatus r b u = st := slotStatus_eq r b u
    have hcount : slotCount r b st u = n := rfl
    have hfilled : u.fill r b = filled := by
      rw [Slot.fill, hst]
      rfl
    have hstatus : (u.fill r b).status = some st := by rw [hfilled]
    have hfind : v.slots.find? (fun s => !s.filled) = some u := by rw [hs]; exact find?_reserved hu hrest
    have hslots : fillSlots r b v.slots = if u.played < n then pre ++ filled :: post else pre ++ post := by
      rw [hs, fillSlots_eq hu hrest, hfilled]
    have hassigned : assignedAfter v u (u.fill r b) = if v.cursor.cue = some u.cue then v.assigned - (u.count - n) else v.assigned := by
      rw [hfilled]
      rfl
    have hfill := (Voice.fill_eq (x := x) (enabled := enabled) (r := r) (b := b) hfind).trans (Voice.countConceal_eq x enabled _ hstatus)
    have hw : w = _ := congrArg Prod.fst hfill
    have hevents : (v.fill x enabled r b).2 = _ := congrArg Prod.snd hfill
    refine ⟨by rw [hw]; exact hslots, by rw [hw]; exact hassigned, by rw [hw], by rw [hw], by rw [hw], by rw [hw], by rw [hw], by rw [hw],
      by rw [hw], fun h => hevents.trans (if_pos h), fun c hne hr hc => ?_, rfl⟩
    have hreport : ¬ (st = .valid ∨ v.concealReported = true) := by
      rw [hr]
      rintro (h | h)
      · exact hne h
      · cases h
    have hcode : leBytes 1 st.code = [if st = .absent then 1#8 else 2#8] := by
      cases hk : st with
      | valid => exact absurd hk hne
      | absent => rfl
      | corrupt => rfl
    have htake : (v.takeNumber u) = c.take.val := by rw [Voice.takeNumber, hc]
    rw [hevents, hw]
    refine (if_neg hreport).trans ?_
    rw [hfilled]
    show [evConceal x u.label (v.takeNumber u) u.block st _ _] = _
    rw [htake, evConceal, num, num, num, num, hcode]
    rfl
/-- Settles O47: the verify's read by what its record has left, the peek's read by what waits for it, and VERIFY_DONE field by field. -/
theorem readsComplete : Obligations.ReadsComplete := by
  refine ⟨fun s => ?reads, fun t r how => ?done⟩
  case reads =>
    intro d freed
    refine ⟨fun h => onDevice_eq (verifyCompletes_none h), fun h => onDevice_eq (peekCompletes_none h), fun t a hp hv => ?_,
      fun t a hp hv => ?verify, fun a hp hc => ?_, fun a p hp hc => ?peek⟩
    · refine onDevice_eq ?_
      rw [verifyCompletes_eq hp, Device.takeVerify, if_neg hv]
      rfl
    case verify =>
      intro u r st r' after
      have hr : (d.take d.tks.verifyTake).verify.counted ((readBlock s.mem a).judge (d.take d.tks.verifyTake).verify.opening
          (d.take d.tks.verifyTake).verify.next) = r' := Verify.counted_eq _ _
      have hread : verifyCompletes s.mem d = (d.verifyRead (readBlock s.mem a)).freePort := by
        rw [verifyCompletes_eq hp, Device.takeVerify, if_pos hv]
      refine ⟨fun hlt => onDevice_eq ?_, fun hle => onDevice_eq ?_⟩
      · refine hread.trans ?_
        rw [Device.verifyRead_more hr hlt]
        rfl
      · refine hread.trans ?_
        rw [Device.verifyRead_last hr (Nat.not_lt.2 hle)]
        rfl
    · refine onDevice_eq ?_
      rw [peekCompletes_eq hp, Device.takePeek_none hc]
      rfl
    case peek =>
      intro b reply
      have hreply : peekReply p b = reply := by
        rw [peekReply, peekFields_eq]
      refine onDevice_eq ?_
      rw [peekCompletes_eq hp, Device.takePeek_granted hc, hreply]
      rfl
  case done =>
    intro result bad
    have hresult : leBytes 1 how.code = [result] := how.code_bytes
    have hbad : r.badBytes = bad := r.badBytes_eq
    have hcounts : r.countBytes = leBytes 4 r.checked ++ leBytes 4 r.absent ++ leBytes 4 r.corrupt := by
      rw [Verify.countBytes]
      simp only [record, List.flatten_cons, List.flatten_nil, List.append_nil, List.append_assoc]
    rw [evVerifyDone, num, num, hresult, hbad, hcounts]
    rfl
end

section
/-! PROOFS. The intake: its judgements, and its completed writes (O45, O46). -/

namespace Sys2Proof.Machine

/-! ### Judgements (R135 to R137, R140) -/

/-- R135: with an intake not free, an empty queue or a part not ACTIVE nothing is judged. -/
theorem Device.judgeHead_still {d : Device} (h : d.siu.stage ≠ .idle ∨ d.bli.sampleQ = [] ∨ d.pwc.power ≠ .active) : d.judgeHead = d := by
  unfold Device.judgeHead
  split
  · rename_i p rest hs hq
    rcases h with h | h | h
    · exact absurd hs h
    · rw [hq] at h
      cases h
    · exact if_neg h
  · rfl

theorem Device.judgeHead_acts {d : Device} {p : SamplePkt} {rest : List SamplePkt} (hs : d.siu.stage = .idle)
    (hq : d.bli.sampleQ = p :: rest) (hp : d.pwc.power = .active) : d.judgeHead = d.actOn p (d.judgement p) := by
  unfold Device.judgeHead
  rw [hs, hq]
  exact if_pos hp

/-- R136: whether a packet's format and count suit its take. -/
def SamplePkt.Suits (p : SamplePkt) (t : Take) : Prop :=
  p.format = t.format ∧ 1 ≤ p.count ∧ p.count ≤ t.format.spb ∧ (p.last = true ∨ p.count = t.format.spb)

theorem SamplePkt.countFits_iff (p : SamplePkt) (spb : Nat) :
    p.countFits spb = true ↔ 1 ≤ p.count ∧ p.count ≤ spb ∧ (p.last = true ∨ p.count = spb) := by
  simp only [SamplePkt.countFits, Bool.and_eq_true, Bool.or_eq_true, decide_eq_true_eq, and_assoc]

theorem Device.judgement_unrouted {d : Device} {p : SamplePkt} (h : ∀ x ∈ d.siu.entries, x.tag ≠ p.tag) : d.judgement p = .unrouted := by
  have hnone : d.siu.entry p.tag = none := List.find?_eq_none.2 fun x hx => by rw [decide_eq_true_eq]; exact h x hx
  unfold Device.judgement
  rw [hnone]

theorem Device.judgement_unsuited {d : Device} {p : SamplePkt} {e : StreamEntry} (he : d.siu.entry p.tag = some e)
    (h : ¬ p.Suits (d.take e.take)) : d.judgement p = .drop e (evFormat p e (d.take e.take).format) := by
  unfold Device.judgement
  rw [he]
  dsimp only
  by_cases hf : p.format = (d.take e.take).format
  · rw [if_neg (not_not.2 hf), if_pos]
    exact Bool.eq_false_of_not_eq_true fun hc => h ⟨hf, (p.countFits_iff _).1 hc⟩
  · rw [if_pos hf]

theorem Device.judgement_suited {d : Device} {p : SamplePkt} {e : StreamEntry} (he : d.siu.entry p.tag = some e)
    (h : p.Suits (d.take e.take)) :
    ((d.take e.take).kind = .resident → d.judgement p =
      if (d.take e.take).capacity ≤ p.seq.toNat then .drop e (evRange p e (d.take e.take).capacity)
      else p.accepted e (d.take e.take) .resident) ∧
    ((d.take e.take).kind = .ring → d.judgement p = p.judgeRing e (d.take e.take)) := by
  obtain ⟨hf, hc⟩ := h
  have hfits : p.countFits (d.take e.take).format.spb ≠ false := by
    rw [(p.countFits_iff _).2 hc]
    exact nofun
  unfold Device.judgement
  rw [he]
  dsimp only
  rw [if_neg (not_not.2 hf), if_neg hfits]
  exact ⟨fun hk => by rw [hk], fun hk => by rw [hk]⟩

/-! ### Completed writes (R120, R138, R139, R141) -/

theorem intakeCompletes_eq {x : Testing} {a : Nat} {image : BlockImage} (h : x.dev.smc.port = some (.intake a image)) :
    intakeCompletes x = { dev := x.dev.takeIntake.freePort, mem := memStore x.mem a (imageBytes image) } := by
  unfold intakeCompletes
  rw [h]

theorem Device.takeIntake_writing {d : Device} {j : Judged} (h : d.siu.stage = .writing j) : d.takeIntake = d.intakeWritten j := by
  unfold Device.takeIntake
  rw [h]

theorem Device.takeIntake_other {d : Device} (h : ∀ j, d.siu.stage ≠ .writing j) : d.takeIntake = d := by
  unfold Device.takeIntake
  split
  · rename_i j hj
    exact absurd hj (h j)
  · rfl

theorem Take.stillOpen_iff (t : Take) (j : Judged) :
    t.stillOpen j = true ↔ t.opening = j.opening ∧ (t.state = .filling ∨ t.state = .live) := by
  simp only [Take.stillOpen, Bool.and_eq_true, Bool.or_eq_true, decide_eq_true_eq]

/-- R138, R141: the write is counted in the entry of its stream, and the intake is free. -/
def Device.countedWrite (j : Judged) (e : Device) : Device :=
  e.setSiu { e.siu with
    stage := .idle
    entries := if j.stands then e.siu.entries.map (fun x => if x.tag = j.packet.tag then x.countAccept else x) else e.siu.entries }

theorem Device.countedWrite_eq (j : Judged) (e : Device) :
    (if j.stands then (e.withStage .idle).setSiu ((e.withStage .idle).siu.onEntry j.packet.tag StreamEntry.countAccept) else e.withStage .idle) =
      e.countedWrite j := by
  unfold Device.countedWrite
  cases j.stands <;> rfl

theorem Device.postAll_withStage (es : List Event) (d : Device) (st : IntakeStage) : (d.withStage st).postAll es = (d.postAll es).withStage st := by
  induction es generalizing d with
  | nil => rfl
  | cons e es ih => exact ih (d.post e)

theorem Device.recordIntake_resident {d : Device} {j : Judged} (h : (d.take j.take).kind = .resident) :
    d.recordIntake j = d.setTake j.take ((d.take j.take).recordWrite j) := by
  unfold Device.recordIntake
  dsimp only
  split
  · rfl
  · rename_i hk
    rw [h] at hk
    cases hk

theorem Device.recordIntake_ring {d : Device} {j : Judged} (h : (d.take j.take).kind = .ring) :
    d.recordIntake j = ((d.setTake j.take { d.take j.take with ring := (d.take j.take).ringAfter j }).postAll
      (gapEvents (d.take j.take) j)).onVoices (fun c v => v.ringWritten c j.take) := by
  unfold Device.recordIntake
  dsimp only
  split
  · rename_i hk
    rw [h] at hk
    cases hk
  · rfl

/-- R138: what a write records is apart from the intake's stage. -/
theorem Device.recordIntake_withStage (j : Judged) (d : Device) (st : IntakeStage) :
    (d.withStage st).recordIntake j = (d.recordIntake j).withStage st := by
  cases hk : (d.take j.take).kind with
  | resident =>
    have hk' : ((d.withStage st).take j.take).kind = .resident := hk
    rw [Device.recordIntake_resident hk, Device.recordIntake_resident hk']
    rfl
  | ring =>
    have hk' : ((d.withStage st).take j.take).kind = .ring := hk
    rw [Device.recordIntake_ring hk, Device.recordIntake_ring hk', ← Device.onVoices_withStage, ← Device.postAll_withStage]
    rfl

theorem Device.intakeWritten_gone {d : Device} {j : Judged} (h : ¬ (d.take j.take).stillOpen j = true) : d.intakeWritten j = d.countedWrite j := by
  unfold Device.intakeWritten
  dsimp only
  rw [if_neg h, Bool.eq_false_of_not_eq_true h]
  exact Device.countedWrite_eq j d

theorem Device.intakeWritten_open {d : Device} {j : Judged} (h : (d.take j.take).stillOpen j = true) :
    d.intakeWritten j =
      if j.packet.last then ((d.recordIntake j).countedWrite j).closeByLast j.take else (d.recordIntake j).countedWrite j := by
  have hrecord : (d.setSiu { d.siu with stage := .idle }).recordIntake j = (d.recordIntake j).withStage .idle :=
    Device.recordIntake_withStage j d .idle
  unfold Device.intakeWritten
  dsimp only
  rw [if_pos h, h, Bool.true_and, hrecord, Device.countedWrite_eq]

theorem Device.closeByLast_resident {d : Device} {t : Fin 64} (h : (d.take t).kind = .resident) : d.closeByLast t = d.closeResident t .last := by
  unfold Device.closeByLast
  rw [h]

theorem Device.closeByLast_ring {d : Device} {t : Fin 64} (h : (d.take t).kind = .ring) : d.closeByLast t = d.endRing t .last := by
  unfold Device.closeByLast
  rw [h]

theorem Take.writtenEnd_eq (t : Take) : t.writtenEnd = match t.written.getLast? with
    | some h => h + 1
    | none => 0 := by
  unfold Take.writtenEnd
  cases t.written.getLast? <;> rfl

/-- R120: the written record after a completed write. -/
theorem Take.recordWrite_eq (t : Take) (j : Judged) :
    t.recordWrite j = { t with
      written := insertBlock j.packet.seq.toNat t.written
      lastCount := (match t.written.getLast? with
        | none => j.packet.count
        | some h => if h ≤ j.packet.seq.toNat then j.packet.count else t.lastCount) } := by
  unfold Take.recordWrite Take.writtenEnd
  dsimp only
  cases t.written.getLast? with
  | none =>
    dsimp only
    rw [if_pos (Nat.zero_le _)]
  | some h =>
    dsimp only
    simp only [Nat.add_le_add_iff_right]

/-- R141: the ring write state after a completed write. -/
theorem Take.ringAfter_eq (t : Take) (j : Judged) :
    t.ringAfter j = some (match t.ring, j.placing with
      | none, _ => ⟨j.packet.seq, j.packet.seq + 1⟩
      | some r, .late => r
      | some r, _ => { r with w := j.packet.seq + 1 }) := by
  unfold Take.ringAfter
  cases t.ring with
  | none => rfl
  | some r => cases j.placing <;> rfl

theorem gapEvents_eq (t : Take) (j : Judged) :
    gapEvents t j = match t.ring, j.placing with
      | some r, .ahead n => if n = 0 then [] else [evSeqGap j r.w n]
      | _, _ => [] := by
  unfold gapEvents
  cases t.ring with
  | none => rfl
  | some r =>
    cases j.placing with
    | ahead n =>
      show (if 0 < n then [evSeqGap j r.w n] else []) = if n = 0 then [] else [evSeqGap j r.w n]
      by_cases hn : n = 0
      · rw [if_pos hn, if_neg (by omega)]
      · rw [if_neg hn, if_pos (by omega)]
    | resident => rfl
    | first => rfl
    | late => rfl

theorem CloseCause.code_bytes (cause : CloseCause) : leBytes 1 cause.code = [match cause with
    | .control => 0#8
    | .last => 1#8] := by
  cases cause <;> rfl

theorem ringBytes_eq (o : Option RingState) : ringBytes o = match o with
    | some r => 0#8 :: (leBytes 4 r.first.toNat ++ leBytes 4 r.w.toNat)
    | none => [1#8] := by
  cases o <;> rfl

end Sys2Proof.Machine

open Sys2Proof Sys2Proof.Machine

/-- Settles O45: the judgement by the entry, the packet's fields and the take's kind, each with what it makes of the queue. -/
theorem intakeJudgesPackets : Obligations.IntakeJudgesPackets := by
  intro s d left
  refine ⟨fun h => ?still, fun p rest hs hq hp => ?judges⟩
  case still =>
    exact onDevice_eq (congrArg Device.grant (Device.judgeHead_still h))
  case judges =>
    intro popped head dropped
    have hpop : d.popSample = popped := by
      have h := d.popSample_eq
      rw [hq] at h
      exact h
    have hleft : ∀ j e, d.judgement p = j → d.actOn p j = e → left e := by
      rintro j e rfl rfl
      exact onDevice_eq (congrArg Device.grant (Device.judgeHead_acts hs hq hp))
    have hdrop : ∀ (e : StreamEntry) (ev : Event) (kind : Nat) (more : List Field),
        ev = { source := 4, kind := kind, detail := head ++ more } → d.judgement p = .drop e ev → dropped e kind more := by
      rintro e ev kind more rfl hj
      refine hleft _ _ hj ?_
      rw [Device.actOn, hpop]
      rfl
    refine ⟨fun h => ?_, fun e he => ?_⟩
    · refine hleft _ _ (Device.judgement_unrouted h) ?_
      rw [Device.actOn, hpop]
      rfl
    · intro t accepted good
      have haccept : ∀ placing, d.judgement p = p.accepted e t placing → accepted placing := fun placing hj => hleft _ _ hj rfl
      refine ⟨fun hbad => hdrop _ _ _ _ rfl (Device.judgement_unsuited he hbad), fun hgood hk hle => ?_, fun hgood hk hlt => ?_,
        fun hgood hk hr => ?_, fun r hgood hk hr => ?_⟩
      · exact hdrop _ _ _ _ rfl (((Device.judgement_suited he hgood).1 hk).trans (if_pos hle))
      · exact haccept _ (((Device.judgement_suited he hgood).1 hk).trans (if_neg (Nat.not_le.2 hlt)))
      · refine haccept _ (((Device.judgement_suited he hgood).2 hk).trans ?_)
        rw [SamplePkt.judgeRing, hr]
      · have hring : d.judgement p = if 0 ≤ (p.seq - r.w).toInt then p.accepted e t (.ahead (p.seq - r.w).toInt.toNat)
            else if (r.w - p.seq).toNat ≤ t.capacity then p.accepted e t .late else .drop e (evTooLate p e r.w) := by
          refine ((Device.judgement_suited he hgood).2 hk).trans ?_
          rw [SamplePkt.judgeRing, hr]
          rfl
        refine ⟨fun h => haccept _ (hring.trans (if_pos h)), fun h hle => ?_, fun h hlt => ?_⟩
        · exact haccept _ (hring.trans ((if_neg (Int.not_le.2 h)).trans (if_pos hle)))
        · exact hdrop _ _ _ _ rfl (hring.trans ((if_neg (Int.not_le.2 h)).trans (if_neg (Nat.not_le.2 hlt))))

/-- Settles O46: the write by its judgement and its take's kind, and a take's close or end by the rule of its unbinding. -/
theorem intakeWritesComplete : Obligations.IntakeWritesComplete := by
  refine ⟨fun s a image hp => ?write, fun j w n => rfl, fun d t cause hagree hidle => ?close⟩
  case write =>
    intro m left
    have hleft : ∀ e, s.dev.takeIntake = e → left e := by
      rintro e rfl
      show onStore intakeCompletes s = _
      rw [onStore, intakeCompletes_eq (x := ⟨s.dev, s.mem⟩) hp]
      rfl
    refine ⟨fun h => hleft _ (Device.takeIntake_other h), fun j hj => ?_⟩
    intro t openStill counted
    have hopen : t.stillOpen j = true ↔ openStill := t.stillOpen_iff j
    have hwrite : ∀ e, s.dev.intakeWritten j = e → left e := fun e he => hleft e ((Device.takeIntake_writing hj).trans he)
    have hcounted : ∀ e : Device, e.siu = s.dev.siu → e.countedWrite j = counted j.stands e := by
      intro e he
      simp only [Device.countedWrite, counted, he]
      rfl
    refine ⟨fun h => hwrite _ ?gone, fun h hk => ?resident, fun h hk => ?ring⟩
    case gone => rw [Device.intakeWritten_gone (mt hopen.1 h), hcounted _ rfl]
    case resident =>
      intro x e
      have hx : t.recordWrite j = x := t.recordWrite_eq j
      have he : (s.dev.recordIntake j).countedWrite j = e := by
        rw [Device.recordIntake_resident hk]
        exact (hcounted (s.dev.setTake j.take (t.recordWrite j)) rfl).trans
          (congrArg (fun y => counted j.stands (s.dev.setTake j.take y)) hx)
      have hkind : (e.take j.take).kind = .resident := by
        have hself : e.take j.take = x := Device.take_setTake_self ..
        rw [hself]
        exact hk
      refine hwrite _ ?_
      rw [Device.intakeWritten_open (hopen.2 h), he, Device.closeByLast_resident hkind]
    case ring =>
      intro after gap e
      have hafter : t.ringAfter j = some after := t.ringAfter_eq j
      have hgap : gapEvents t j = gap := gapEvents_eq t j
      have hrecord : s.dev.recordIntake j =
          ((s.dev.setTake j.take { t with ring := some after }).postAll gap).onVoices (fun c v => v.ringWritten c j.take) := by
        rw [Device.recordIntake_ring hk]
        rw [← hafter, ← hgap]
      have he : (s.dev.recordIntake j).countedWrite j = e := by
        rw [hrecord, hcounted]
        rw [Device.onVoices_siu, Device.postAll_siu]
        rfl
      have hkind : (e.take j.take).kind = .ring := by
        let w := s.dev.setTake j.take { t with ring := some after }
        have hset : ∀ z : Device, (counted j.stands z).tks = z.tks := fun _ => rfl
        have htks : e.tks = w.tks := (hset _).trans (by rw [Device.onVoices_tks, Device.postAll_tks])
        have hself : e.take j.take = { t with ring := some after } :=
          (congrArg (fun k : Tks => k.takes[j.take]) htks).trans (Device.take_setTake_self ..)
        rw [hself]
        exact hk
      refine hwrite _ ?_
      rw [Device.intakeWritten_open (hopen.2 h), he, Device.closeByLast_ring hkind]
  case close =>
    intro x by' n length holes gone
    have hf : d.siu.FreeOf (d.take t).tag := ⟨fun j hj => (by rw [hidle] at hj; cases hj), fun j hj => (by rw [hidle] at hj; cases hj)⟩
    have hby : leBytes 1 cause.code = [by'] := cause.code_bytes
    have hn : x.writtenEnd = n := x.writtenEnd_eq
    have hclosed : x.closed = { x with state := .ready, blockCount := n, length := length, holes := holes, written := [], lastCount := 0 } :=
      congrArg (fun n : Nat => ({ x with
        state := .ready, blockCount := n, length := if n = 0 then 0 else (n - 1) * x.format.spb + x.lastCount
        holes := n - x.written.length, written := [], lastCount := 0 } : Take)) hn
    refine ⟨?_, ?_⟩
    · rw [Device.closeResident_unbound hagree hf, hclosed, evClosed, num, num, num, hby]
      rfl
    · rw [Device.endRing_unbound hagree hf, evEnded, num, num, num, hby, ringBytes_eq]
      rfl
end

section
/-! PROOFS. The words of a self-test step: what its writes make of the store, and what its comparisons find (used by O48 and O49). -/

namespace Sys2Proof.Machine

/-! ### Words of the store -/

/-- A word reads the same when its eight bytes do. -/
theorem memWord_congr {m m' : List Host.Cell} {a : Nat} (h : ∀ x, a ≤ x → x < a + 8 → memRead m' x = memRead m x) :
    memWord m' a = memWord m a := by
  have hbytes : ∀ n b, a ≤ b → b + n ≤ a + 8 → memBytes m' b n = memBytes m b n := by
    intro n
    induction n with
    | zero => intros; rfl
    | succ n ih =>
      intro b hb hn
      rw [memBytes, memBytes, h b hb (by omega), ih (b + 1) (by omega) (by omega)]
  rw [memWord, memWord, hbytes 8 a (Nat.le_refl a) (Nat.le_refl _)]

theorem memRead_memSetWord_outside {m : List Host.Cell} {a b : Nat} {x : BitVec 64} (h : b < a ∨ a + 8 ≤ b) :
    memRead (memSetWord m a x) b = memRead m b :=
  memRead_memStore_outside m (by rw [leBytes_length]; exact h)

theorem memWord_memSetWord_apart {m : List Host.Cell} {a b : Nat} {x : BitVec 64} (h : b + 8 ≤ a ∨ a + 8 ≤ b) :
    memWord (memSetWord m a x) b = memWord m b :=
  memWord_congr fun y hy hlt => memRead_memSetWord_outside (by omega)

/-! ### The words of a sweep's order (R155) -/

theorem wordAt_eq (p : Pattern) (sweep place : Nat) :
    wordAt p sweep place = if p = .march ∧ (sweep % 6 = 3 ∨ sweep % 6 = 4) then 4194303 - place else place := by
  have hd : p.descending sweep = true ↔ p = .march ∧ (sweep % 6 = 3 ∨ sweep % 6 = 4) := by
    cases p with
    | pseudo => simp [Pattern.descending]
    | march => simp [Pattern.descending]
  by_cases h : p = .march ∧ (sweep % 6 = 3 ∨ sweep % 6 = 4)
  · rw [wordAt, if_pos (hd.2 h), if_pos h]
    rfl
  · rw [wordAt, if_neg (mt hd.1 h), if_neg h]

theorem wordAt_injective {p : Pattern} {sweep j k : Nat} (hj : j < 4194304) (hk : k < 4194304) (h : wordAt p sweep j = wordAt p sweep k) :
    j = k := by
  rw [wordAt_eq, wordAt_eq] at h
  split_ifs at h <;> omega

theorem marchB1_eq (sweep : Nat) : marchB1 sweep = ~~~marchB0 sweep := by
  unfold marchB1 marchB0
  split <;> decide

/-- R155: what a word of a sweep or element is expected to read. -/
theorem Pattern.action_expect (p : Pattern) (pass : Nat) (seg : Fin 64) (sweep word : Nat) :
    (p.action pass seg sweep word).expect = match p with
      | .pseudo => if sweep = 0 then none else some (pseudoWord (storeWord seg word) pass)
      | .march => if sweep % 6 = 0 then none else some (if sweep % 6 = 2 ∨ sweep % 6 = 4 then ~~~marchB0 sweep else marchB0 sweep) := by
  cases p with
  | pseudo =>
    show (pseudoAction sweep (storeWord seg word) pass).expect = _
    unfold pseudoAction
    split <;> rfl
  | march =>
    show (marchAction sweep).expect = _
    unfold marchAction
    rw [marchB1_eq]
    have hlt : sweep % 6 < 6 := Nat.mod_lt _ (by decide)
    generalize sweep % 6 = r at hlt
    interval_cases r <;> rfl

/-- R155: what is written to it. -/
theorem Pattern.action_write (p : Pattern) (pass : Nat) (seg : Fin 64) (sweep word : Nat) :
    (p.action pass seg sweep word).write = match p with
      | .pseudo => if sweep = 0 then some (pseudoWord (storeWord seg word) pass) else none
      | .march => if sweep % 6 = 5 then none else some (if sweep % 6 = 1 ∨ sweep % 6 = 3 then ~~~marchB0 sweep else marchB0 sweep) := by
  cases p with
  | pseudo =>
    show (pseudoAction sweep (storeWord seg word) pass).write = _
    unfold pseudoAction
    split <;> rfl
  | march =>
    show (marchAction sweep).write = _
    unfold marchAction
    rw [marchB1_eq]
    have hlt : sweep % 6 < 6 := Nat.mod_lt _ (by decide)
    generalize sweep % 6 = r at hlt
    interval_cases r <;> rfl

/-! ### What a step's writes make of the store (R154, R155, R157) -/

/-- R155: the byte address of the word at a place. -/
def placeAddress (pt : Pattern) (pos : TestPos) (place : Nat) : Nat := 8 * storeWord pos.seg (wordAt pt pos.sweep place)

/-- R155: what is written at a place. -/
def placeWrite (pt : Pattern) (pass : Nat) (pos : TestPos) (place : Nat) : Option (BitVec 64) :=
  (pt.action pass pos.seg pos.sweep (wordAt pt pos.sweep place)).write

/-- R154: the store `m'` is the store `m` with the words at the places `done` written as their actions give. -/
structure Wrote (pt : Pattern) (pass : Nat) (pos : TestPos) (done : Nat → Prop) (m m' : List Host.Cell) : Prop where
  words : ∀ k x, done k → placeWrite pt pass pos k = some x → memWord m' (placeAddress pt pos k) = x
  rest : ∀ a, (∀ k, done k → placeWrite pt pass pos k ≠ none → a < placeAddress pt pos k ∨ placeAddress pt pos k + 8 ≤ a) →
    memRead m' a = memRead m a

section
variable {pt : Pattern} {pass : Nat} {pos : TestPos}

theorem placeAddress_apart {j k : Nat} (hj : j < 4194304) (hk : k < 4194304) (h : j ≠ k) :
    placeAddress pt pos j + 8 ≤ placeAddress pt pos k ∨ placeAddress pt pos k + 8 ≤ placeAddress pt pos j := by
  have hne : wordAt pt pos.sweep j ≠ wordAt pt pos.sweep k := fun e => h (wordAt_injective hj hk e)
  simp only [placeAddress, storeWord]
  omega

theorem Wrote.none (m : List Host.Cell) : Wrote pt pass pos (fun _ => False) m m := ⟨fun _ _ h => h.elim, fun _ _ => rfl⟩

theorem Wrote.congr {done done' : Nat → Prop} {m m' : List Host.Cell} (h : Wrote pt pass pos done m m') (hd : ∀ k, done' k ↔ done k) :
    Wrote pt pass pos done' m m' :=
  ⟨fun k x hk => h.words k x ((hd k).1 hk), fun a ha => h.rest a fun k hk => ha k ((hd k).2 hk)⟩

/-- R155: a word at a place not yet written reads as before. -/
theorem Wrote.unwritten {done : Nat → Prop} {m m' : List Host.Cell} (h : Wrote pt pass pos done m m') (hlt : ∀ k, done k → k < 4194304) {k : Nat}
    (hk : k < 4194304) (hn : ¬ done k) : memWord m' (placeAddress pt pos k) = memWord m (placeAddress pt pos k) := by
  refine memWord_congr fun x hx hlt' => h.rest x fun j hj _ => ?_
  have := placeAddress_apart (pt := pt) (pos := pos) (hlt j hj) hk fun e => hn (e ▸ hj)
  omega

theorem writeWord_none {place : Nat} (m : List Host.Cell) (h : placeWrite pt pass pos place = .none) : writeWord pt pass pos place m = m := by
  have h' : (pt.action pass pos.seg pos.sweep (wordAt pt pos.sweep place)).write = .none := h
  unfold writeWord
  dsimp only
  rw [h']

theorem writeWord_some {place : Nat} {x : BitVec 64} (m : List Host.Cell) (h : placeWrite pt pass pos place = some x) :
    writeWord pt pass pos place m = memSetWord m (placeAddress pt pos place) x := by
  have h' : (pt.action pass pos.seg pos.sweep (wordAt pt pos.sweep place)).write = some x := h
  unfold writeWord
  dsimp only
  rw [h']
  rfl

/-- R155: one word more is written. -/
theorem Wrote.word {done : Nat → Prop} {m m' : List Host.Cell} (h : Wrote pt pass pos done m m') (hlt : ∀ k, done k → k < 4194304) {place : Nat}
    (hp : place < 4194304) (hn : ¬ done place) :
    Wrote pt pass pos (fun k => done k ∨ k = place) m (writeWord pt pass pos place m') := by
  cases hw : placeWrite pt pass pos place with
  | none =>
    rw [writeWord_none m' hw]
    refine ⟨fun k x hk hx => ?_, fun a ha => h.rest a fun k hk => ha k (.inl hk)⟩
    rcases hk with hk | rfl
    · exact h.words k x hk hx
    · rw [hw] at hx
      cases hx
  | some y =>
    rw [writeWord_some m' hw]
    refine ⟨fun k x hk hx => ?_, fun a ha => ?_⟩
    · rcases hk with hk | rfl
      · rw [memWord_memSetWord_apart (placeAddress_apart (hlt k hk) hp fun e => hn (e ▸ hk))]
        exact h.words k x hk hx
      · rw [hw] at hx
        cases hx
        exact memWord_memSetWord ..
    · rw [memRead_memSetWord_outside (ha place (.inr rfl) (by rw [hw]; exact nofun))]
      exact h.rest a fun k hk => ha k (.inl hk)

/-- R155: the words of a stretch of places are written. -/
theorem Wrote.stretch {done : Nat → Prop} {m m' : List Host.Cell} (h : Wrote pt pass pos done m m') (n place : Nat)
    (hd : ∀ k, done k → k < place) (hp : place + n ≤ 4194304) :
    Wrote pt pass pos (fun k => (place ≤ k ∧ k < place + n) ∨ done k) m (writeWords pt pass pos n place m') := by
  induction n generalizing done m' place with
  | zero => exact h.congr fun k => or_iff_right (by omega)
  | succ n ih =>
    have hone := h.word (fun k hk => by have := hd k hk; omega) (place := place) (by omega) fun hk => Nat.lt_irrefl _ (hd place hk)
    have hall := ih hone (place + 1) (fun k hk => by rcases hk with hk | rfl; have := hd k hk; omega; omega) (by omega)
    refine hall.congr fun k => ?_
    constructor
    · rintro (hk | hk)
      · by_cases he : k = place
        · exact .inr (.inr he)
        · exact .inl (by omega)
      · exact .inr (.inl hk)
    · rintro (hk | hk | rfl)
      · exact .inl (by omega)
      · exact .inr hk
      · exact .inl (by omega)

/-- R157: the write a step owes is made first. -/
theorem Wrote.owed (m : List Host.Cell) (hw : pos.word ≤ 4194304) (ho : pos.owed = true → 1 ≤ pos.word) :
    Wrote pt pass pos (fun k => pos.owed = true ∧ k + 1 = pos.word) m (writeOwed pt pass pos m) := by
  unfold writeOwed
  by_cases h : pos.owed = true
  · have hone := ho h
    rw [if_pos h]
    refine ((Wrote.none (pt := pt) (pass := pass) (pos := pos) m).word (fun _ hf => hf.elim) (place := pos.word - 1) (by omega) id).congr fun k => ?_
    constructor
    · rintro ⟨-, hk⟩
      exact .inr (by omega)
    · rintro (hf | hk)
      · exact hf.elim
      · exact ⟨h, by omega⟩
  · rw [if_neg h]
    exact (Wrote.none m).congr fun k => ⟨fun hk => h hk.1, False.elim⟩

/-- R154, R157: the places of a step written so far: those from its word on, and the one it owed. -/
def stepDone (pos : TestPos) (n k : Nat) : Prop := (pos.word ≤ k ∧ k < pos.word + n) ∨ (pos.owed = true ∧ k + 1 = pos.word)

/-- R154: the store after the first n words of a step. -/
def stepStore (pt : Pattern) (pass : Nat) (pos : TestPos) (n : Nat) (m : List Host.Cell) : List Host.Cell :=
  writeWords pt pass pos n pos.word (writeOwed pt pass pos m)

theorem stepStore_wrote (m : List Host.Cell) {n : Nat} (hn : pos.word + n ≤ 4194304) (ho : pos.owed = true → 1 ≤ pos.word) :
    Wrote pt pass pos (stepDone pos n) m (stepStore pt pass pos n m) :=
  (Wrote.owed m (by omega) ho).stretch n pos.word (fun k hk => by obtain ⟨-, hk⟩ := hk; omega) hn

theorem stepStore_unwritten (m : List Host.Cell) {n : Nat} (hn : pos.word + n < 4194304) (ho : pos.owed = true → 1 ≤ pos.word) :
    memWord (stepStore pt pass pos n m) (placeAddress pt pos (pos.word + n)) = memWord m (placeAddress pt pos (pos.word + n)) := by
  refine (stepStore_wrote m (Nat.le_of_lt hn) ho).unwritten (fun k hk => ?_) hn fun hk => ?_
  · rcases hk with hk | hk
    · omega
    · omega
  · rcases hk with hk | hk
    · omega
    · omega

theorem writeWords_add (j n place : Nat) (m : List Host.Cell) :
    writeWords pt pass pos (j + n) place m = writeWords pt pass pos n (place + j) (writeWords pt pass pos j place m) := by
  induction j generalizing place m with
  | zero => rw [Nat.zero_add]; rfl
  | succ j ih =>
    rw [show j + 1 + n = (j + n) + 1 by omega, writeWords, ih, writeWords, show place + 1 + j = place + (j + 1) by omega]

end

/-! ### What a step's comparisons find (R156) -/

/-- R156: the word at a place as the engine reads it. -/
def placeSeen (pt : Pattern) (pos : TestPos) (upsets : List (Nat × BitVec 64)) (m : List Host.Cell) (place : Nat) : BitVec 64 :=
  memWord m (placeAddress pt pos place) ^^^ upsetAt upsets (place - pos.word)

/-- R155: what the word at a place is expected to read. -/
def placeExpect (pt : Pattern) (pass : Nat) (pos : TestPos) (place : Nat) : Option (BitVec 64) :=
  (pt.action pass pos.seg pos.sweep (wordAt pt pos.sweep place)).expect

/-- R156: the failure that a mismatch at a place records. -/
def placeFailure (e : Engine) (pos : TestPos) (place : Nat) (expected seen : BitVec 64) : Failure :=
  { seg := pos.seg, offset := 8 * wordAt e.pattern pos.sweep place, lanes := laneMask expected seen, expected := expected, observed := seen,
    pass := e.pass }

section
variable {e : Engine} {pos : TestPos} {upsets : List (Nat × BitVec 64)} {place : Nat}

/-- R156: the comparison reads the word alone. -/
theorem mismatchAt_congr {m m' : List Host.Cell} (h : memWord m' (placeAddress e.pattern pos place) = memWord m (placeAddress e.pattern pos place)) :
    mismatchAt e pos upsets place m' = mismatchAt e pos upsets place m := by
  have h' : memWord m' (8 * storeWord pos.seg (wordAt e.pattern pos.sweep place)) =
      memWord m (8 * storeWord pos.seg (wordAt e.pattern pos.sweep place)) := h
  unfold mismatchAt
  dsimp only
  rw [h']

theorem mismatchAt_right {m : List Host.Cell}
    (h : ∀ x, placeExpect e.pattern e.pass pos place = some x → placeSeen e.pattern pos upsets m place = x) :
    mismatchAt e pos upsets place m = none := by
  unfold mismatchAt
  dsimp only
  split
  · rfl
  · rename_i x hx
    exact if_pos (h x hx)

theorem mismatchAt_wrong {m : List Host.Cell} {x : BitVec 64} (hx : placeExpect e.pattern e.pass pos place = some x)
    (hn : placeSeen e.pattern pos upsets m place ≠ x) :
    mismatchAt e pos upsets place m = some (placeFailure e pos place x (placeSeen e.pattern pos upsets m place)) := by
  have hx' : (e.pattern.action e.pass pos.seg pos.sweep (wordAt e.pattern pos.sweep place)).expect = some x := hx
  unfold mismatchAt
  dsimp only
  rw [hx']
  exact if_neg hn

theorem mismatchAt_seg {m : List Host.Cell} {f : Failure} (h : mismatchAt e pos upsets place m = some f) : f.seg = pos.seg := by
  unfold mismatchAt at h
  dsimp only at h
  split at h
  · cases h
  · split at h
    · cases h
    · cases h
      rfl

end

/-! ### The words of a step, one after another (R154, R156) -/

/-- R156: further mismatches of a segment change nothing, and none halts the engine. -/
def Smc.Steady (c : Smc) (seg : Fin 64) : Prop := c.engine.halts = false ∧ ∀ f : Failure, f.seg = seg → c.mismatched f = c

/-- R156: after a first mismatch that does not halt, further ones of the segment change nothing. -/
theorem Smc.mismatched_steady (c : Smc) (f : Failure) : (c.mismatched f).Steady f.seg := by
  refine ⟨?_, fun g hg => ?_⟩
  · show (decide (c.engine.mode = .halt) && false) = false
    rw [Bool.and_false]
  · have hsegs : (if c.engine.pass ≠ 1 ∧ (c.mismatched f).segs[f.seg] = .good then (c.mismatched f).segs.set f.seg .failed
        else (c.mismatched f).segs) = (c.mismatched f).segs := by
      refine if_neg fun h => ?_
      obtain ⟨hp, hs⟩ := h
      have hdef : (c.mismatched f).segs = if c.engine.pass ≠ 1 ∧ c.segs[f.seg] = .good then c.segs.set f.seg .failed else c.segs := rfl
      rw [hdef] at hs
      by_cases hgood : c.segs[f.seg] = .good
      · rw [if_pos ⟨hp, hgood⟩] at hs
        simp at hs
      · rw [if_neg (fun h => hgood h.2)] at hs
        exact hgood hs
    obtain ⟨seg, offset, lanes, expected, observed, pass⟩ := g
    obtain rfl : seg = f.seg := hg
    show ({ c.mismatched f with
      segs := if c.engine.pass ≠ 1 ∧ (c.mismatched f).segs[f.seg] = .good then (c.mismatched f).segs.set f.seg .failed else (c.mismatched f).segs
      engine := (c.mismatched f).engine } : Smc) = c.mismatched f
    rw [hsegs]

section
variable {pos : TestPos} {upsets : List (Nat × BitVec 64)}

/-- R154: words that read right leave the device. -/
theorem testWords_right (j n place : Nat) {x : Testing}
    (h : ∀ i < j, mismatchAt x.dev.smc.engine pos upsets (place + i)
      (writeWords x.dev.smc.engine.pattern x.dev.smc.engine.pass pos i place x.mem) = none) :
    testWords pos upsets (j + n) place x = testWords pos upsets n (place + j)
      { x with mem := writeWords x.dev.smc.engine.pattern x.dev.smc.engine.pass pos j place x.mem } := by
  induction j generalizing place x with
  | zero => rw [Nat.zero_add]; rfl
  | succ j ih =>
    have h0 : mismatchAt x.dev.smc.engine pos upsets place x.mem = none := h 0 (Nat.succ_pos j)
    rw [show j + 1 + n = (j + n) + 1 by omega, testWords]
    dsimp only
    rw [h0]
    dsimp only
    rw [ih (place + 1) (x := { x with mem := writeWord x.dev.smc.engine.pattern x.dev.smc.engine.pass pos place x.mem }) fun i hi => ?_]
    · rw [show place + 1 + j = place + (j + 1) by omega]
      rfl
    · have hi' := h (i + 1) (Nat.succ_lt_succ hi)
      rw [show place + (i + 1) = place + 1 + i by omega] at hi'
      exact hi'

/-- R156: a device that no further mismatch changes makes the rest of its step's writes. -/
theorem testWords_steady (n place : Nat) {x : Testing} (h : x.dev.smc.Steady pos.seg) :
    testWords pos upsets n place x =
      { x with mem := writeWords x.dev.smc.engine.pattern x.dev.smc.engine.pass pos n place x.mem } := by
  induction n generalizing place x with
  | zero => rfl
  | succ n ih =>
    rw [testWords]
    dsimp only
    cases hm : mismatchAt x.dev.smc.engine pos upsets place x.mem with
    | none =>
      dsimp only
      rw [ih (place + 1) (x := { x with mem := writeWord x.dev.smc.engine.pattern x.dev.smc.engine.pass pos place x.mem }) h]
      rfl
    | some f =>
      dsimp only
      have hsmc : x.dev.setSmc (x.dev.smc.mismatched f) = x.dev := by
        rw [h.2 f (mismatchAt_seg hm)]
        rfl
      rw [if_neg (by rw [h.1]; exact nofun), hsmc,
        ih (place + 1) (x := { x with mem := writeWord x.dev.smc.engine.pattern x.dev.smc.engine.pass pos place x.mem }) h]
      rfl

/-- R156: a mismatch that does not halt marks the device, and the step goes on to its end. -/
theorem testWords_marks (n place : Nat) {x : Testing} {f : Failure} (hm : mismatchAt x.dev.smc.engine pos upsets place x.mem = some f)
    (hh : x.dev.smc.engine.halts = false) :
    testWords pos upsets (n + 1) place x =
      { dev := x.dev.setSmc (x.dev.smc.mismatched f)
        mem := writeWords x.dev.smc.engine.pattern x.dev.smc.engine.pass pos (n + 1) place x.mem } := by
  rw [testWords]
  dsimp only
  rw [hm]
  dsimp only
  have hsteady : (x.dev.smc.mismatched f).Steady pos.seg := mismatchAt_seg hm ▸ x.dev.smc.mismatched_steady f
  rw [if_neg (by rw [hh]; exact nofun), testWords_steady n (place + 1) (x := { dev := x.dev.setSmc (x.dev.smc.mismatched f), mem := _ }) hsteady]
  rfl

/-- R156: one that halts leaves the rest of the step undone. -/
theorem testWords_halts (n place : Nat) {x : Testing} {f : Failure} (hm : mismatchAt x.dev.smc.engine pos upsets place x.mem = some f)
    (hh : x.dev.smc.engine.halts = true) :
    testWords pos upsets (n + 1) place x =
      { x with dev := (x.dev.setSmc { x.dev.smc.mismatched f with
          engine := (x.dev.smc.mismatched f).engine.halted place
            (placeWrite x.dev.smc.engine.pattern x.dev.smc.engine.pass pos place).isSome }).post (evSelftestHalt f) } := by
  rw [testWords]
  dsimp only
  rw [hm]
  exact if_pos hh

end

end Sys2Proof.Machine
end

section
/-! PROOFS. The steps of the self-test engine, the ends of its sweeps and the clearing (O48, O49). -/

namespace Sys2Proof.Machine

/-! ### A step of the run in hand (R154, R156, R157) -/

theorem stepWords_eq (pos : TestPos) :
    stepWords pos = if pos.owed = true ∧ pos.word % 128 = 0 then 0 else min (128 - pos.word % 128) (4194304 - pos.word) := by
  unfold stepWords
  refine if_congr ?_ rfl rfl
  rw [Bool.and_eq_true, decide_eq_true_eq]
  exact Iff.rfl

theorem stepWords_within {pos : TestPos} (h : pos.word ≤ 4194304) : pos.word + stepWords pos ≤ 4194304 := by
  rw [stepWords_eq]
  split_ifs
  · omega
  · have := Nat.min_le_right (128 - pos.word % 128) (4194304 - pos.word)
    omega

/-- R156: the word at a place of the step reads as it is expected to. -/
def Engine.Right (e : Engine) (upsets : List (Nat × BitVec 64)) (m : List Host.Cell) (k : Nat) : Prop :=
  ∀ x, placeExpect e.pattern e.pass e.pos k = some x → placeSeen e.pattern e.pos upsets m k = x

section
variable {e : Engine} {upsets : List (Nat × BitVec 64)} {m : List Host.Cell} {i : Nat}

/-- R154: each word of a step is compared as the store held it before the step. -/
theorem mismatchAt_stepStore (hn : e.pos.word + i < 4194304) (ho : e.pos.owed = true → 1 ≤ e.pos.word) :
    mismatchAt e e.pos upsets (e.pos.word + i) (stepStore e.pattern e.pass e.pos i m) = mismatchAt e e.pos upsets (e.pos.word + i) m :=
  mismatchAt_congr (stepStore_unwritten m hn ho)

end

section
variable {x : Testing} {upsets : List (Nat × BitVec 64)} {j : Nat}

/-- R154: the words of a step up to one that reads wrong are read right, compared and written. -/
theorem testWords_upTo (n : Nat) (hw : x.dev.smc.engine.pos.word + j ≤ 4194304)
    (ho : x.dev.smc.engine.pos.owed = true → 1 ≤ x.dev.smc.engine.pos.word)
    (h : ∀ i < j, x.dev.smc.engine.Right upsets x.mem (x.dev.smc.engine.pos.word + i)) :
    testWords x.dev.smc.engine.pos upsets (j + n) x.dev.smc.engine.pos.word
        { x with mem := writeOwed x.dev.smc.engine.pattern x.dev.smc.engine.pass x.dev.smc.engine.pos x.mem } =
      testWords x.dev.smc.engine.pos upsets n (x.dev.smc.engine.pos.word + j)
        { x with mem := stepStore x.dev.smc.engine.pattern x.dev.smc.engine.pass x.dev.smc.engine.pos j x.mem } :=
  testWords_right (pos := x.dev.smc.engine.pos) j n x.dev.smc.engine.pos.word
    (x := { x with mem := writeOwed x.dev.smc.engine.pattern x.dev.smc.engine.pass x.dev.smc.engine.pos x.mem }) fun i hi =>
      (mismatchAt_stepStore (e := x.dev.smc.engine) (m := x.mem) (by omega) ho).trans (mismatchAt_right (h i hi))

/-- R154: a step whose words all read right goes on. -/
theorem Testing.step_right (hw : x.dev.smc.engine.pos.word ≤ 4194304)
    (ho : x.dev.smc.engine.pos.owed = true → 1 ≤ x.dev.smc.engine.pos.word) (hs : x.dev.smc.engine.state ≠ .halted)
    (h : ∀ i < stepWords x.dev.smc.engine.pos, x.dev.smc.engine.Right upsets x.mem (x.dev.smc.engine.pos.word + i)) :
    x.step upsets =
      { dev := x.dev.advanceTest (x.dev.smc.engine.pos.word + stepWords x.dev.smc.engine.pos)
        mem := stepStore x.dev.smc.engine.pattern x.dev.smc.engine.pass x.dev.smc.engine.pos (stepWords x.dev.smc.engine.pos) x.mem } := by
  have hwords := testWords_upTo (x := x) (upsets := upsets) 0 (stepWords_within hw) ho h
  rw [Nat.add_zero] at hwords
  unfold Testing.step
  dsimp only
  rw [hwords]
  exact if_neg hs

/-- R156: one with a word that reads wrong marks its segment and goes on, unless it halts. -/
theorem Testing.step_marks {f : Failure} (hw : x.dev.smc.engine.pos.word ≤ 4194304)
    (ho : x.dev.smc.engine.pos.owed = true → 1 ≤ x.dev.smc.engine.pos.word) (hs : x.dev.smc.engine.state ≠ .halted)
    (hj : j < stepWords x.dev.smc.engine.pos) (h : ∀ i < j, x.dev.smc.engine.Right upsets x.mem (x.dev.smc.engine.pos.word + i))
    (hm : mismatchAt x.dev.smc.engine x.dev.smc.engine.pos upsets (x.dev.smc.engine.pos.word + j) x.mem = some f)
    (hh : x.dev.smc.engine.halts = false) :
    x.step upsets =
      { dev := (x.dev.setSmc (x.dev.smc.mismatched f)).advanceTest (x.dev.smc.engine.pos.word + stepWords x.dev.smc.engine.pos)
        mem := stepStore x.dev.smc.engine.pattern x.dev.smc.engine.pass x.dev.smc.engine.pos (stepWords x.dev.smc.engine.pos) x.mem } := by
  have hwithin := stepWords_within hw
  obtain ⟨n, hn⟩ : ∃ n, stepWords x.dev.smc.engine.pos = j + (n + 1) := ⟨stepWords x.dev.smc.engine.pos - j - 1, by omega⟩
  have hwords := testWords_upTo (x := x) (upsets := upsets) (n + 1) (by omega) ho h
  rw [testWords_marks (x := { x with mem := stepStore x.dev.smc.engine.pattern x.dev.smc.engine.pass x.dev.smc.engine.pos j x.mem }) n _
    ((mismatchAt_stepStore (e := x.dev.smc.engine) (m := x.mem) (by omega) ho).trans hm) hh] at hwords
  unfold Testing.step
  dsimp only
  rw [hn, hwords]
  have hstore : stepStore x.dev.smc.engine.pattern x.dev.smc.engine.pass x.dev.smc.engine.pos (j + (n + 1)) x.mem =
      writeWords x.dev.smc.engine.pattern x.dev.smc.engine.pass x.dev.smc.engine.pos (n + 1) (x.dev.smc.engine.pos.word + j)
        (stepStore x.dev.smc.engine.pattern x.dev.smc.engine.pass x.dev.smc.engine.pos j x.mem) := writeWords_add j (n + 1) _ _
  rw [hstore]
  exact if_neg hs

/-- R156: one that halts stops at that word. -/
theorem Testing.step_halts {f : Failure} (hw : x.dev.smc.engine.pos.word ≤ 4194304)
    (ho : x.dev.smc.engine.pos.owed = true → 1 ≤ x.dev.smc.engine.pos.word)
    (hj : j < stepWords x.dev.smc.engine.pos) (h : ∀ i < j, x.dev.smc.engine.Right upsets x.mem (x.dev.smc.engine.pos.word + i))
    (hm : mismatchAt x.dev.smc.engine x.dev.smc.engine.pos upsets (x.dev.smc.engine.pos.word + j) x.mem = some f)
    (hh : x.dev.smc.engine.halts = true) :
    x.step upsets =
      { dev := (x.dev.setSmc { x.dev.smc.mismatched f with
          engine := (x.dev.smc.mismatched f).engine.halted (x.dev.smc.engine.pos.word + j)
            (placeWrite x.dev.smc.engine.pattern x.dev.smc.engine.pass x.dev.smc.engine.pos (x.dev.smc.engine.pos.word + j)).isSome }).post
              (evSelftestHalt f)
        mem := stepStore x.dev.smc.engine.pattern x.dev.smc.engine.pass x.dev.smc.engine.pos j x.mem } := by
  have hwithin := stepWords_within hw
  obtain ⟨n, hn⟩ : ∃ n, stepWords x.dev.smc.engine.pos = j + (n + 1) := ⟨stepWords x.dev.smc.engine.pos - j - 1, by omega⟩
  have hwords := testWords_upTo (x := x) (upsets := upsets) (n + 1) (by omega) ho h
  rw [testWords_halts (x := { x with mem := stepStore x.dev.smc.engine.pattern x.dev.smc.engine.pass x.dev.smc.engine.pos j x.mem }) n _
    ((mismatchAt_stepStore (e := x.dev.smc.engine) (m := x.mem) (by omega) ho).trans hm) hh] at hwords
  unfold Testing.step
  dsimp only
  rw [hn, hwords]
  refine if_pos ?_
  show ((x.dev.setSmc _).post (evSelftestHalt f)).smc.engine.state = .halted
  rfl

end

/-! ### The completion at the port (R154, R158, R160) -/

theorem selftestCompletes_eq {x : Testing} {upsets : List (Nat × BitVec 64)} {pt : Pattern} {pass : Nat} {pos : TestPos}
    (h : x.dev.smc.port = some (.selftest pt pass pos)) :
    selftestCompletes upsets x = { x.complete pt pass pos upsets with dev := (x.complete pt pass pos upsets).dev.freePort } := by
  unfold selftestCompletes
  rw [h]

theorem selftestCompletes_none {x : Testing} {upsets : List (Nat × BitVec 64)} (h : ∀ pt p pos, x.dev.smc.port ≠ some (.selftest pt p pos)) :
    selftestCompletes upsets x = x := by
  unfold selftestCompletes
  split
  · rename_i pt p pos hp
    exact absurd hp (h pt p pos)
  · rfl

theorem clearingCompletes_eq {x : Testing} {a : Nat} (h : x.dev.smc.port = some (.clearing a)) :
    clearingCompletes x = { dev := x.dev.cleared.freePort, mem := memStore x.mem a (List.replicate Config.blockBytes 0) } := by
  unfold clearingCompletes
  rw [h]

theorem clearingCompletes_none {x : Testing} (h : ∀ a, x.dev.smc.port ≠ some (.clearing a)) : clearingCompletes x = x := by
  unfold clearingCompletes
  split
  · rename_i a hp
    exact absurd hp (h a)
  · rfl

/-- What a command of the device and the store leaves when it leaves both. -/
theorem onStore_still {f : Testing → Testing} {s : State} (h : f ⟨s.dev, s.mem⟩ = ⟨s.dev, s.mem⟩) : onStore f s = .next s := by
  rw [onStore, h]
  rfl

/-- R147, R154: the state after a completed step of the self-test. -/
theorem selftestStep_exec {s : State} {upsets : List (Nat × BitVec 64)} {pt : Pattern} {pass : Nat} {pos : TestPos} {y : Testing}
    (hp : s.dev.smc.port = some (.selftest pt pass pos)) (hy : Testing.complete pt pass pos upsets ⟨s.dev, s.mem⟩ = y) :
    exec (.selftestStepComplete upsets) s =
      .next ((s.setDev ((y.dev.setSmc { y.dev.smc with port := none }).grant)).setMem y.mem) := by
  subst hy
  show onStore (selftestCompletes upsets) s = _
  rw [onStore, selftestCompletes_eq (x := ⟨s.dev, s.mem⟩) hp]
  rfl

theorem Engine.expectsStep_iff (e : Engine) : e.expectsStep = true ↔ e.stage = .granted ∧ (e.state = .running ∨ e.state = .stopping) := by
  rw [Engine.expectsStep, Bool.and_eq_true, Bool.or_eq_true, decide_eq_true_eq, decide_eq_true_eq, decide_eq_true_eq]

theorem Testing.complete_step {x : Testing} {pt : Pattern} {pass : Nat} {pos : TestPos} {upsets : List (Nat × BitVec 64)}
    (hg : x.dev.smc.engine.stage = .granted) (hs : x.dev.smc.engine.state = .running ∨ x.dev.smc.engine.state = .stopping) :
    x.complete pt pass pos upsets = x.step upsets := if_pos ((Engine.expectsStep_iff _).2 ⟨hg, hs⟩)

theorem Testing.complete_stale {x : Testing} {pt : Pattern} {pass : Nat} {pos : TestPos} {upsets : List (Nat × BitVec 64)}
    (h : x.dev.smc.engine.stage ≠ .granted ∨ (x.dev.smc.engine.state ≠ .running ∧ x.dev.smc.engine.state ≠ .stopping)) :
    x.complete pt pass pos upsets = { x with mem := stepStore pt pass pos (stepWords pos) x.mem } := by
  refine if_neg fun he => ?_
  obtain ⟨hg, hs⟩ := (Engine.expectsStep_iff _).1 he
  rcases h with h | ⟨hr, hst⟩
  · exact h hg
  · rcases hs with hs | hs
    · exact hr hs
    · exact hst hs

theorem Engine.halts_iff (e : Engine) : e.halts = true ↔ e.mode = .halt ∧ e.failure = none := by
  rw [Engine.halts, Bool.and_eq_true, decide_eq_true_eq, Option.isNone_iff_eq_none]

/-! ### The ends of sweeps, segments and passes (R151, R154, R158) -/

section
variable {d : Device} {word : Nat}

theorem Device.advanceTest_within (h : word < 4194304) :
    d.advanceTest word = d.setEngine { d.smc.engine with pos := { d.smc.engine.pos with word := word, owed := false }, stage := .waiting } :=
  if_pos h

theorem Device.advanceTest_sweep (h : 4194304 ≤ word) (hs : d.smc.engine.pos.sweep + 1 < d.smc.engine.pattern.sweeps) :
    d.advanceTest word =
      d.setEngine { d.smc.engine with
        pos := { d.smc.engine.pos with sweep := d.smc.engine.pos.sweep + 1, word := 0, owed := false }, stage := .waiting } :=
  (if_neg (Nat.not_lt.2 h)).trans (if_pos hs)

theorem Device.advanceTest_segment (h : 4194304 ≤ word) (hs : ¬ d.smc.engine.pos.sweep + 1 < d.smc.engine.pattern.sweeps) :
    d.advanceTest word = d.endSegment := (if_neg (Nat.not_lt.2 h)).trans (if_neg hs)

/-- R154: the next segment follows. -/
theorem Device.endSegment_next {g : Fin 64} (h : g.val = d.smc.engine.pos.seg.val + 1) :
    d.endSegment = (d.setSmc d.smc.gradeSegment).setEngine { d.smc.gradeSegment.engine with
      pos := { seg := g, sweep := 0, word := 0, owed := false }, stage := .waiting } := by
  have hlt : (d.setSmc d.smc.gradeSegment).smc.engine.pos.seg.val + 1 < 64 := h ▸ g.isLt
  have hg : (⟨(d.setSmc d.smc.gradeSegment).smc.engine.pos.seg.val + 1, hlt⟩ : Fin 64) = g := Fin.ext h.symm
  unfold Device.endSegment
  dsimp only
  rw [dif_pos hlt, hg]
  rfl

/-- R154: after the last segment the pass is done. -/
theorem Device.endSegment_last (h : d.smc.engine.pos.seg = 63) : d.endSegment = (d.setSmc d.smc.gradeSegment).endPass := by
  have hge : ¬ (d.setSmc d.smc.gradeSegment).smc.engine.pos.seg.val + 1 < 64 := by
    show ¬ d.smc.engine.pos.seg.val + 1 < 64
    rw [h]
    decide
  unfold Device.endSegment
  dsimp only
  rw [dif_neg hge]

end

/-! ### The clearing (R158) -/

theorem Device.cleared_next {d : Device} (hs : d.smc.engine.state = .clearing ∧ d.smc.engine.stage = .granted)
    (h : d.smc.engine.clearBlock + 1 < 32768) :
    d.cleared = d.setEngine { d.smc.engine with clearBlock := d.smc.engine.clearBlock + 1, stage := .waiting } :=
  (if_pos hs).trans (if_pos h)

theorem Device.cleared_segment {d : Device} {g g' : Fin 64} {rest : List (Fin 64)}
    (hs : d.smc.engine.state = .clearing ∧ d.smc.engine.stage = .granted) (h : ¬ d.smc.engine.clearBlock + 1 < 32768)
    (hc : d.smc.engine.clearing = g :: g' :: rest) :
    d.cleared = d.setEngine { d.smc.engine with clearing := g' :: rest, clearBlock := 0, stage := .waiting } := by
  refine ((if_pos hs).trans (if_neg h)).trans ?_
  rw [hc]
  rfl

theorem Device.cleared_last {d : Device} {g : Fin 64} (hs : d.smc.engine.state = .clearing ∧ d.smc.engine.stage = .granted)
    (h : ¬ d.smc.engine.clearBlock + 1 < 32768) (hc : d.smc.engine.clearing = [g]) : d.cleared = d.finishRun := by
  refine ((if_pos hs).trans (if_neg h)).trans ?_
  rw [hc]
  rfl

theorem Device.cleared_still {d : Device} (h : d.smc.engine.state ≠ .clearing ∨ d.smc.engine.stage ≠ .granted) : d.cleared = d :=
  if_neg fun hs => h.elim (fun k => k hs.1) fun k => k hs.2

/-- R158: a cleared block reads as zero. -/
theorem memRead_cleared (m : List Host.Cell) (a n x : Nat) :
    memRead (memStore m a (List.replicate n 0#8)) x = if a ≤ x ∧ x < a + n then 0 else memRead m x := by
  rw [memRead_memStore, List.length_replicate]
  by_cases h : a ≤ x ∧ x < a + n
  · rw [if_pos h, if_pos h]
    exact List.getD_replicate 0#8 (by omega)
  · rw [if_neg h, if_neg h]

end Sys2Proof.Machine

open Sys2Proof Sys2Proof.Machine

/-- Settles O48: the step by its first wrong word, and the place after it by what of the sweep, the segment and the pass is left. -/
theorem selftestGoesOn : Obligations.SelftestGoesOn := by
  refine ⟨fun s upsets hp => ?step, fun d word => ?ends⟩
  case step =>
    intro e from' hg hs hw ho n word index b0 expected written seen right makes left
    have hn : stepWords e.pos = n := stepWords_eq e.pos
    have hword : ∀ k, wordAt e.pattern e.pos.sweep k = word k := fun k => wordAt_eq _ _ _
    have hindex : ∀ k, placeAddress e.pattern e.pos k = 8 * index k := by
      intro k
      rw [placeAddress, hword]
      rfl
    have hexpected : ∀ k, placeExpect e.pattern e.pass e.pos k = expected k := by
      intro k
      rw [placeExpect, hword]
      exact Pattern.action_expect _ _ _ _ _
    have hwritten : ∀ k, placeWrite e.pattern e.pass e.pos k = written k := by
      intro k
      rw [placeWrite, hword]
      exact Pattern.action_write _ _ _ _ _
    have hseen : ∀ k, placeSeen e.pattern e.pos upsets s.mem k = seen k := by
      intro k
      rw [placeSeen, hindex]
    have hright : ∀ k, right k → e.Right upsets s.mem k := by
      intro k hk x hx
      rw [hseen]
      exact hk x ((hexpected k).symm.trans hx)
    have hmakes : ∀ i, from' + i ≤ 4194304 → makes (stepStore e.pattern e.pass e.pos i s.mem) (from' + i) := by
      intro i hi
      have hwrote := stepStore_wrote (pt := e.pattern) (pass := e.pass) (pos := e.pos) s.mem hi ho
      refine ⟨fun k x hd hx => ?_, fun a ha => hwrote.rest a fun k hd hx => ?_⟩
      · rw [← hindex]
        exact hwrote.words k x hd ((hwritten k).trans hx)
      · rw [hindex]
        exact ha k hd (fun h => hx ((hwritten k).trans h))
    have hwithin : from' + n ≤ 4194304 := hn ▸ stepWords_within hw
    have hrun : e.state ≠ .halted := by
      rintro h
      rw [h] at hs
      rcases hs with hs | hs
      · cases hs
      · cases hs
    have hstep : Testing.complete e.pattern e.pass e.pos upsets ⟨s.dev, s.mem⟩ = Testing.step upsets ⟨s.dev, s.mem⟩ :=
      Testing.complete_step (x := ⟨s.dev, s.mem⟩) hg hs
    have hleft : ∀ (y : Device) (i : Nat), from' + i ≤ 4194304 →
        Testing.step upsets ⟨s.dev, s.mem⟩ = ⟨y, stepStore e.pattern e.pass e.pos i s.mem⟩ → left y (from' + i) :=
      fun y i hi hy => ⟨_, hmakes i hi, selftestStep_exec hp (hstep.trans hy)⟩
    have hbefore : ∀ j, (∀ i, from' ≤ i → i < from' + j → right i) → ∀ i < j, e.Right upsets s.mem (e.pos.word + i) :=
      fun j h i hi => hright _ (h _ (Nat.le_add_right _ _) (Nat.add_lt_add_left hi _))
    refine ⟨fun h => ?_, fun k x hk hkn hbefore' hx hne => ?_⟩
    · have hall := Testing.step_right (x := ⟨s.dev, s.mem⟩) (upsets := upsets) hw ho hrun
        (hbefore _ fun i hi hin => h i hi (by rw [← hn]; exact hin))
      rw [show stepWords e.pos = n from hn] at hall
      exact hleft _ n hwithin hall
    · obtain ⟨j, rfl⟩ := Nat.exists_eq_add_of_le hk
      have hjn : j < stepWords e.pos := by rw [hn]; omega
      intro f marked
      have hm : mismatchAt e e.pos upsets (from' + j) s.mem = some f := by
        rw [mismatchAt_wrong ((hexpected _).trans hx) (by rw [hseen]; exact hne), hseen, placeFailure, hword]
      refine ⟨fun hh => ?_, fun hmode hfail => ?_⟩
      · have hgo := Testing.step_marks (x := ⟨s.dev, s.mem⟩) (upsets := upsets) hw ho hrun hjn (hbefore j hbefore') hm
          (Bool.eq_false_of_not_eq_true fun h => by
            obtain ⟨h₁, h₂⟩ := (Engine.halts_iff e).1 h
            exact hh.elim (fun k => k h₁) fun k => k h₂)
        rw [show stepWords e.pos = n from hn] at hgo
        exact hleft _ n hwithin hgo
      · have hhalt := Testing.step_halts (x := ⟨s.dev, s.mem⟩) (upsets := upsets) hw ho hjn (hbefore j hbefore') hm
          ((Engine.halts_iff e).2 ⟨hmode, hfail⟩)
        rw [show placeWrite e.pattern e.pass e.pos (e.pos.word + j) = written (from' + j) from hwritten _] at hhalt
        exact hleft _ j (by omega) hhalt
  case ends =>
    intro c e last graded passed ends
    have hlast : e.pos.sweep + 1 < e.pattern.sweeps ↔ e.pos.sweep < last := by
      simp only [last, Pattern.sweeps]
      cases e.pattern <;> dsimp only <;> omega
    refine ⟨fun h => Device.advanceTest_within h, fun h hs => Device.advanceTest_sweep h (hlast.2 hs), fun h hs => ?_⟩
    have hseg : d.advanceTest word = d.endSegment := Device.advanceTest_segment h (fun k => absurd (hlast.1 k) (Nat.not_lt.2 hs))
    refine ⟨fun g hg => hseg.trans (Device.endSegment_next hg), fun h63 => ?_⟩
    let w := d.setSmc d.smc.gradeSegment
    have hpass : d.advanceTest word = w.endPass := hseg.trans (Device.endSegment_last h63)
    let e' : Engine := { w.smc.engine with passesDone := satAdd Config.max32 w.smc.engine.passesDone 1 }
    have hends : ∀ cause, e.written ≠ [] → w.endPass = (w.setEngine e').endRun cause → ends cause := by
      intro cause hwr hend
      exact hpass.trans (hend.trans (Device.endRun_of_written cause (d := w.setEngine e') hwr))
    refine ⟨fun hm hr => ?_, fun hm hr hwr => hends _ hwr ?_, fun hm hwr => hends _ hwr ?_⟩
    · exact hpass.trans ((Device.endPass_eq w).trans ((if_pos hm).trans (if_pos hr)))
    · exact (Device.endPass_eq w).trans ((if_pos hm).trans (if_neg hr))
    · exact (Device.endPass_eq w).trans (if_neg hm)
end

section
/-! PROOFS. A step of PSEUDO, a step whose run has gone, and the clearing (O49). -/

namespace Sys2Proof.Machine

section
variable {pt : Pattern} {pass : Nat} {pos : TestPos}

/-- R155: a stretch of places at which nothing is written leaves the store. -/
theorem writeWords_still (h : ∀ k, placeWrite pt pass pos k = none) (n place : Nat) (m : List Host.Cell) :
    writeWords pt pass pos n place m = m := by
  induction n generalizing place with
  | zero => rfl
  | succ n ih => rw [writeWords, writeWord_none m (h place), ih]

theorem stepStore_still (ho : pos.owed = false) (h : ∀ k, placeWrite pt pass pos k = none) (n : Nat) (m : List Host.Cell) :
    stepStore pt pass pos n m = m := by
  have howed : writeOwed pt pass pos m = m := if_neg (by rw [ho]; exact nofun)
  rw [stepStore, writeWords_still h, howed]

/-- R155: PSEUDO runs in ascending order. -/
theorem placeAddress_pseudo (k : Nat) : placeAddress .pseudo pos k = 8 * (pos.seg.val * 4194304 + k) := rfl

theorem placeExpect_pseudo (k : Nat) :
    placeExpect .pseudo pass pos k = if pos.sweep = 0 then none else some (pseudoWord (pos.seg.val * 4194304 + k) pass) :=
  Pattern.action_expect .pseudo pass pos.seg pos.sweep k

theorem placeWrite_pseudo (k : Nat) :
    placeWrite .pseudo pass pos k = if pos.sweep = 0 then some (pseudoWord (pos.seg.val * 4194304 + k) pass) else none :=
  Pattern.action_write .pseudo pass pos.seg pos.sweep k

/-- R157: a step at the first word of a block covers the block. -/
theorem stepWords_block (ho : pos.owed = false) (hm : pos.word % 128 = 0) (hw : pos.word + 128 ≤ 4194304) : stepWords pos = 128 := by
  have hn : ¬ (pos.owed = true ∧ pos.word % 128 = 0) := by rw [ho]; exact fun h => nomatch h.1
  rw [stepWords_eq, if_neg hn]
  omega

end

/-- R154: a byte outside a block's 128 words is outside each of them. -/
theorem outside_of_block {a first i : Nat} (h : a < 8 * first ∨ 8 * (first + 128) ≤ a) (hi : i < 128) :
    a < 8 * (first + i) ∨ 8 * (first + i) + 8 ≤ a := by omega

/-- R163: what SELFTEST_DONE gives. -/
theorem evSelftestDone_detail (x : EndSummary) :
    (evSelftestDone x).detail = [[leBytes 1 x.cause.code], [leBytes 1 x.mode.code], [leBytes 1 x.pattern.code], [leBytes 4 x.passes],
      [leBytes 1 x.good ++ leBytes 1 x.failed ++ leBytes 1 x.untested], [[if x.locked then 1#8 else 0#8]]] := by
  rw [← flagByte_eq]
  rfl

/-- R147, R158: the state after a completed clearing write. -/
theorem clearingWrite_exec {s : State} {a : Nat} {d : Device} (hp : s.dev.smc.port = some (.clearing a)) (hd : s.dev.cleared = d) :
    exec .clearingWriteComplete s =
      .next ((s.setDev ((d.setSmc { d.smc with port := none }).grant)).setMem (memStore s.mem a (List.replicate 1024 0#8))) := by
  subst hd
  show onStore clearingCompletes s = _
  rw [onStore, clearingCompletes_eq (x := ⟨s.dev, s.mem⟩) hp]
  rfl

end Sys2Proof.Machine

open Sys2Proof Sys2Proof.Machine

/-- Settles O49: PSEUDO's two sweeps by the general step, the step whose run has gone by its writes alone, and the clearing by
what is left of it. -/
theorem selftestAndClearingComplete : Obligations.SelftestAndClearingComplete := by
  refine ⟨⟨fun s upsets h => onStore_still (selftestCompletes_none h), fun s upsets hp => ?pseudo⟩, fun s upsets pattern pass pos hp hgone hw ho => ?stale,
    fun s h => onStore_still (clearingCompletes_none h), fun s a hp => ?clearing⟩
  case pseudo =>
    intro e first hg hs hpt howed hmod hlt freed onward
    have hwords : stepWords e.pos = 128 := stepWords_block howed hmod (Nat.le_of_lt hlt)
    have hw : e.pos.word ≤ 4194304 := by omega
    have ho : e.pos.owed = true → 1 ≤ e.pos.word := by rw [howed]; exact nofun
    have hrun : e.state ≠ .halted := by
      rintro h
      rw [h] at hs
      rcases hs with hs | hs
      · cases hs
      · cases hs
    have haddress : ∀ i, placeAddress e.pattern e.pos (e.pos.word + i) = 8 * (first + i) := by
      intro i
      rw [hpt, placeAddress_pseudo]
      omega
    have hplace : ∀ i, e.pos.seg.val * 4194304 + (e.pos.word + i) = first + i := fun i => (Nat.add_assoc _ _ _).symm
    have hexpect : ∀ i, e.pos.sweep = 1 →
        placeExpect e.pattern e.pass e.pos (e.pos.word + i) = some (pseudoWord (first + i) e.pass) := by
      intro i h1
      rw [hpt, placeExpect_pseudo, h1, hplace]
      rfl
    have hseen : ∀ i, placeSeen e.pattern e.pos upsets s.mem (e.pos.word + i) = memWord s.mem (8 * (first + i)) ^^^ upsetAt upsets i := by
      intro i
      rw [placeSeen, haddress, Nat.add_sub_cancel_left]
    have hwrites : e.pos.sweep = 1 → ∀ k, placeWrite e.pattern e.pass e.pos k = none := by
      intro h1 k
      rw [hpt, placeWrite_pseudo, h1]
      rfl
    have hright : ∀ i, e.pos.sweep = 1 →
        memWord s.mem (8 * (first + i)) ^^^ upsetAt upsets i = pseudoWord (first + i) e.pass → e.Right upsets s.mem (e.pos.word + i) := by
      intro i h1 h x hx
      rw [hexpect i h1] at hx
      cases hx
      exact (hseen i).trans h
    have hstep : Testing.complete e.pattern e.pass e.pos upsets ⟨s.dev, s.mem⟩ = Testing.step upsets ⟨s.dev, s.mem⟩ :=
      Testing.complete_step (x := ⟨s.dev, s.mem⟩) hg hs
    have hon : s.dev.advanceTest (e.pos.word + 128) = s.dev.setSmc onward := by
      rw [Device.advanceTest_within hlt, ← howed]
      rfl
    have hgoes : (∀ i < 128, e.Right upsets s.mem (e.pos.word + i)) → exec (.selftestStepComplete upsets) s =
        .next ((s.setDev (freed onward)).setMem (stepStore e.pattern e.pass e.pos 128 s.mem)) := by
      intro h
      have hall := Testing.step_right (x := ⟨s.dev, s.mem⟩) (upsets := upsets) hw ho hrun fun i hi => h i (hwords ▸ hi)
      rw [show stepWords (Testing.mk s.dev s.mem).dev.smc.engine.pos = 128 from hwords] at hall
      rw [selftestStep_exec hp (hstep.trans hall)]
      show Host.Outcome.next ((s.setDev (((s.dev.advanceTest (e.pos.word + 128)).setSmc _).grant)).setMem _) = _
      rw [hon]
      rfl
    refine ⟨fun h0 => ?_, fun h1 h => ?_, fun k hk h1 hhalt hfail h => ?_⟩
    · have hwrote := stepStore_wrote (pt := e.pattern) (pass := e.pass) (pos := e.pos) (n := 128) s.mem (Nat.le_of_lt hlt) ho
      refine ⟨stepStore e.pattern e.pass e.pos 128 s.mem, hgoes fun i _ x hx => ?_, fun i hi => ?_, fun a ha => ?_⟩
      · rw [hpt, placeExpect_pseudo, if_pos h0] at hx
        cases hx
      · rw [← haddress]
        refine hwrote.words _ _ (.inl ⟨Nat.le_add_right _ _, Nat.add_lt_add_left hi _⟩) ?_
        rw [hpt, placeWrite_pseudo, if_pos h0, hplace]
      · refine hwrote.rest a fun k hk _ => ?_
        rcases hk with ⟨hlo, hhi⟩ | ⟨hk, -⟩
        · obtain ⟨i, rfl⟩ := Nat.exists_eq_add_of_le hlo
          rw [haddress]
          exact outside_of_block ha (Nat.lt_of_add_lt_add_left hhi)
        · rw [howed] at hk
          cases hk
    · rw [hgoes fun i hi => hright i h1 (h i hi), stepStore_still howed (hwrites h1)]
      rfl
    · intro seen wanted hne f halted
      have hm : mismatchAt e e.pos upsets (e.pos.word + k) s.mem = some f := by
        rw [mismatchAt_wrong (hexpect k h1) (by rw [hseen]; exact hne), hseen, placeFailure, hpt]
        rfl
      have hy := Testing.step_halts (x := ⟨s.dev, s.mem⟩) (upsets := upsets) hw ho (hwords ▸ hk) (fun i hi => hright i h1 (h i hi)) hm
        ((Engine.halts_iff e).2 ⟨hhalt, hfail⟩)
      rw [show placeWrite e.pattern e.pass e.pos (e.pos.word + k) = none from hwrites h1 _,
        show stepStore e.pattern e.pass e.pos k s.mem = s.mem from stepStore_still howed (hwrites h1) k s.mem] at hy
      rw [selftestStep_exec hp (hstep.trans hy)]
      have hnone : s.dev.smc.engine.failure = none := hfail
      have hkept : s.dev.smc.engine.pos.owed = false := howed
      have hhalted : { s.dev.smc.mismatched f with engine := (s.dev.smc.mismatched f).engine.halted (e.pos.word + k) false } = halted := by
        simp only [halted, Smc.mismatched, Engine.halted, hnone, hkept, Option.getD_none, e]
        rfl
      exact congrArg (fun c : Smc => Host.Outcome.next (s.setDev (((s.dev.setSmc { c with port := none }).post (evSelftestHalt f)).grant))) hhalted
  case stale =>
    intro n index b0 written done
    have hn : stepWords pos = n := stepWords_eq pos
    have hword : ∀ k, placeAddress pattern pos k = 8 * index k := by
      intro k
      rw [placeAddress, wordAt_eq]
      rfl
    have hwritten : ∀ k, placeWrite pattern pass pos k = written k := by
      intro k
      rw [placeWrite, wordAt_eq]
      exact Pattern.action_write _ _ _ _ _
    have hwrote := stepStore_wrote (pt := pattern) (pass := pass) (pos := pos) s.mem (stepWords_within hw) ho
    rw [hn] at hwrote
    refine ⟨stepStore pattern pass pos n s.mem, ?_, fun k x hd hx => ?_, fun a ha => hwrote.rest a fun k hd hx => ?_⟩
    · rw [selftestStep_exec hp (Testing.complete_stale (x := ⟨s.dev, s.mem⟩) hgone), hn]
    · rw [← hword]
      exact hwrote.words k x hd ((hwritten k).trans hx)
    · rw [hword]
      exact ha k hd fun h => hx ((hwritten k).trans h)
  case clearing =>
    intro e m left
    refine ⟨fun x => memRead_cleared s.mem a 1024 x, fun h => clearingWrite_exec hp (Device.cleared_still h), fun hc hg => ?_⟩
    refine ⟨fun h => clearingWrite_exec hp (Device.cleared_next ⟨hc, hg⟩ h),
      fun g g' rest h hl => clearingWrite_exec hp (Device.cleared_segment ⟨hc, hg⟩ (Nat.not_lt.2 h) hl), fun g h hl => ?_⟩
    intro count x
    refine clearingWrite_exec hp ((Device.cleared_last ⟨hc, hg⟩ (Nat.not_lt.2 h) hl).trans ?_)
    have hev : evSelftestDone x = { source := 1, kind := 0, detail := _ } := congrArg (Event.mk 1 0) (evSelftestDone_detail x)
    exact congrArg (Device.post (s.dev.setEngine { e with state := .idle, stage := .idle, summary := some x })) hev
end

section
/-! PROOFS. POWER and RESET, the refresh intervals, and the events of the power states (O50). -/

namespace Sys2Proof.Machine

/-! ### POWER (R188) -/

/-- R188: POWER's argument is an action and a time. -/
theorem ctlPower_eq {ts : List Tuple} {action : Byte} {quiet : BitVec 16} (h : argument 0x58 ts = some (action :: leBytes 2 quiet.toNat))
    (d : Device) : ctlPower ts d = powerAction action.toNat quiet.toNat d := by
  have hq : field (leBytes 2 quiet.toNat) 0 2 = quiet.toNat := by
    rw [field_zero_leBytes]
    exact Nat.mod_eq_of_lt quiet.isLt
  simp only [ctlPower, h]
  rw [field_zero_byte, field_cons_succ, hq]

/-- R188: what keeps the part from STANDBY and SLEEP with a STOPPED scene. -/
def Device.busy (d : Device) : Prop := (∃ t : Fin 64, (d.take t).verify.state = .running) ∨ d.smc.engine.state ≠ .idle

section
variable {d : Device}

theorem Device.busy_iff : (d.verifying || decide (d.smc.engine.state ≠ .idle)) = true ↔ d.busy := by
  rw [Bool.or_eq_true, decide_eq_true_eq, Device.verifying_iff]
  exact Iff.rfl

theorem powerRefusal_state (h : d.stu.scene ≠ .stopped) : powerRefusal d = some .state := if_pos h

theorem powerRefusal_busy (h : d.stu.scene = .stopped) (hb : d.busy) : powerRefusal d = some .busy :=
  (if_neg (not_not_intro h)).trans (if_pos (Device.busy_iff.2 hb))

theorem powerRefusal_none (h : d.stu.scene = .stopped) (hb : ¬ d.busy) : powerRefusal d = none :=
  (if_neg (not_not_intro h)).trans (if_neg (mt Device.busy_iff.1 hb))

theorem powerAction_standby (quiet : Nat) :
    powerAction 0 quiet d = match powerRefusal d with
      | some st => refuse d st
      | none => accept d.enterStandby [] := by
  unfold powerAction
  cases powerRefusal d <;> rfl

theorem powerAction_sleep (quiet : Nat) :
    powerAction 1 quiet d = match powerRefusal d with
      | some st => refuse d st
      | none => accept (d.setCtu (.closed .sleep false)) [] := by
  unfold powerAction
  cases powerRefusal d <;> rfl

end

/-! ### Refreshes (R149) -/

theorem refreshCompletes_none {d : Device} (h : d.smc.port ≠ some .refresh) : refreshCompletes d = d := by
  unfold refreshCompletes
  split
  · rename_i hp
    exact absurd hp h
  · rfl

theorem refreshCompletes_some {d : Device} (h : d.smc.port = some .refresh) : refreshCompletes d = d.freePort := by
  unfold refreshCompletes
  rw [h]

theorem Device.intervalElapses_on {d : Device} (h : d.smc.timerOn = true) : d.intervalElapses = d.refreshElapses.grant := if_pos h

/-! ### The power states (R150, R189, R190) -/

/-- R189: the conditions under which the quiet timer counts down. -/
theorem Device.quietRuns_iff (d : Device) :
    d.quietRuns = true ↔ d.pwc.quietTime ≠ 0 ∧ d.pwc.power = .active ∧ d.stu.scene = .stopped ∧ (∀ v : Fin 32, (d.voice v).state = .idle) ∧
      (∀ t : Fin 64, (d.take t).verify.state ≠ .running) ∧ d.smc.engine.state = .idle ∧ ∀ why sent, d.ctu ≠ .closed why sent := by
  have hctu : (match d.ctu with | .closed _ _ => false | _ => true) = true ↔ ∀ why sent, d.ctu ≠ .closed why sent := by
    cases d.ctu with
    | closed why sent => exact ⟨nofun, fun h => absurd rfl (h why sent)⟩
    | free => exact ⟨fun _ => nofun, fun _ => rfl⟩
    | holding p st => exact ⟨fun _ => nofun, fun _ => rfl⟩
  have hverify : (!d.verifying) = true ↔ ∀ t : Fin 64, (d.take t).verify.state ≠ .running := by
    rw [Bool.not_eq_true', ← Bool.not_eq_true, Device.verifying_iff, not_exists]
  have hvoices : (allVoices.all fun v => decide ((d.voice v).state = .idle)) = true ↔ ∀ v : Fin 32, (d.voice v).state = .idle := by
    rw [List.all_eq_true]
    exact ⟨fun h v => of_decide_eq_true (h v (mem_allVoices v)), fun h v _ => decide_eq_true (h v)⟩
  unfold Device.quietRuns
  simp only [Bool.and_eq_true, hverify, hvoices, decide_eq_true_eq, and_assoc]
  exact and_congr_right fun _ => and_congr_right fun _ => and_congr_right fun _ => and_congr_right fun _ => and_congr_right fun _ =>
    and_congr_right fun _ => hctu

/-- R190: the fields of WOKE. -/
theorem evWoke_eq (cause : WakeCause) (before : PowerState) (time : Nat) :
    evWoke cause before time = { source := 3, kind := 0, detail :=
      [[match cause with
        | .link => [0#8]
        | .line l => 1#8 :: leBytes 1 l.val
        | .reset => [2#8]], [leBytes 1 before.code], [leBytes 6 time]] } := by
  cases cause <;> rfl

/-- R190: POWER SLEEP's closing of the Control Unit ends with the exit. -/
theorem Ctu.opened_eq (c : Ctu) : c.opened = match c with
    | .closed .sleep _ => .free
    | c => c := by
  unfold Ctu.opened
  cases c with
  | closed why sent => cases why <;> rfl
  | free => rfl
  | holding p st => rfl

theorem Device.postWoke_eq {d : Device} {cause : WakeCause} {before : PowerState} (hc : d.pwc.wakeCause = some cause)
    (hl : d.pwc.left = some before) : d.postWoke = d.post (evWoke cause before d.stu.time) := by
  unfold Device.postWoke
  rw [hc, hl]

/-- R150, R190: the end of a WAKING part's self-refresh exit. -/
theorem Device.exitEnds_eq {d : Device} {cause : WakeCause} {before : PowerState} (hc : d.pwc.wakeCause = some cause)
    (hl : d.pwc.left = some before) :
    d.exitEnds = (((((d.setPwc { d.pwc with power := .active }).setSmc { d.smc with timerOn := true, debt := 0 }).setCtu d.ctu.opened).post
      (evWoke cause before d.stu.time)).grant).runCtu := by
  have hw := Device.postWoke_eq
    (d := ((d.setPwc { d.pwc with power := .active }).setSmc { d.smc with timerOn := true, debt := 0 }).setCtu d.ctu.opened) hc hl
  exact congrArg (fun w : Device => w.grant.runCtu) hw

end Sys2Proof.Machine

open Sys2Proof Sys2Proof.Machine

/-- Settles O50: POWER by its checks, each event of the memory controller and of Power Control by whether it can take place. -/
theorem powerAndRefreshMove : Obligations.PowerAndRefreshMove := by
  refine ⟨fun s tag quiet rest ts => ?power, fun s tag body ts h => ?reset, fun s => ?refresh, fun s => ?events⟩
  case power =>
    intro q busy
    have hbusy : s.dev.reloadQuiet.busy ↔ busy := Iff.rfl
    refine ⟨fun h ha => ?standby, fun h ha => ?sleep, fun h ha => ?quiet⟩
    case standby =>
      have hctl : ctlPower ts s.dev.reloadQuiet = _ := (ctlPower_eq ha _).trans (powerAction_standby quiet.toNat)
      refine ⟨fun hs => ?_, fun hs hb => ?_, fun hs hb => ?_⟩
      · rw [powerRefusal_state (d := s.dev.reloadQuiet) hs] at hctl
        exact arriveControl_refused h tag 0x48#8 (f := ctlPower) rfl hctl
      · rw [powerRefusal_busy (d := s.dev.reloadQuiet) hs (hbusy.2 hb)] at hctl
        exact arriveControl_refused h tag 0x48#8 (f := ctlPower) rfl hctl
      · rw [powerRefusal_none (d := s.dev.reloadQuiet) hs (mt hbusy.1 hb)] at hctl
        exact arriveControl_answered h tag 0x48#8 (f := ctlPower) rfl hctl fun hm => absurd ((Device.mayGrant_iff _).1 hm).2.1 nofun
    case sleep =>
      have hctl : ctlPower ts s.dev.reloadQuiet = _ := (ctlPower_eq ha _).trans (powerAction_sleep quiet.toNat)
      refine ⟨fun hs => ?_, fun hs hb => ?_, fun hs hb => ?_⟩
      · rw [powerRefusal_state (d := s.dev.reloadQuiet) hs] at hctl
        exact arriveControl_refused h tag 0x48#8 (f := ctlPower) rfl hctl
      · rw [powerRefusal_busy (d := s.dev.reloadQuiet) hs (hbusy.2 hb)] at hctl
        exact arriveControl_refused h tag 0x48#8 (f := ctlPower) rfl hctl
      · rw [powerRefusal_none (d := s.dev.reloadQuiet) hs (mt hbusy.1 hb)] at hctl
        exact arriveControl_answered h tag 0x48#8 (f := ctlPower) rfl hctl
          (h.settled.of_quiet id fun q => ⟨q.debt, q.voices, q.intake, rfl, q.verify, q.selftest⟩)
    case quiet =>
      exact arriveControl_answered h tag 0x48#8 (f := ctlPower) rfl (ctlPower_eq ha _) (h.settled.congr rfl rfl rfl rfl rfl rfl)
  case reset =>
    exact arriveControl_answered h tag 0x4F#8 (f := ctlReset) rfl rfl (h.settled.of_quiet id fun q => ⟨q.debt, q.voices, q.intake, rfl, q.verify, q.selftest⟩)
  case refresh =>
    intro c
    have hat8 : c.debt = 8 → ¬ c.debt < 8 := by omega
    refine ⟨fun h => onDevice_eq (f := Device.intervalElapses) (if_neg (by rw [h]; exact nofun)), fun h hlt => ?_, fun h h8 hr => ?_, fun h h8 hr => ?_,
      fun h => onDevice_eq (refreshCompletes_none h), fun h => onDevice_eq (refreshCompletes_some h)⟩
    · exact onDevice_eq ((Device.intervalElapses_on h).trans (congrArg Device.grant (if_pos hlt)))
    · exact onDevice_eq ((Device.intervalElapses_on h).trans (congrArg Device.grant ((if_neg (hat8 h8)).trans (if_pos hr))))
    · exact onDevice_eq ((Device.intervalElapses_on h).trans
        (congrArg Device.grant ((if_neg (hat8 h8)).trans (if_neg (by rw [hr]; exact nofun)))))
  case events =>
    intro d runs
    have hruns : (d.quietRuns && !d.pwc.rstn) = true ↔ runs := by
      rw [Bool.and_eq_true, Device.quietRuns_iff, Bool.not_eq_true']
      simp only [runs, and_assoc]
    have hreinit : (d.smc.reinit && !d.pwc.rstn) = true ↔ d.smc.reinit = true ∧ d.pwc.rstn = false := by
      rw [Bool.and_eq_true, Bool.not_eq_true']
    refine ⟨fun h => ?_, fun cause before hw hr hc hl => ?_, fun h => onDevice_eq (if_neg (mt hruns.1 h)),
      fun h => onDevice_eq (if_pos (hruns.2 h)), fun h => ?_, fun h hr => onDevice_eq (if_pos (hreinit.2 ⟨h, hr⟩))⟩
    · refine onDevice_eq (f := Device.exitCompletes) (if_neg fun ⟨hw, hr⟩ => ?_)
      rcases h with h | h
      · exact h hw
      · rw [h] at hr
        cases hr
    · intro woke e
      have hwoke : evWoke cause before d.stu.time = woke := evWoke_eq cause before d.stu.time
      have hopened : ((d.setPwc { d.pwc with power := .active }).setSmc { d.smc with timerOn := true, debt := 0 }).setCtu d.ctu.opened = e :=
        congrArg (Device.setCtu _) (Ctu.opened_eq d.ctu)
      refine onDevice_eq ((if_pos ⟨hw, hr⟩).trans ((Device.exitEnds_eq hc hl).trans ?_))
      rw [hwoke]
      exact congrArg (fun x : Device => (x.post woke).grant.runCtu) hopened
    · refine onDevice_eq (f := Device.reinitCompletes) (if_neg fun hm => ?_)
      obtain ⟨hi, hr⟩ := hreinit.1 hm
      rcases h with h | h
      · rw [h] at hi
        cases hi
      · rw [h] at hr
        cases hr
end

section
/-! PROOFS. The resets (O51). -/

namespace Sys2Proof.Machine

/-! ### What every reset leaves (R19, R20, R49, R91, R96, R165, R176, R183, R186) -/

/-- R191: every block that a warm reset and a cold one both reset is as its reset leaves it, and the bench's levels are `bench`. -/
structure Device.AtDefaults (bench : Fin 8 → Bool) (d : Device) : Prop where
  bli : d.bli = Bli.reset
  ctu : d.ctu = .free
  stu : d.stu = Stu.reset
  lines : ∀ l : Fin 8, d.line l = Line.reset (bench l)
  voices : d.voices = Vector.ofFn Voice.reset
  ports : d.ports = Vector.replicate 4 Port.reset
  siu : d.siu = Siu.reset
  ntu : d.ntu = Ntu.reset
  quiet : d.pwc.quietTime = 0

theorem Device.AtDefaults.setSmc {bench : Fin 8 → Bool} {d : Device} (h : d.AtDefaults bench) (x : Smc) : (d.setSmc x).AtDefaults bench :=
  ⟨h.bli, h.ctu, h.stu, h.lines, h.voices, h.ports, h.siu, h.ntu, h.quiet⟩

theorem Device.cold_atDefaults (cause : ResetCause) (bench : Fin 8 → Bool) {x : Pwc} (hx : x.quietTime = 0) :
    ((Device.cold cause bench).setPwc x).AtDefaults bench :=
  ⟨rfl, rfl, rfl, fun l => Vector.getElem_ofFn l.isLt, rfl, rfl, rfl, rfl, hx⟩

theorem Device.warmBlocks_atDefaults (d : Device) {x : Pwc} (hx : x.quietTime = 0) :
    (d.warmBlocks.setPwc x).AtDefaults fun l => (d.line l).bench :=
  ⟨rfl, rfl, rfl, fun l => Vector.getElem_map _ l.isLt, rfl, rfl, rfl, rfl, hx⟩

/-! ### The grant decision after a warm reset (R147 to R149) -/

/-- R148, R160: with the blocks reset, no voice, no intake, no peek, no verify and no self-test step waits: only a refresh is left. -/
theorem Device.choose_warmBlocks (d : Device) (x : Pwc) :
    (d.warmBlocks.setPwc x).choose = if d.smc.debt = 0 then none else some .refresh := by
  have hvoices : ∀ v, ¬ ((d.warmBlocks.setPwc x).voice v).waits = true := by
    intro v
    rw [Device.voice_reset rfl]
    exact nofun
  by_cases h8 : d.smc.debt = 8
  · rw [if_neg (by omega)]
    exact if_pos h8
  · refine (Device.choose_rest (d := d.warmBlocks.setPwc x) h8 hvoices nofun).trans ?_
    by_cases h0 : d.smc.debt = 0
    · rw [if_pos h0]
      refine (if_neg (c := 1 ≤ d.smc.debt) (by omega)).trans rfl
    · rw [if_neg h0]
      exact if_pos (c := 1 ≤ d.smc.debt) (by omega)

/-- R149: the decision either leaves the memory controller or grants a refresh. -/
theorem Device.grant_warmBlocks (d : Device) (x : Pwc) :
    ∃ y, (d.warmBlocks.setPwc x).grant = (d.warmBlocks.setPwc x).setSmc { d.smc.warm with port := y.1, debt := y.2 } ∧
      (y = (d.smc.port, d.smc.debt) ∨
        (d.smc.port = none ∧ x.power = .active ∧ d.smc.debt ≠ 0 ∧ y = (some .refresh, d.smc.debt - 1))) := by
  by_cases hm : (d.warmBlocks.setPwc x).mayGrant = true
  · obtain ⟨hp, ha, hr⟩ := (Device.mayGrant_iff _).1 hm
    have hc := d.choose_warmBlocks x
    by_cases h0 : d.smc.debt = 0
    · rw [if_pos h0] at hc
      exact ⟨(d.smc.port, d.smc.debt), Device.grant_settled fun _ => hc, .inl rfl⟩
    · rw [if_neg h0] at hc
      exact ⟨(some .refresh, d.smc.debt - 1), Device.grant_of_choose hp ha hr hc, .inr ⟨hp, ha, h0, rfl⟩⟩
  · exact ⟨(d.smc.port, d.smc.debt), if_neg hm, .inl rfl⟩

/-! ### The power record of a warm reset (R191) -/

theorem Pwc.warm_active {p : Pwc} (cause : ResetCause) (h : p.power = .active) : p.warm cause = Pwc.reset cause := by
  unfold Pwc.warm
  rw [h]

theorem Pwc.warm_asleep {p : Pwc} (cause : ResetCause) (h : p.power ≠ .active) :
    p.warm cause = { Pwc.reset cause with power := .waking, wakeCause := some .reset, left := some p.power } := by
  unfold Pwc.warm
  split
  · rename_i ha
    exact absurd ha h
  · rfl

/-- R191: what both power records hold. -/
theorem Pwc.warm_records (cause : ResetCause) (p : Pwc) :
    (p.warm cause).resetCause = cause ∧ (p.warm cause).rstn = false ∧ (p.warm cause).quietTime = 0 := by
  by_cases h : p.power = .active
  · rw [Pwc.warm_active cause h]
    exact ⟨rfl, rfl, rfl⟩
  · rw [Pwc.warm_asleep cause h]
    exact ⟨rfl, rfl, rfl⟩

/-- R191: a part that is not ACTIVE wakes. -/
theorem Pwc.warm_power (cause : ResetCause) (p : Pwc) :
    ((p.warm cause).power = .active → p.power = .active) ∧ (p.power = .active → (p.warm cause).power = .active) ∧
      (p.power ≠ .active →
        (p.warm cause).power = .waking ∧ (p.warm cause).wakeCause = some .reset ∧ (p.warm cause).left = some p.power) := by
  by_cases h : p.power = .active
  · rw [Pwc.warm_active cause h]
    exact ⟨fun _ => h, fun _ => rfl, fun hn => absurd h hn⟩
  · rw [Pwc.warm_asleep cause h]
    exact ⟨nofun, fun ha => absurd ha h, fun _ => ⟨rfl, rfl, rfl⟩⟩

/-! ### The commands that reset (R191) -/

/-- R191: power-on and a release of RSTN that is a cold reset, with the power record that the first leaves held. -/
theorem exec_cold {s : State} {c : Instr} {cause : ResetCause} {held : Bool}
    (h : (c = .powerOn ∧ cause = .powerOn ∧ held = s.dev.pwc.rstn) ∨
      (c = .coldReset ∧ cause = (if s.dev.pwc.powerHeld then .powerOn else .resetLineCold) ∧ held = false) ∨
      (c = .warmReset ∧ s.dev.pwc.powerHeld = true ∧ cause = .powerOn ∧ held = false)) :
    exec c s = .next ((s.setDev ((Device.cold cause fun l => (s.dev.line l).bench).setPwc
      { Pwc.reset cause with rstn := held, powerHeld := held })).setMem []) := by
  rcases h with ⟨rfl, rfl, rfl⟩ | ⟨rfl, rfl, rfl⟩ | ⟨rfl, hp, rfl, rfl⟩
  · rfl
  · rfl
  · obtain ⟨hw, hc⟩ := releasesWarm_held (x := ⟨s.dev, s.mem⟩) hp
    show onStore releasesWarm s = _
    rw [onStore, hw, hc]
    rfl

/-- R175, R191: a release of RSTN that is a warm reset, and the RESET control's. -/
theorem exec_warm {s : State} {c : Instr} {cause : ResetCause}
    (h : (c = .warmReset ∧ s.dev.pwc.powerHeld = false ∧ cause = .resetLineWarm) ∨
      (c = .resetReplySent ∧ s.dev.ctu = .closed .reset true ∧ cause = .resetControl)) :
    exec c s = .next (s.setDev (s.dev.warmReset cause)) := by
  rcases h with ⟨rfl, hp, rfl⟩ | ⟨rfl, hc, rfl⟩
  · show onStore releasesWarm s = _
    rw [onStore, (releases_free (x := ⟨s.dev, s.mem⟩) hp).1]
    rfl
  · refine onDevice_eq (f := Device.resetNow) ?_
    unfold Device.resetNow
    rw [hc]

theorem Device.warmReset_atDefaults (cause : ResetCause) (d : Device) : (d.warmReset cause).AtDefaults fun l => (d.line l).bench := by
  obtain ⟨-, -, hq⟩ := Pwc.warm_records cause d.pwc
  obtain ⟨y, hg, -⟩ := d.grant_warmBlocks (d.pwc.warm cause)
  rw [Device.warmReset, hg]
  exact (d.warmBlocks_atDefaults hq).setSmc _

theorem Device.assertRstn_atDefaults (d : Device) : d.assertRstn.AtDefaults fun l => (d.line l).bench := by
  obtain ⟨y, hg, -⟩ := d.grant_warmBlocks { d.pwc with rstn := true, quietTime := 0, quietLeft := 0 }
  rw [Device.assertRstn, hg]
  exact (d.warmBlocks_atDefaults rfl).setSmc _

/-- R191: every reset, and RSTN while asserted, leaves the defaults. -/
theorem exec_reset_atDefaults {s : State} {c : Instr} (h : c = .powerOn ∨ c = .coldReset ∨ c = .warmReset ∨ c = .rstnAssert ∨
      (c = .resetReplySent ∧ s.dev.ctu = .closed .reset true)) :
    ∃ t, exec c s = .next t ∧ t.pending = s.pending ∧ t.dev.AtDefaults fun l => (s.dev.line l).bench := by
  rcases h with rfl | rfl | rfl | rfl | ⟨rfl, hc⟩
  · exact ⟨_, exec_cold (.inl ⟨rfl, rfl, rfl⟩), rfl, Device.cold_atDefaults _ _ rfl⟩
  · exact ⟨_, exec_cold (.inr (.inl ⟨rfl, rfl, rfl⟩)), rfl, Device.cold_atDefaults _ _ rfl⟩
  · by_cases hp : s.dev.pwc.powerHeld = true
    · exact ⟨_, exec_cold (.inr (.inr ⟨rfl, hp, rfl, rfl⟩)), rfl, Device.cold_atDefaults _ _ rfl⟩
    · exact ⟨_, exec_warm (.inl ⟨rfl, Bool.eq_false_of_not_eq_true hp, rfl⟩), rfl, Device.warmReset_atDefaults _ _⟩
  · exact ⟨_, onDevice_eq rfl, rfl, s.dev.assertRstn_atDefaults⟩
  · exact ⟨_, exec_warm (.inr ⟨rfl, hc, rfl⟩), rfl, Device.warmReset_atDefaults _ _⟩

/-- R176: a source's default level and kinds. -/
theorem SourceSetting.reset_eq (i : Fin 43) :
    (SourceSetting.reset i).level = (if i.val < 4 ∨ i.val = 5 then 3 else 0) ∧
      ∀ k, (SourceSetting.reset i).kinds.getLsbD k = decide ((i.val < 4 ∨ i.val = 5) ∧ k < kindCount i) := by
  have hcount : kindCount i ≤ 16 := by
    unfold kindCount
    split <;> omega
  unfold SourceSetting.reset
  by_cases h : i.val < 4 ∨ i.val = 5
  · rw [if_pos h, if_pos h]
    refine ⟨rfl, fun k => ?_⟩
    rw [BitVec.getLsbD_ofNat, Nat.testBit_two_pow_sub_one, ← Bool.decide_and]
    exact decide_eq_decide.2 ⟨fun hk => ⟨h, hk.2⟩, fun hk => ⟨Nat.lt_of_lt_of_le hk.2 hcount, hk.2⟩⟩
  · rw [if_neg h, if_neg h]
    refine ⟨rfl, fun k => ?_⟩
    rw [decide_eq_false fun hk => h hk.1]
    exact BitVec.getLsbD_zero

end Sys2Proof.Machine

open Sys2Proof Sys2Proof.Machine

/-- Settles O51: the blocks' defaults of every reset, and what is left by a cold and by a warm one. -/
theorem resetsLeaveDefaults : Obligations.ResetsLeaveDefaults := by
  refine ⟨fun s c h => ?every, fun s c cause held h => ?cold, fun s c cause h => ?warm⟩
  case every =>
    obtain ⟨t, hx, hp, ⟨hbli, hctu, hstu, hlines, hvoices, hports, hsiu, hntu, hquiet⟩⟩ := exec_reset_atDefaults h
    refine ⟨t, hx, hp, hstu, fun v => Device.voice_reset hvoices v, fun p => ?_, hlines, hsiu, hbli, hctu, by rw [hntu]; rfl, by rw [hntu]; rfl,
      fun i => ?_, fun i => ?_, hquiet, fun hn => ⟨_, onDevice_eq (f := Device.sclkPeriod) (if_neg fun ht => ?_), rfl⟩⟩
    · rw [Device.port, hports]
      exact Vector.getElem_replicate p.isLt
    · rw [hntu]
      exact Vector.getElem_replicate i.isLt
    · have hs : t.dev.ntu.settings[i] = SourceSetting.reset i := by
        rw [hntu]
        exact Vector.getElem_ofFn i.isLt
      rw [hs]
      exact SourceSetting.reset_eq i
    · rw [Device.ticking, Bool.and_eq_true, decide_eq_true_eq, Bool.not_eq_true'] at ht
      obtain ⟨ha, hr⟩ := ht
      rcases hn with hn | hn
      · exact hn ha
      · rw [hr] at hn
        cases hn
  case cold =>
    refine ⟨_, exec_cold h, rfl, rfl, fun i => Vector.getElem_replicate i.isLt, fun i => Vector.getElem_replicate i.isLt, rfl, rfl, rfl, rfl, rfl,
      rfl, rfl, rfl, rfl, rfl, rfl, rfl, rfl, rfl, rfl, rfl, rfl, rfl, rfl, fun hh => ?_⟩
    refine onDevice_eq (f := Device.reinitCompletes) (if_neg fun hm => ?_)
    obtain ⟨-, hr⟩ := Bool.and_eq_true_iff.1 hm
    rw [Bool.not_eq_true'] at hr
    exact absurd (hr.symm.trans hh) nofun
  case warm =>
    obtain ⟨hcause, hrstn, -⟩ := Pwc.warm_records cause s.dev.pwc
    obtain ⟨y, hg, hy⟩ := s.dev.grant_warmBlocks (s.dev.pwc.warm cause)
    obtain ⟨hback, hstays, hwakes⟩ := Pwc.warm_power cause s.dev.pwc
    have hx := (exec_warm h).trans (congrArg (fun d : Device => Host.Outcome.next (s.setDev d)) hg)
    refine ⟨_, hx, rfl, rfl, fun i => Vector.getElem_map _ i.isLt, rfl, rfl, rfl, rfl, rfl, rfl, rfl, rfl, ?_, hcause, hrstn, hstays, hwakes⟩
    rcases hy with rfl | ⟨hp, ha, h0, rfl⟩
    · exact .inl ⟨rfl, rfl⟩
    · exact .inr ⟨hp, hback ha, h0, rfl, rfl⟩
end

section
/-! PROOFS. IDENT, QUERY and CAPTURE_READ: the records byte by byte (O5). -/

namespace Sys2Proof.Machine

/-! ### Bytes of a record (R172) -/

/-- R172: a record is its values one after another. -/
theorem record_foldl (a : List Byte) (ps : List (List Byte)) : record (a :: ps) = ps.foldl (· ++ ·) a := by
  induction ps generalizing a with
  | nil => exact List.append_nil a
  | cons p ps ih =>
    rw [List.foldl_cons, ← ih]
    exact (List.append_assoc a p (record ps)).symm

theorem record_append (as bs : List (List Byte)) : record (as ++ bs) = record as ++ record bs := List.flatten_append

theorem record_partsIf (b : Bool) (ps : List (List Byte)) : record (partsIf b ps) = if b then record ps else [] := by
  cases b <;> rfl

theorem flagByte_ite (b : Bool) : flagByte b = if b then [1#8] else [0#8] := by cases b <;> rfl

theorem onlyIf_decide (p : Prop) [Decidable p] (f : Field) : onlyIf (decide p) f = if p then f else [] := by
  by_cases h : p
  · rw [decide_eq_true h, if_pos h]
    rfl
  · rw [decide_eq_false h, if_neg h]
    rfl

/-- R172: a pair as two 16-bit values. -/
theorem iqBytes_eq (z : IQ) : iqBytes z = leBytes 2 (z.i % 65536).toNat ++ leBytes 2 (z.q % 65536).toNat := record_foldl _ _

theorem ResetCause.code_bytes (c : ResetCause) : leBytes 1 c.code = [match c with
    | .powerOn => 0#8
    | .resetLineCold => 1#8
    | .resetLineWarm => 2#8
    | .resetControl => 3#8] := by
  cases c <;> rfl

/-! ### The scene (R18) -/

theorem Device.voicesNotWaiting_eq (d : Device) :
    d.voicesNotWaiting = (allVoices.filter (fun v => decide ((d.voice v).cues ≠ [] ∧ (d.voice v).state ≠ .waiting))).length := by
  refine congrArg List.length (List.filter_congr fun v _ => ?_)
  rw [Bool.eq_iff_iff, Voice.notWaiting, Bool.and_eq_true, Bool.not_eq_true', List.isEmpty_eq_false_iff, decide_eq_true_eq, decide_eq_true_eq]

/-- R18: the fields of an ARMED scene's GO condition. -/
def armedFields (d : Device) (cond : Nat) (line latch : Field) (g : GoConds) : List Field :=
  [[leBytes 1 cond], line, [if g.primedWait then [1#8] else [0#8]], latch,
    [leBytes 1 (allVoices.filter (fun v => decide ((d.voice v).cues ≠ [] ∧ (d.voice v).state ≠ .waiting))).length]]

theorem goFields_eq (d : Device) : goFields d = match d.stu.scene, d.stu.go with
    | .armed, some g => (match g.cond with
      | .immediate => armedFields d 0 [] [] g
      | .line l => armedFields d 1 [leBytes 1 l.val] [if g.latch then [1#8] else [0#8]] g)
    | _, _ => [[], [], [], [], []] := by
  unfold goFields armedFields
  rw [Device.voicesNotWaiting_eq]
  cases d.stu.scene with
  | armed =>
    cases d.stu.go with
    | none => rfl
    | some g =>
      simp only [flagByte_ite]
      cases g.cond <;> rfl
  | stopped => rfl
  | running => rfl
  | paused => rfl

/-! ### Voices (R48) -/

theorem Cue.verdict_bytes (c : Cue) : record c.verdictParts = match c.verdict with
    | .skipped r => [1#8] ++ leBytes 1 r.code ++ [0#8]
    | .resident l clamped => [0#8] ++ (if clamped then [1#8] else [0#8]) ++ leBytes 4 l
    | .ring _ => [0#8, 0#8] ++ (if c.length = 0 then [] else leBytes 4 c.length)
    | _ => [0#8, 0#8] := by
  unfold Cue.verdictParts
  cases c.verdict with
  | undecided => rfl
  | skipped r => exact record_foldl _ _
  | resident l k =>
    dsimp only
    rw [← flagByte_ite]
    exact record_foldl _ _
  | ring b =>
    show record ([flagByte false, flagByte false] ++ _) = _
    rw [record_append, record_partsIf]
    by_cases h : c.length = 0
    · rw [decide_eq_false (not_not_intro h), if_pos h]
      rfl
    · rw [decide_eq_true h, if_neg h]
      rfl
  | ringWaiting => rfl

theorem Cue.bytes_eq (c : Cue) :
    c.bytes = leBytes 2 c.label.toNat ++ leBytes 1 c.take.val ++ leBytes 1 c.mode.code ++ record c.verdictParts := by
  rw [Cue.bytes, record_append, record_foldl]
  rfl

/-- R48: the fetch cursor in a voice record. -/
theorem cursorField_eq (k : Cursor) : cursorField k = match k with
    | .atTarget i p b _ => [leBytes 1 i ++ leBytes 4 p ++ ([0#8] ++ leBytes 4 b.toNat)]
    | .held i p (some b) => [leBytes 1 i ++ leBytes 4 p ++ ([0#8] ++ leBytes 4 b.toNat)]
    | .held i p none => [leBytes 1 i ++ leBytes 4 p ++ [1#8]]
    | _ => [] := by
  have htarget : ∀ b : BlockNo, targetBytes (some b) = [0#8] ++ leBytes 4 b.toNat := fun b => record_foldl _ _
  unfold cursorField
  cases k with
  | atTarget i p b least =>
    dsimp only
    rw [← htarget]
    exact congrArg (fun x => [x]) (record_foldl _ _)
  | held i p b =>
    cases b with
    | none => exact congrArg (fun x => [x]) (record_foldl _ _)
    | some b =>
      show [record [_, _, targetBytes (some b)]] = _
      rw [htarget]
      exact congrArg (fun x => [x]) (record_foldl _ _)
  | cleared => rfl
  | atEnd => rfl

theorem rampField_eq (r : Option Ramp) : rampField r = match r with
    | some r => [leBytes 2 r.target ++ leBytes 2 r.interval]
    | none => [] := by
  cases r with
  | none => rfl
  | some r => exact congrArg (fun x => [x]) (record_foldl _ _)

/-! ### Takes (R130) -/

theorem Take.writtenBytes_eq (t : Take) : t.writtenBytes = leBytes 3 t.written.length ++ (match t.written.getLast? with
    | some h => leBytes 3 h ++ leBytes 2 t.lastCount
    | none => []) := by
  unfold Take.writtenBytes
  rw [Take.writtenEnd_eq]
  cases hl : t.written.getLast? with
  | none =>
    rw [List.getLast?_eq_none_iff.1 hl]
    exact record_foldl _ _
  | some h =>
    have hne : t.written.isEmpty = false := by
      rw [List.isEmpty_eq_false_iff]
      rintro hn
      rw [hn] at hl
      cases hl
    rw [hne]
    show record [_, leBytes 3 (h + 1 - 1), leBytes 2 t.lastCount] = _
    rw [record_foldl, Nat.add_sub_cancel]
    exact List.append_assoc _ _ _

theorem Verify.bad_eq (r : Verify) : r.badBytes = match r.firstBad with
    | some (b, st) => [0#8] ++ leBytes 4 b.toNat ++ leBytes 1 st.code
    | Option.none => [1#8] := by
  unfold Verify.badBytes
  cases r.firstBad with
  | none => rfl
  | some x => exact record_foldl _ _

theorem Verify.bytes_eq (r : Verify) :
    r.bytes = leBytes 1 r.state.code ++ leBytes 4 r.first.toNat ++ leBytes 4 (r.first + BitVec.ofNat 32 r.size).toNat ++ leBytes 4 r.checked ++
      leBytes 4 r.absent ++ leBytes 4 r.corrupt ++ r.badBytes ++ (if r.state = .running then leBytes 4 r.next.toNat else []) := by
  have hnext : record (partsIf (decide (r.state = .running)) [leBytes 4 r.next.toNat]) =
      if r.state = .running then leBytes 4 r.next.toNat else [] := by
    rw [record_partsIf]
    by_cases h : r.state = .running
    · rw [decide_eq_true h, if_pos h]
      rfl
    · rw [decide_eq_false h, if_neg h]
      rfl
  rw [Verify.bytes, record_append, hnext, Verify.rangeBytes, Verify.countBytes]
  simp only [record, List.flatten_cons, List.flatten_nil, List.append_nil, List.append_assoc]

theorem onlyIf_held {s : TakeState} (f : Field) : onlyIf (decide (s ≠ .free)) f = if s = .free then [] else f := by
  rw [onlyIf_decide, ite_not]

theorem onlyIf_streaming {s : TakeState} (f : Field) :
    onlyIf (decide (s = .live) || decide (s = .ended)) f = if s = .live ∨ s = .ended then f else [] := by
  rw [← onlyIf_decide, Bool.decide_or]

theorem tagField_eq (tag : Option (BitVec 16)) : (match tag with
    | some g => num 2 g.toNat
    | none => []) = match tag with
    | some g => [leBytes 2 g.toNat]
    | none => [] := rfl

/-! ### Ports and lines (R95, R101) -/

theorem Port.condition_code (powered : Bool) (scene : SceneState) (p : Port) :
    (p.condition powered scene).code = if powered = false then 0 else if p.enable = false then 1 else match scene with
      | .running => 3
      | .paused => if p.pause = .hold then 4 else 5
      | _ => 2 := by
  unfold Port.condition
  cases powered with
  | false => rfl
  | true =>
    cases p.enable with
    | false => rfl
    | true => cases scene <;> cases p.pause <;> rfl

theorem Device.ticking_eq_false (d : Device) : d.ticking = false ↔ d.pwc.power ≠ .active ∨ d.pwc.rstn = true := by
  rw [Device.ticking, Bool.and_eq_false_iff, decide_eq_false_iff_not, Bool.not_eq_false']

theorem Line.bytes_eq (asleep : Bool) (l : Line) :
    l.bytes asleep = leBytes 1 l.dir.code ++ leBytes 1 l.edgeMode.code ++ (if l.capture then [1#8] else [0#8]) ++
      (if l.wake then [1#8] else [0#8]) ++ leBytes 1 l.sleepMode.code ++ (if l.latch then [1#8] else [0#8]) ++
      (if l.sensed asleep then [1#8] else [0#8]) ++ leBytes 2 l.pulse := by
  rw [Line.bytes, record_foldl]
  simp only [flagByte_ite]
  rfl

theorem Marker.bytes_eq (m : Marker) : m.bytes = leBytes 6 m.time ++ leBytes 1 m.line.val ++ (match m.action with
    | .set => [0#8]
    | .clear => [1#8]
    | .toggle => [2#8]
    | .pulse w => [3#8] ++ leBytes 2 w) := by
  unfold Marker.bytes
  cases m.action with
  | set => exact record_foldl _ _
  | clear => exact record_foldl _ _
  | toggle => exact record_foldl _ _
  | pulse w =>
    show record [timeBytes m.time, leBytes 1 m.line.val, leBytes 1 3, leBytes 2 w] = _
    rw [record_foldl]
    exact List.append_assoc _ _ _

theorem Capture.bytes_eq (c : Capture) :
    c.bytes = leBytes 1 c.line.val ++ leBytes 1 c.edge.code ++ leBytes 6 c.time ++ leBytes 1 c.scene.code := record_foldl _ _

/-! ### Segments (R164) -/

theorem holderBytes_eq (d : Device) (g : Fin 64) :
    holderBytes d g = match all64.find? (fun t => decide (g ∈ (d.take t).segments)) with
      | some t => [0#8] ++ leBytes 1 t.val ++ leBytes 1 ((d.take t).segments.idxOf g)
      | none => [1#8] := by
  have hholder : d.holder g = all64.find? (fun t => decide (g ∈ (d.take t).segments)) :=
    congrArg (fun p => all64.find? p) (funext fun t => List.contains_eq_mem g (d.take t).segments)
  unfold holderBytes
  rw [hholder]
  cases all64.find? (fun t => decide (g ∈ (d.take t).segments)) with
  | none => rfl
  | some t => exact record_foldl _ _

theorem Engine.nextWord_eq (e : Engine) :
    e.nextWord = if 4194304 ≤ e.pos.word then 4194304
      else if e.pattern = .march ∧ (e.pos.sweep % 6 = 3 ∨ e.pos.sweep % 6 = 4) then 4194303 - e.pos.word else e.pos.word := by
  by_cases h : 4194304 ≤ e.pos.word
  · rw [if_pos h]
    exact if_neg (Nat.not_lt.2 h)
  · rw [if_neg h, ← wordAt_eq]
    exact if_pos (Nat.lt_of_not_le h)

theorem Engine.bytes_eq (e : Engine) :
    e.bytes = leBytes 1 e.state.code ++ (if e.state = .idle then [] else leBytes 1 e.mode.code ++ leBytes 1 e.pattern.code) ++
      (if e.state = .running ∨ e.state = .halted ∨ e.state = .stopping then
        leBytes 4 e.pass ++ leBytes 1 e.pos.seg.val ++ leBytes 1 e.pos.sweep ++ leBytes 3 e.nextWord else []) ++
      (if e.state = .clearing then leBytes 1 (e.clearing.headD 0).val ++ leBytes 2 e.clearBlock else []) := by
  unfold Engine.bytes
  rw [record_append, record_append, record_append, record_partsIf, record_partsIf, record_partsIf]
  cases e.state <;> simp [record]

theorem failureBytes_eq (o : Option Failure) : failureBytes o = match o with
    | some f => [0#8] ++ leBytes 1 f.seg.val ++ leBytes 4 f.offset ++ leBytes 1 f.lanes ++ leBytes 8 f.expected.toNat ++
        leBytes 8 f.observed.toNat ++ leBytes 4 f.pass
    | none => [1#8] := by
  cases o with
  | none => rfl
  | some f => exact record_foldl _ _

theorem summaryBytes_eq (o : Option EndSummary) : summaryBytes o = match o with
    | some x => [0#8] ++ leBytes 1 x.cause.code ++ leBytes 1 x.mode.code ++ leBytes 1 x.pattern.code ++ leBytes 4 x.passes ++
        leBytes 1 x.good ++ leBytes 1 x.failed ++ leBytes 1 x.untested ++ (if x.locked then [1#8] else [0#8])
    | none => [1#8] := by
  cases o with
  | none => rfl
  | some x =>
    dsimp only
    rw [← flagByte_ite]
    exact record_foldl _ _

theorem injectionBytes_parts (o : Option Injection) : injectionBytes o = match o with
    | none => [0#8]
    | some x => [1#8] ++ leBytes 1 x.take.val ++ leBytes 4 x.block.toNat ++ (if x.armed then [1#8] else [0#8]) := by
  cases o with
  | none => rfl
  | some x =>
    dsimp only
    rw [← flagByte_ite]
    exact record_foldl _ _

theorem portBytes_eq (o : Option Burst) : portBytes o = match o with
    | none => [0#8]
    | some .refresh => [1#8]
    | some (.fetch v _) => [2#8] ++ leBytes 1 v.val
    | some (.intake _ _) => [3#8]
    | some (.peek _) => [4#8]
    | some (.verify _ _) => [5#8]
    | some (.selftest _ _ _) => [6#8]
    | some (.clearing _) => [7#8] := by
  cases o with
  | none => rfl
  | some b => cases b <;> rfl

/-! ### Streams (R146) -/

theorem IntakeStage.bytes_eq (st : IntakeStage) : st.bytes = match st with
    | .idle => [0#8]
    | .judged j => [1#8] ++ leBytes 2 j.packet.tag.toNat ++ leBytes 4 j.packet.seq.toNat
    | .writing j => [2#8] ++ leBytes 2 j.packet.tag.toNat ++ leBytes 4 j.packet.seq.toNat := by
  cases st with
  | idle => rfl
  | judged j => exact record_foldl _ _
  | writing j => exact record_foldl _ _

theorem StreamEntry.bytes_eq (e : StreamEntry) :
    e.bytes = leBytes 2 e.tag.toNat ++ leBytes 1 e.take.val ++ leBytes 4 e.accepted ++ leBytes 4 e.dropped := record_foldl _ _

/-! ### The controls (R104, R173, R174) -/

/-- R173: IDENT in ACTIVE. -/
theorem identRecord_eq {d : Device} (h : d.pwc.power = .active) :
    identRecord d = [[[0x04#8, 0x32#8]], [[1#8]], [[32#8, 4#8, 8#8]], [[64#8, 0x00#8, 0x80#8]], [[64#8, 16#8, 8#8]], [[16#8, 32#8, 43#8]],
      [[0#8]], [leBytes 1 d.pwc.resetCause.code]] := by
  unfold identRecord
  rw [h]
  rfl

section
variable {s : State} {body : List Byte} {ts : List Tuple}

/-- R174: a QUERY of a target that is one of a kind. -/
theorem arriveControl_query (h : s.Takes body ts) (tag : BitVec 16) {fs : List Field}
    (hq : ctlQuery ts s.dev.reloadQuiet = accept s.dev.reloadQuiet fs) :
    arriveControl tag 0x02#8 body s = .next (s.setDev (s.dev.answered tag 0x02#8 .ok fs)) :=
  arriveControl_answered h tag 0x02#8 (f := ctlQuery) rfl hq h.settled

/-- R174: a QUERY of one of n objects. -/
theorem arriveControl_queryOf (h : s.Takes body ts) (tag : BitVec 16) {n k : Nat} {f : Fin n → List Field}
    (hq : ctlQuery ts s.dev.reloadQuiet = queryOf n k s.dev.reloadQuiet f) :
    arriveControl tag 0x02#8 body s = .next (s.setDev
      (if hk : k < n then s.dev.answered tag 0x02#8 .ok (f ⟨k, hk⟩) else s.dev.answered tag 0x02#8 .range [])) := by
  by_cases hk : k < n
  · rw [queryOf, numberOf_of_lt hk] at hq
    rw [dif_pos hk]
    exact arriveControl_query h tag hq
  · rw [queryOf, numberOf_of_le (Nat.not_lt.1 hk)] at hq
    rw [dif_neg hk]
    exact arriveControl_refused h tag 0x02#8 (f := ctlQuery) rfl hq

end

end Sys2Proof.Machine

open Sys2Proof Sys2Proof.Machine

/-- Settles O5: each control by its answer, and each record field by field. -/
theorem identQueryAndCaptureReadReply : Obligations.IdentQueryAndCaptureReadReply := by
  refine ⟨fun s tag body ts h => ?ident, fun s tag index rest ts => ?query, ⟨fun d => ?scene, fun v => ?voice, fun d i => ?take, fun d p => ?port,
    fun d => ?lines, fun d => ?segments, fun d => ?streams, rfl, rfl, rfl, rfl, rfl, rfl, rfl, rfl, rfl, rfl, rfl, rfl, rfl, rfl, rfl, rfl, rfl,
    rfl, rfl, rfl, rfl, rfl⟩, fun s tag body ts h => ?capture⟩
  case ident =>
    have hid := identRecord_eq (d := s.dev.reloadQuiet) h.listening.active
    have hcause : leBytes 1 s.dev.pwc.resetCause.code = _ := ResetCause.code_bytes s.dev.pwc.resetCause
    refine (arriveControl_answered h tag 0x01#8 (f := ctlIdent) (fs := identRecord s.dev.reloadQuiet) rfl rfl h.settled).trans ?_
    rw [hid]
    exact congrArg (fun b => Host.Outcome.next (s.setDev (s.dev.answered tag 0x01#8 .ok
      [[[0x04#8, 0x32#8]], [[1#8]], [[32#8, 4#8, 8#8]], [[64#8, 0x00#8, 0x80#8]], [[64#8, 16#8, 8#8]], [[16#8, 32#8, 43#8]], [[0#8]], [b]])))
      hcause
  case query =>
    have htarget : ∀ target : Byte, argument 0x07 ts = some [target, index] → ctlQuery ts s.dev.reloadQuiet = match target.toNat with
        | 0 => accept s.dev.reloadQuiet (sceneRecord s.dev)
        | 1 => queryOf 32 index.toNat s.dev.reloadQuiet (fun v => voiceRecord (s.dev.voice v))
        | 2 => queryOf 64 index.toNat s.dev.reloadQuiet (takeRecord s.dev)
        | 3 => queryOf 4 index.toNat s.dev.reloadQuiet (portRecord s.dev)
        | 4 => accept s.dev.reloadQuiet (linesRecord s.dev)
        | 5 => accept s.dev.reloadQuiet (segmentsRecord s.dev)
        | 6 => accept s.dev.reloadQuiet (streamsRecord s.dev)
        | _ => refuse s.dev.reloadQuiet .malformed := by
      intro target ha
      simp only [ctlQuery, ha, field_zero_byte, field_one_byte]
      rfl
    exact ⟨fun h ha => arriveControl_query h tag (htarget 0#8 ha), fun h ha => arriveControl_queryOf h tag (htarget 1#8 ha),
      fun h ha => arriveControl_queryOf h tag (htarget 2#8 ha), fun h ha => arriveControl_queryOf h tag (htarget 3#8 ha),
      fun h ha => arriveControl_query h tag (htarget 4#8 ha), fun h ha => arriveControl_query h tag (htarget 5#8 ha),
      fun h ha => arriveControl_query h tag (htarget 6#8 ha)⟩
  case scene =>
    intro armed
    unfold sceneRecord
    rw [flagByte_ite, flagByte_ite, flagByte_ite]
    exact congrArg₂ HAppend.hAppend (congrArg₂ HAppend.hAppend rfl (goFields_eq d)) rfl
  case voice =>
    intro cue cursor
    have hcues : v.cues.map Cue.bytes = v.cues.map cue := List.map_congr_left fun c _ =>
      (Cue.bytes_eq c).trans (congrArg₂ HAppend.hAppend rfl (Cue.verdict_bytes c))
    have hbegun : onlyIf v.started [record [leBytes 4 v.pass, leBytes 4 v.offset]] =
        if v.started then [leBytes 4 v.pass ++ leBytes 4 v.offset] else [] := by
      rw [record_foldl]
      rfl
    have hrest : record [leBytes 1 v.rest.code, iqBytes v.lastOut] = leBytes 1 v.rest.code ++ _ :=
      (record_foldl _ _).trans (congrArg₂ HAppend.hAppend rfl (iqBytes_eq v.lastOut))
    unfold voiceRecord
    rw [hcues, hbegun, hrest]
    exact congrArg₂ List.cons rfl <| congrArg₂ List.cons (congrArg (fun b => [b]) (record_foldl _ _)) <| congrArg₂ List.cons rfl <|
      congrArg₂ List.cons rfl <| congrArg₂ List.cons rfl <| congrArg₂ List.cons rfl <| congrArg₂ List.cons (cursorField_eq v.cursor) <|
      congrArg₂ List.cons rfl <| congrArg₂ List.cons rfl <| congrArg₂ List.cons (rampField_eq v.ramp) <|
      congrArg₂ List.cons (congrArg (fun b => [b]) (record_foldl _ _)) <| congrArg₂ List.cons (congrArg (fun b => [b]) (record_foldl _ _)) rfl
  case take =>
    intro t held r
    have hheld : ∀ f, onlyIf (decide (t.state ≠ .free)) f = held f := onlyIf_held
    have hfilling : onlyIf (decide (t.state = .filling)) [t.writtenBytes] = if t.state = .filling then [leBytes 3 t.written.length ++ _] else [] :=
      (onlyIf_decide _ _).trans (congrArg (fun b => if t.state = .filling then [b] else []) t.writtenBytes_eq)
    have hready : onlyIf (decide (t.state = .ready)) [record [leBytes 3 t.blockCount, leBytes 4 t.length, leBytes 3 t.holes]] =
        if t.state = .ready then [leBytes 3 t.blockCount ++ leBytes 4 t.length ++ leBytes 3 t.holes] else [] :=
      (onlyIf_decide _ _).trans (congrArg (fun b => if t.state = .ready then [b] else []) (record_foldl _ _))
    have hring : onlyIf (decide (t.state = .live) || decide (t.state = .ended)) [ringBytes t.ring] = if t.state = .live ∨ t.state = .ended then [_] else [] :=
      (onlyIf_streaming _).trans (congrArg (fun b => if t.state = .live ∨ t.state = .ended then [b] else []) (ringBytes_eq t.ring))
    have hverify : r.bytes = _ ++ r.badBytes ++ (if r.state = .running then leBytes 4 r.next.toNat else []) := r.bytes_eq
    exact congrArg₂ List.cons rfl <| congrArg₂ List.cons (hheld _) <| congrArg₂ List.cons (hheld _) <| congrArg₂ List.cons (hheld _) <|
      congrArg₂ List.cons (hheld _) <| congrArg₂ List.cons (hheld _) <| congrArg₂ List.cons (hheld _) <| congrArg₂ List.cons hfilling <|
      congrArg₂ List.cons hready <| congrArg₂ List.cons hring <| congrArg₂ List.cons (tagField_eq t.tag) <| congrArg₂ List.cons (hheld _) <|
      congrArg₂ List.cons (congrArg (fun b => [b]) (hverify.trans (congrArg₂ HAppend.hAppend (congrArg₂ HAppend.hAppend rfl r.bad_eq) rfl))) rfl
  case port =>
    intro x condition
    have hcondition : (x.condition d.ticking d.stu.scene).code = condition := by
      refine (Port.condition_code _ _ _).trans ?_
      simp only [Device.ticking_eq_false]
      rfl
    have hset : record [flagByte x.enable, leBytes 1 x.headroom, leBytes 2 x.atten, leBytes 1 x.width.bits, leBytes 1 x.pause.code] = _ :=
      (record_foldl _ _).trans (by rw [flagByte_ite])
    exact congrArg₂ List.cons (congrArg (fun b => [b]) hset) <| congrArg₂ List.cons (congrArg (fun n => [leBytes 1 n]) hcondition) <|
      congrArg₂ List.cons (congrArg (fun b => [b]) (iqBytes_eq x.last)) rfl
  case lines =>
    have hlines : allLines.map (fun i => (d.line i).bytes d.asleep) = allLines.map _ := List.map_congr_left fun i _ => Line.bytes_eq _ _
    have hmarkers : d.stu.markers.map Marker.bytes = d.stu.markers.map _ := List.map_congr_left fun m _ => Marker.bytes_eq m
    have hcaptures : record [leBytes 1 d.stu.captures.length, flagByte d.stu.overrun] =
        leBytes 1 d.stu.captures.length ++ if d.stu.overrun then [1#8] else [0#8] := by
      rw [record_foldl, flagByte_ite]
      rfl
    exact congrArg₂ List.cons hlines <| congrArg₂ List.cons (congrArg (fun b => [b]) hcaptures) <| congrArg₂ List.cons rfl <|
      congrArg₂ List.cons hmarkers rfl
  case segments =>
    intro e next
    have hnext : e.nextWord = next := e.nextWord_eq
    have hseg : ∀ g : Fin 64, record [leBytes 1 (d.smc.segs[g]).code, holderBytes d g] = leBytes 1 (d.smc.segs[g]).code ++ holderBytes d g :=
      fun g => record_foldl _ _
    have hsegs : all64.map (fun g => record [leBytes 1 (d.smc.segs[g]).code, holderBytes d g]) = all64.map _ := List.map_congr_left fun g _ =>
      (hseg g).trans (congrArg (leBytes 1 (d.smc.segs[g]).code ++ ·) (holderBytes_eq d g))
    have hport : record [portBytes d.smc.port, leBytes 1 d.smc.lastVoice.val] = _ ++ leBytes 1 d.smc.lastVoice.val :=
      (record_foldl _ _).trans (congrArg (· ++ leBytes 1 d.smc.lastVoice.val) (portBytes_eq d.smc.port))
    have hengine := e.bytes_eq
    rw [hnext] at hengine
    exact congrArg₂ List.cons hsegs <| congrArg₂ List.cons (congrArg (fun b => [b]) hengine) <|
      congrArg₂ List.cons (congrArg (fun b => [b]) (failureBytes_eq e.failure)) <|
      congrArg₂ List.cons (congrArg (fun b => [b]) (summaryBytes_eq e.summary)) <| congrArg₂ List.cons (congrArg (fun b => [b]) (record_foldl _ _)) <|
      congrArg₂ List.cons (congrArg (fun b => [b]) (injectionBytes_parts d.smc.injection)) <|
      congrArg₂ List.cons (congrArg (fun b => [b]) hport) rfl
  case streams =>
    exact congrArg₂ List.cons rfl <| congrArg₂ List.cons (List.map_congr_left fun e _ => StreamEntry.bytes_eq e) <| congrArg₂ List.cons rfl <|
      congrArg₂ List.cons rfl <| congrArg₂ List.cons (congrArg (fun b => [b]) (IntakeStage.bytes_eq d.siu.stage)) rfl
  case capture =>
    have hbytes : s.dev.stu.captures.map Capture.bytes = s.dev.stu.captures.map _ := List.map_congr_left fun c _ => Capture.bytes_eq c
    refine (arriveControl_answered h tag 0x03#8 (f := ctlCaptureRead) rfl rfl (e := s.dev.setStu { s.dev.stu with captures := [], overrun := false })
      (h.settled.congr rfl rfl rfl rfl rfl rfl)).trans ?_
    rw [← hbytes, ← flagByte_eq]
    rfl
end
